-- ==== Sys2Proof/Word.lean ====
section
/-! DEFINITION. The plainest number types of the part: a byte of a line, and the numbers of crane slots, zones,
plans, sectors and radius bands (00_scope, "Numbering"). -/

namespace Sys2Proof

/-- One character of a serial line, eight data bits (R195). -/
abbrev Byte := BitVec 8

/-- A crane slot, 0..11. -/
abbrev Slot := Fin 12

/-- A shared zone number, 0..47. -/
abbrev ZoneId := Fin 48

/-- A plan number, 0..31. -/
abbrev PlanId := Fin 32

/-- An angular sector, 0..127. Addition wraps: sector arithmetic is modulo 128 (R4). -/
abbrev Sector := Fin 128

/-- A radius band, 0..7. -/
abbrev Band := Fin 8

/-- Uptime and lengths of time, in milliseconds (R41). -/
abbrev Ms := Nat

end Sys2Proof
end

