-- ==== Sys2Proof/Syntax.lean ====
section
/-! DEFINITION. The commands of the part: one constructor of `Instr` for each row of spec/opcode_table.json, and the
operands they carry. Operands are what a frame carries, before any check of the part. -/

namespace Sys2Proof

/-! ## Names used by operands -/

/-- The five fault causes, in the order of R9 and section 9.1. -/
inductive FaultCause where
  | intrusion | overload | poseInvalid | linkLost | eStop
  deriving DecidableEq, Repr

/-- The six report key kinds, with their values 0..5 (section 10.4). -/
inductive KeyKind where
  | crane | wind | zone | booking | channel | cabAck
  deriving DecidableEq, Repr

/-- The three cell tables (R7). -/
inductive CellTable where
  | jib | tail | hook
  deriving DecidableEq, Repr

/-- The ten lengths of a crane record and its dynamics, all fields of R1 but the kind. -/
structure CraneDims where
  baseEast : Int
  baseNorth : Int
  bearingOffset : Nat
  jibLength : Nat
  minRadius : Nat
  /-- Band edges 1..7; edge 0 is `minRadius` and edge 8 is `jibLength` (R3). -/
  edges : Vector Nat 7
  tipOverhang : Option Nat
  maxSlewRate : Nat
  slewDecel : Nat
  reactionTime : Nat
  slewMargin : Nat
  slowBand : Nat
  lookAhead : Nat
  driftCoeff : Nat
  maxRadialSpeed : Nat
  radialDecel : Nat
  radiusMargin : Nat
  radialSlowBand : Nat
  deriving DecidableEq, Repr

/-- The record operand of LOAD_CRANE. `kind` is the code of R192: 0 FLAT, 1 LUFFING; any other is out of range. -/
structure CraneFields extends CraneDims where
  kind : Nat
  deriving DecidableEq, Repr

/-- The site profile (R9). It is also the operand of LOAD_PROFILE. -/
structure SiteProfile where
  slowCap : Nat
  creepCap : Nat
  emptyLoad : Nat
  parkHeight : Nat
  parkRadius : Nat
  watchGust : Nat
  holdGust : Nat
  holdMean : Nat
  stormGust : Nat
  hysteresis : Nat
  watchResume : Nat
  holdResume : Nat
  stormResume : Nat
  stormAfterHold : Nat
  /-- The fault auto-clear set, as the causes it names. -/
  autoClear : List FaultCause
  prescaler : Nat
  /-- The report kind mask: the kinds whose reports are sent (log 8). -/
  reportKinds : List KeyKind
  deriving DecidableEq, Repr

/-! ## Plan steps (section 8.1) -/

/-- The cell of an AT_CELL condition: a cell, the booking's pick cell, or its set cell. -/
inductive CellRef where
  | cell (sector band : Nat)
  | pick
  | set
  deriving DecidableEq, Repr

/-- The conditions of AWAIT (R151). -/
inductive AwaitCond where
  | atCell (cell : CellRef) (tolerance : Nat)
  | loadOn (load : Nat)
  | loadOff (load : Nat)
  | hookAbove (height : Nat)
  deriving DecidableEq, Repr

/-- What a wait limit's expiry does: the booking fails, or the step completes with a jump (R150). -/
inductive OnTimeout where
  | fail
  | goto (step : Nat)
  deriving DecidableEq, Repr

/-- The conditions of CHECK (R155). -/
inductive CheckCond where
  | windBelowLimit
  | stateCalm
  | loadBelow (load : Nat)
  | holding (zone : Nat)
  | windowOpen
  deriving DecidableEq, Repr

/-- The zones of a RELEASE step: named ones, or all. -/
inductive ReleaseZones where
  | named (zones : List Nat)
  | all
  deriving DecidableEq, Repr

/-- A plan step with its operands (section 8.1). Operands may be out of range: R144 judges them. -/
inductive PlanStep where
  | claim (zones : List Nat) (limitSeconds : Nat) (onTimeout : OnTimeout)
  | await (cond : AwaitCond) (limitSeconds : Nat) (onTimeout : OnTimeout)
  | ack (code : Nat) (limitSeconds : Nat) (onTimeout : OnTimeout)
  | notify (code param1 param2 : Nat)
  | hold (ticks : Nat)
  | repeatStep (count : Nat)
  | loop
  | check (cond : CheckCond) (target : Nat)
  | release (zones : ReleaseZones)
  | endStep
  deriving DecidableEq, Repr

/-- One step of LOAD_PLAN's operand, as the frame carries it: a step of one of the ten kinds, a step of an unknown
kind, or a step whose operands do not fit its kind (R143, third check). -/
inductive StepField where
  | step (s : PlanStep)
  | unknownKind (code : Nat)
  | misfit (kind : Nat)
  deriving DecidableEq, Repr

/-! ## Other request operands -/

/-- A cell address of a booking, as carried: sector and band. -/
structure CellAddr where
  sector : Nat
  band : Nat
  deriving DecidableEq, Repr

/-- The operands of BOOK: the fixed fields of R125. `kind` is the code of R192: 0 NORMAL, 1 URGENT, 2 SUPERSEDE,
3 SERVICE; any other is not among the four. -/
structure BookFields where
  number : Nat
  crane : Nat
  kind : Nat
  start : Nat
  finish : Nat
  priority : Nat
  mass : Nat
  windLimit : Option Nat
  pick : CellAddr
  set : CellAddr
  plan : Nat
  repeatOverride : Option Nat
  stepMode : Bool
  deriving DecidableEq, Repr

/-- The destination of RELAY (R186). -/
inductive RelayDest where
  | one (slot : Nat)
  | all
  | allExcept (slot : Nat)
  deriving DecidableEq, Repr

/-- A pose report as its frame carries it (R193). The signed fields are two's complement. -/
structure PoseFrame where
  sequence : Byte
  cabBearing : BitVec 16
  slewRate : BitVec 16
  radius : BitVec 32
  radialSpeed : BitVec 16
  hookHeight : BitVec 32
  load : BitVec 16
  windSample : BitVec 16
  /-- bit 0 emergency stop; bit 1 slew brake released; bit 2 operator present; bit 3 wind sensor fault; bit 4
  wind-valid; bits 5 to 7 not read. -/
  flags : Byte
  deriving DecidableEq, Repr

/-- The moment of an interrupted survey exit at which a reset or the loss of power arrives (R17's last table): before the
image is marked invalid, after that and before the CRC-16 is written, or after it. It is read only while a survey exit is
in flight. -/
inductive WriteMoment where
  | beforeMark
  | beforeCrc
  | afterCrc
  deriving DecidableEq, Repr

/-- A well-formed request of the host: one of the 35 kinds of section 10.3 with its fields. -/
inductive Request where
  | identify
  | reset
  | setClock (minute : Option Nat) (prescaler : Option Nat)
  | readClock
  | enterSurvey
  | leaveSurvey
  /-- `fields` is absent when the configured field is no (R2). -/
  | loadCrane (slot : Nat) (fields : Option CraneFields)
  /-- Classes are bytes coded as R192 states. -/
  | loadCells (slot : Nat) (table : CellTable) (first count : Nat) (classes : List Byte)
  | loadChart (slot : Nat) (capacities : Vector Nat 8)
  | loadProfile (profile : SiteProfile)
  | loadPlan (number : Nat) (steps : List StepField)
  | book (fields : BookFields)
  | cancel (number : Nat)
  | suspendChannel (slot : Nat)
  | resumeChannel (slot : Nat)
  | stepMode (slot : Nat) (on : Bool)
  | continueStep (slot : Nat)
  | closeZone (zone : Nat)
  | openZone (zone : Nat)
  | forceRelease (zone : Nat)
  /-- `level` is coded 0 CALM, 1 WATCH, 2 HOLD, 3 STORM (R192); any other is out of range (R115). -/
  | declareWind (level : Nat)
  | clearFault (slot : Nat)
  | recover (slot : Nat)
  | clearLockout (slot : Nat)
  | removeCrane (slot : Nat)
  | admitCrane (slot : Nat)
  | relay (dest : RelayDest) (code : Byte) (ackRequest : Bool) (text : List Byte)
  | readCrane (slot : Nat)
  | readZone (zone : Nat)
  | readBooking (number : Nat)
  | readChannel (slot : Nat)
  | readWind (slot : Nat)
  | readFault (slot : Nat)
  | readErrors
  | setReportMask (masked : List KeyKind)
  deriving DecidableEq, Repr

/-- The kind value of a request (section 10.3). -/
def Request.kind : Request → Nat
  | .identify => 1
  | .reset => 2
  | .setClock .. => 3
  | .readClock => 4
  | .enterSurvey => 5
  | .leaveSurvey => 6
  | .loadCrane .. => 7
  | .loadCells .. => 8
  | .loadChart .. => 9
  | .loadProfile .. => 10
  | .loadPlan .. => 11
  | .book .. => 12
  | .cancel .. => 13
  | .suspendChannel .. => 14
  | .resumeChannel .. => 15
  | .stepMode .. => 16
  | .continueStep .. => 17
  | .closeZone .. => 18
  | .openZone .. => 19
  | .forceRelease .. => 20
  | .declareWind .. => 21
  | .clearFault .. => 22
  | .recover .. => 23
  | .clearLockout .. => 24
  | .removeCrane .. => 25
  | .admitCrane .. => 26
  | .relay .. => 27
  | .readCrane .. => 28
  | .readZone .. => 29
  | .readBooking .. => 30
  | .readChannel .. => 31
  | .readWind .. => 32
  | .readFault .. => 33
  | .readErrors => 34
  | .setReportMask .. => 35

/-! ## The commands -/

/-- The commands of the part, one constructor for each row of spec/opcode_table.json, in the table's order. A request
command carries the tag its frame carries (R193). Slots and zones of the part's own events are numbers in range. -/
inductive Instr where
  | powerOn
  | resetLine (moment : WriteMoment)
  | siteReset
  | siteFrame (bytes : List Byte)
  | siteRxTimeout
  | siteTxDone
  | unknownRequest (tag : Byte) (kind : Byte)
  | identify (tag : Byte)
  | reset (tag : Byte)
  | setClock (tag : Byte) (minute : Option Nat) (prescaler : Option Nat)
  | readClock (tag : Byte)
  | enterSurvey (tag : Byte)
  | leaveSurvey (tag : Byte)
  | nvWriteDone (ok : Bool)
  | loadCrane (tag : Byte) (slot : Nat) (fields : Option CraneFields)
  | loadCells (tag : Byte) (slot : Nat) (table : CellTable) (first count : Nat) (classes : List Byte)
  | loadChart (tag : Byte) (slot : Nat) (capacities : Vector Nat 8)
  | loadProfile (tag : Byte) (profile : SiteProfile)
  | loadPlan (tag : Byte) (number : Nat) (steps : List StepField)
  | book (tag : Byte) (fields : BookFields)
  | cancel (tag : Byte) (number : Nat)
  | suspendChannel (tag : Byte) (slot : Nat)
  | resumeChannel (tag : Byte) (slot : Nat)
  | stepMode (tag : Byte) (slot : Nat) (on : Bool)
  | continueStep (tag : Byte) (slot : Nat)
  | closeZone (tag : Byte) (zone : Nat)
  | openZone (tag : Byte) (zone : Nat)
  | forceRelease (tag : Byte) (zone : Nat)
  | declareWind (tag : Byte) (level : Nat)
  | clearFault (tag : Byte) (slot : Nat)
  | recover (tag : Byte) (slot : Nat)
  | clearLockout (tag : Byte) (slot : Nat)
  | removeCrane (tag : Byte) (slot : Nat)
  | admitCrane (tag : Byte) (slot : Nat)
  | relay (tag : Byte) (dest : RelayDest) (code : Byte) (ackRequest : Bool) (text : List Byte)
  | readCrane (tag : Byte) (slot : Nat)
  | readZone (tag : Byte) (zone : Nat)
  | readBooking (tag : Byte) (number : Nat)
  | readChannel (tag : Byte) (slot : Nat)
  | readWind (tag : Byte) (slot : Nat)
  | readFault (tag : Byte) (slot : Nat)
  | readErrors (tag : Byte)
  | setReportMask (tag : Byte) (masked : List KeyKind)
  | poseReport (c : Slot) (pose : PoseFrame)
  | cabBadFrame (c : Slot) (bytes : List Byte)
  | estop (c : Slot)
  | ackMessage (c : Slot) (code : Byte)
  | linkStale (c : Slot)
  | linkLost (c : Slot)
  | limitRepeat (c : Slot)
  | cabTxDone (c : Slot)
  | claimRetry (c : Slot)
  | dwellExpiry (z : ZoneId)
  | minuteAdvance
  | holdTick
  | holdComplete (c : Slot)
  | bucketClose
  | calmDownExpiry (c : Slot)
  | stormAfterHoldExpiry (c : Slot)
  | calmTimerExpiry (c : Slot)
  | waitLimitExpiry (c : Slot)
  | claimLost (c : Slot)
  | nextStep (c : Slot)
  | lossOfPower (moment : WriteMoment)
  | resetLineLow
  | badStopBit
  deriving DecidableEq, Repr

end Sys2Proof
end

