-- ==== Sys2Proof/WellFormed.lean ====
section
/-! DEFINITION. The checks that make a command one that a frame can carry or an event can be. Ranges that the part
itself judges and answers (BAD_VALUE, BAD_LENGTH) are no matter of these checks: they are the commands' meaning. -/

namespace Sys2Proof

/-- A list is sent as a count byte and its items (R192). -/
def listFits {α : Type} (l : List α) : Bool := decide (l.length ≤ 255)

/-- A set is sent as its members, each once (R192, and "Collections" of 00_scope). -/
def setFits {α : Type} [DecidableEq α] (l : List α) : Bool := listFits l && decide l.Nodup

/-- The release zones of a step, as sent. -/
def ReleaseZones.wf : ReleaseZones → Bool
  | .named zs => listFits zs
  | .all => true

/-- A plan step's lists fit their count bytes. -/
def PlanStep.wf : PlanStep → Bool
  | .claim zs _ _ => listFits zs
  | .release r => r.wf
  | _ => true

/-- A step field's lists fit their count bytes. -/
def StepField.wf : StepField → Bool
  | .step s => s.wf
  | .unknownKind _ => true
  | .misfit _ => true

/-- Request fields fit a frame: the length of a site frame is at most 1,200 bytes, two of them kind and tag (R193). -/
def Request.wf : Request → Bool
  | .loadCells _ _ _ _ classes => decide (classes.length ≤ 1198)
  | .loadProfile p => setFits p.autoClear && setFits p.reportKinds
  | .loadPlan _ steps => listFits steps && steps.all StepField.wf
  | .relay _ _ _ text => listFits text
  | .setReportMask ks => setFits ks
  | _ => true

/-- The request a request command carries; none for a command that is no request, and for UNKNOWN_REQUEST. -/
def Instr.request? : Instr → Option (Byte × Request)
  | .identify t => some (t, .identify)
  | .reset t => some (t, .reset)
  | .setClock t m p => some (t, .setClock m p)
  | .readClock t => some (t, .readClock)
  | .enterSurvey t => some (t, .enterSurvey)
  | .leaveSurvey t => some (t, .leaveSurvey)
  | .loadCrane t c f => some (t, .loadCrane c f)
  | .loadCells t c tb f n cl => some (t, .loadCells c tb f n cl)
  | .loadChart t c caps => some (t, .loadChart c caps)
  | .loadProfile t p => some (t, .loadProfile p)
  | .loadPlan t n st => some (t, .loadPlan n st)
  | .book t b => some (t, .book b)
  | .cancel t n => some (t, .cancel n)
  | .suspendChannel t c => some (t, .suspendChannel c)
  | .resumeChannel t c => some (t, .resumeChannel c)
  | .stepMode t c on => some (t, .stepMode c on)
  | .continueStep t c => some (t, .continueStep c)
  | .closeZone t z => some (t, .closeZone z)
  | .openZone t z => some (t, .openZone z)
  | .forceRelease t z => some (t, .forceRelease z)
  | .declareWind t l => some (t, .declareWind l)
  | .clearFault t c => some (t, .clearFault c)
  | .recover t c => some (t, .recover c)
  | .clearLockout t c => some (t, .clearLockout c)
  | .removeCrane t c => some (t, .removeCrane c)
  | .admitCrane t c => some (t, .admitCrane c)
  | .relay t d code a txt => some (t, .relay d code a txt)
  | .readCrane t c => some (t, .readCrane c)
  | .readZone t z => some (t, .readZone z)
  | .readBooking t n => some (t, .readBooking n)
  | .readChannel t c => some (t, .readChannel c)
  | .readWind t c => some (t, .readWind c)
  | .readFault t c => some (t, .readFault c)
  | .readErrors t => some (t, .readErrors)
  | .setReportMask t ks => some (t, .setReportMask ks)
  | .powerOn | .resetLine _ | .siteReset | .siteFrame _ | .siteRxTimeout | .siteTxDone | .unknownRequest _ _
  | .nvWriteDone _ | .poseReport _ _ | .cabBadFrame _ _ | .estop _ | .ackMessage _ _ | .linkStale _ | .linkLost _
  | .limitRepeat _ | .cabTxDone _ | .claimRetry _ | .dwellExpiry _ | .minuteAdvance | .holdTick | .holdComplete _
  | .bucketClose | .calmDownExpiry _ | .stormAfterHoldExpiry _ | .calmTimerExpiry _ | .waitLimitExpiry _
  | .claimLost _ | .nextStep _ | .lossOfPower _ | .resetLineLow | .badStopBit => none

/-- A command is well formed when what it carries fits a frame, and an UNKNOWN_REQUEST carries a kind outside 1..35
(R181). -/
def Instr.wf (i : Instr) : Bool :=
  match i with
  | .unknownRequest _ kind => decide (kind.toNat = 0 ∨ 35 < kind.toNat)
  | _ => match i.request? with
    | some (_, r) => r.wf
    | none => true

end Sys2Proof
end

