-- ==== Sys2Proof/Decode.lean ====
section
/-! DEFINITION. The command that a word of the opcode table spells. The table gives its rows no bits, so no word spells
a command. The part's frames are decoded in Sys2Proof/Machine/Frames.lean and Sys2Proof/Machine/Requests.lean. -/

namespace Sys2Proof

/-- The command spelled by a table word of `nbits` bits: none, since no row of spec/opcode_table.json gives bits. -/
def decodeTableWord (_nbits _w : Nat) : Option Instr := none

end Sys2Proof
end

