-- ==== Sys2Proof/Config.lean ====
section
/-! DEFINITION. The constants of the part, and the values the manual leaves open. A value left open is an opaque
constant with no body: nothing can evaluate it, and a claim holds whatever it is. -/

namespace Sys2Proof.Config

/-! ## Constants the manual fixes -/

/-- The vendor code IDENTIFY returns (R184). -/
def vendorCode : Nat := 0x2E17
/-- The part code IDENTIFY returns (R184). -/
def partCode : Nat := 0x0C12
/-- The revision IDENTIFY returns (R184). -/
def revision : Nat := 3
/-- The capacities IDENTIFY returns, in the order of R184: cranes, zones, claim records, bookings, plans, steps,
notices, sectors, bands, queued requests, report keys. -/
def capacities : List Nat := [12, 48, 96, 64, 32, 24, 4, 128, 8, 4, 160]
/-- Records of the claim pool (R82). -/
def poolSize : Nat := 96
/-- Entries of the Booking Table (R125). -/
def bookingCapacity : Nat := 64
/-- Places of a notice queue (R36). -/
def noticeCapacity : Nat := 4
/-- Places of the input queue (R180). -/
def inputCapacity : Nat := 4
/-- The greatest site minute (R42). -/
def maxMinute : Nat := 16777215
/-- Staleness and loss of a link, in ms since the last acceptance (R22). -/
def staleMs : Nat := 750
def lostMs : Nat := 3000
/-- The repeat interval of limit frames, in ms (R35). -/
def repeatMs : Nat := 250
/-- The transit dwell, in ms (R96). -/
def dwellMs : Nat := 3000
/-- A minute of uptime, in ms (R42, R106, R114). -/
def minuteMs : Nat := 60000
/-- The receiver's silence limit inside a frame, in ms (R179). -/
def rxSilenceMs : Nat := 100
/-- The shortest low level of the reset line that resets the part, in ms (R195). -/
def resetLowMs : Nat := 10

/-! ## Values the manual leaves open -/

/-- A group of fields of the site frames whose order a rule gives and whose number widths no rule gives: the fields of a
request kind, the operands of a step kind of LOAD_PLAN, and the values a rule lists for a reply or a report. -/
inductive Layout where
  | request (kind : Nat)
  | step (kind : Nat)
  | rule (number : Nat)
  deriving DecidableEq, Repr

/-- By how many bytes the width of a whole number of a layout exceeds one byte; `field` counts the layout's numbers from 0.
Free value: R192 says "in the width the layout gives", and the manual gives no layout of requests, replies and reports
(log 4). -/
opaque extraWidth : (l : Layout) → (field : Nat) → Nat

/-- The width in bytes of a whole number of a layout: at least one byte. -/
def width (l : Layout) (field : Nat) : Nat := extraWidth l field + 1

/-- Which of the free pool records a claim takes, as an index among them taken modulo their number; the argument is the
claim's stamp. Free value: R82 says "a free pool record" and not which (log 5). -/
opaque poolPick : (stamp : Nat) → Nat

/-- Whether admission check 8 passes for a booking while its crane's load chart is absent, which only SURVEY admits; the
arguments are the booking number and the site minute. Free value: R127 does not say (log 7). -/
opaque chartAbsentPasses : (number minute : Nat) → Bool

end Sys2Proof.Config
end

