-- ==== Sys2Proof/Machine/State.lean ====
section
/-! DEFINITION. The state of the part, block by block as the table of functional blocks (00_scope) gives it, as plain
data; the reasons a step can stop; and the state right after reset. -/

namespace Sys2Proof.Machine

/-! ## Power, reset line and part mode -/

/-- The start cause of the most recent power-on or site reset (R49, R184). -/
inductive StartCause where
  | powerOn | resetLine | resetRequest
  deriving DecidableEq, Repr

/-- The two part modes (00_scope, "Part modes"). -/
inductive PartMode where
  | survey | operate
  deriving DecidableEq, Repr

/-- Supply, reset line and start cause (R17, R49, R195). -/
structure Power where
  /-- Supply is applied. -/
  on : Bool
  /-- How long the reset line has been low; absent while it is high. It is no uptime, since a site reset that comes while
  the line is low begins uptime afresh (R183, R195). -/
  lowFor : Option Ms
  startCause : StartCause
  deriving DecidableEq, Repr

/-! ## Geometry Store (chapter 1) -/

/-- FLAT or LUFFING (R1). -/
inductive CraneKind where
  | flat | luffing
  deriving DecidableEq, Repr

/-- The crane record (R1). -/
structure CraneRecord extends CraneDims where
  kind : CraneKind
  deriving DecidableEq, Repr

/-- A cell class (R6). -/
inductive Cell where
  | free
  | slow
  | forbidden
  | forbiddenLoaded
  | shared (z : ZoneId)
  deriving DecidableEq, Repr

/-- A jib or hook grid: for each sector its eight cells, absent while the sector is not marked loaded (R7). -/
abbrev Grid := Vector (Option (Vector Cell 8)) 128

/-- A tail row: for each sector its cell, absent while the sector is not marked loaded (R7). -/
abbrev TailRow := Vector (Option Cell) 128

/-- What the Geometry Store holds for one crane slot (section 1.1). The slot is configured when its record is present. -/
structure CraneSlot where
  record : Option CraneRecord
  excluded : Bool
  jib : Grid
  tail : TailRow
  hook : Grid
  chart : Option (Vector Nat 8)
  deriving DecidableEq, Repr

/-- The kind of a zone (R8). -/
inductive ZoneKind where
  | structural | hook | unused
  deriving DecidableEq, Repr

/-- The directory entry of a zone: kind and members, members ascending (R8). -/
structure DirectoryEntry where
  kind : ZoneKind
  members : List Slot
  deriving DecidableEq, Repr

/-- The contents of a valid non-volatile image (R17). The excluded flags are not part of it: they are no. -/
structure Image where
  slots : Vector CraneSlot 12
  profile : SiteProfile
  deriving DecidableEq, Repr

/-- The Geometry Store's state (chapter 1). -/
structure Geometry where
  mode : PartMode
  slots : Vector CraneSlot 12
  profile : SiteProfile
  directory : Vector DirectoryEntry 48
  /-- The image, present when valid (R17). While a survey exit is in flight it is the image before the exit (log 27). -/
  image : Option Image
  deriving DecidableEq, Repr

/-! ## Cab Links (chapter 2) -/

/-- The five link states (R21). -/
inductive LinkState where
  | unused | waiting | live | stale | lost
  deriving DecidableEq, Repr

/-- The quantities that can make a pose invalid, in the order of R26. -/
inductive Quantity where
  | slewRate | radialSpeed | radius | hookHeight | load
  deriving DecidableEq, Repr

/-- An accepted pose, after clamping (R28). -/
structure Pose where
  sequence : Nat
  cabBearing : Nat
  siteBearing : Nat
  slewRate : Int
  radius : Nat
  radialSpeed : Int
  hookHeight : Nat
  load : Nat
  windSample : Nat
  windValid : Bool
  emergencyStop : Bool
  brakeReleased : Bool
  operatorPresent : Bool
  sensorFault : Bool
  acceptedAt : Ms
  deriving DecidableEq, Repr

/-- The modes of a limit frame, with their values 0..7 in this order (R194). -/
inductive FrameMode where
  | survey | holdPosition | normal | evict | storm | stormRelease | fault | lockout
  deriving DecidableEq, Repr

/-- The hoist modes, with their values 0..2 in this order (R194). -/
inductive HoistMode where
  | free | lowerOnly | park
  deriving DecidableEq, Repr

/-- A limit frame without its generation (section 2.6). Caps are in %. -/
structure LimitFrame where
  mode : FrameMode
  cwLimit : Option Nat
  ccwLimit : Option Nat
  cwCap : Nat
  ccwCap : Nat
  outLimit : Nat
  inLimit : Nat
  outCap : Nat
  inCap : Nat
  hoist : HoistMode
  brakeRelease : Bool
  deriving DecidableEq, Repr

/-- A limit frame stamped with its generation (R32). -/
structure StampedFrame where
  generation : Nat
  frame : LimitFrame
  deriving DecidableEq, Repr

/-- A cab notice: text of a RELAY, or coded of a NOTIFY or ACK step (R36). -/
inductive CabNotice where
  | text (code : Byte) (ackRequest : Bool) (chars : List Byte)
  | coded (code : Nat) (ackRequest : Bool) (param1 param2 : Nat)
  deriving DecidableEq, Repr

/-- The frame a cab transmitter sends (R34). -/
inductive CabOutbound where
  | limit (f : StampedFrame)
  | notice (n : CabNotice)
  deriving DecidableEq, Repr

/-- The newest frame placed in a limit slot, and whether a computation made it (R52, R187). -/
structure FrameInForce where
  computed : Bool
  mode : FrameMode
  deriving DecidableEq, Repr

/-- The link record (section 2.2). The last sequence and the time of acceptance are those of the last accepted pose,
with which they are set and discarded (R28, R38, R39). -/
structure Link where
  state : LinkState
  lastPose : Option Pose
  invalidStreak : Nat
  lastInvalid : Option Quantity
  generation : Nat
  slot : Option StampedFrame
  lastSent : Option StampedFrame
  /-- The uptime at which the last limit frame was begun; absent while no repeat is timed (R35). -/
  repeatFrom : Option Ms
  notices : List CabNotice
  /-- The transmitter: idle when absent. -/
  tx : Option CabOutbound
  lastAck : Option (Nat × Ms)
  ackCount : Nat
  inForce : Option FrameInForce
  deriving DecidableEq, Repr

/-! ## Site Clock (chapter 3) -/

/-- The Site Clock's state (chapter 3). -/
structure Clock where
  /-- 48 bits wide (R41). -/
  uptime : BitVec 48
  /-- UNSET when absent. -/
  minute : Option Nat
  minutePhase : Option Ms
  prescaler : Nat
  tickBegan : Ms
  tickLength : Ms
  deriving DecidableEq, Repr

/-! ## Envelope Engine (chapter 4) -/

/-- A cell of a table. A tail row has no bands; the band of its cells is 0 wherever a rule names table, sector and band
(DESIGN CHOICE, log 69). -/
structure CellPos where
  table : CellTable
  sector : Sector
  band : Band
  deriving DecidableEq, Repr

/-- The decision for a direction (R68, R70). -/
inductive Decision where
  | stop | slow | clear
  deriving DecidableEq, Repr

/-- Where a walk ended: its boundary and the distance to it (R66, R67, R69). -/
structure Walk where
  boundary : Nat
  distance : Nat
  deriving DecidableEq, Repr

/-- The computation record (R52). A slew direction is unbounded when its travel is 32,768 (R54). -/
structure Computation where
  sequence : Nat
  poseAt : Ms
  gustUsed : Nat
  cwTravel : Nat
  ccwTravel : Nat
  cwStop : Nat
  ccwStop : Nat
  outTravel : Nat
  inTravel : Nat
  outRadius : Nat
  inRadius : Nat
  spanFirst : Sector
  spanCount : Nat
  bandFirst : Band
  bandLast : Band
  structureReach : Nat
  /-- The structure bands are 0..structureBand. -/
  structureBand : Band
  occupancy : List ZoneId
  intrusion : Option CellPos
  overload : Bool
  cwWalk : Option Walk
  ccwWalk : Option Walk
  outWalk : Option Walk
  inWalk : Option Walk
  cwDecision : Decision
  ccwDecision : Decision
  outDecision : Decision
  inDecision : Decision
  transit : List ZoneId
  frame : LimitFrame
  deriving DecidableEq, Repr

/-- The engine's state for one crane (chapter 4). Sets of zones are ascending lists without repeats. `occupancy` and
`reach` are also the arbiter's last occupancy and reach sets (R61, R98). -/
structure Engine where
  record : Option Computation
  occupancy : List ZoneId
  reach : List ZoneId
  evict : List ZoneId
  transit : List ZoneId
  recovery : Bool
  latch : Bool
  /-- The evict set, latch and recovery flag as they stood at the last computation (R76). -/
  evictThen : List ZoneId
  latchThen : Bool
  recoveryThen : Bool
  /-- The link has been STALE or LOST since the crane's last hand-over (R86, R96). -/
  handOverDue : Bool
  deriving DecidableEq, Repr

/-! ## Zone Arbiter (chapter 5) -/

/-- A claim record, named by what stays its own while it is in use: a pool record by its stamp, a storm record by its
crane, a closure record by its zone (R81, R83). -/
inductive ClaimRef where
  | pool (stamp : Nat)
  | storm (c : Slot)
  | closure (z : ZoneId)
  deriving DecidableEq, Repr

/-- The per-zone status of a claim (R81). -/
inductive ZoneStatus where
  | waiting | granted | deferred
  deriving DecidableEq, Repr

/-- A zone of a claim's zone set. `pending` is the conversion-pending mark, with the event that set it (R82, R94). -/
structure ClaimZone where
  zone : ZoneId
  status : ZoneStatus
  pending : Option Nat
  deriving DecidableEq, Repr

/-- The kinds of a pool record (R81). -/
inductive PoolKind where
  | transit | standing
  deriving DecidableEq, Repr

/-- The transit dwell (R96). -/
structure Dwell where
  elapsed : Ms
  running : Bool
  deriving DecidableEq, Repr

/-- A pool record in use (R81). -/
structure PoolRecord where
  stamp : Nat
  /-- 0..95, distinct among the records in use. -/
  id : Nat
  crane : Slot
  kind : PoolKind
  priority : Nat
  booking : Option Nat
  zones : List ClaimZone
  dwell : Dwell
  deriving DecidableEq, Repr

/-- A crane's storm record; empty when its zone set is (R82). -/
structure StormRecord where
  stamp : Nat
  zones : List ClaimZone
  deriving DecidableEq, Repr

/-- The status of a zone, with the holder and the holder claim while HELD (R80). -/
inductive Holding where
  | free
  | held (crane : Slot) (claim : ClaimRef)
  | closed
  deriving DecidableEq, Repr

/-- A zone record (R80). Kind and members are those of the zone directory. -/
structure ZoneRecord where
  holding : Holding
  /-- Stamps of the co-claims, ascending. -/
  coClaims : List Nat
  /-- Cranes that must leave the zone; a storm holding is EVICTING exactly while there are some (R91, R92). -/
  evictees : List Slot
  reservedFor : Option Nat
  waiting : List ClaimRef
  /-- The zone's closure record: its stamp while in use (R82). -/
  closure : Option Nat
  deriving DecidableEq, Repr

/-- The Zone Arbiter's state (chapter 5). The pool lists the records in use. -/
structure Arbiter where
  zones : Vector ZoneRecord 48
  pool : List PoolRecord
  storms : Vector StormRecord 12
  stamp : Nat
  deriving DecidableEq, Repr

/-! ## Wind Monitor (chapter 6) -/

/-- The four wind levels (section 6.4). -/
inductive WindLevel where
  | calm | watch | hold | storm
  deriving DecidableEq, Repr

/-- Sensor state (R108). -/
inductive SensorState where
  | ok | failed
  deriving DecidableEq, Repr

/-- The source of a crane's effective values, with the lender named for a borrowed gust (R109). -/
inductive WindSource where
  | own
  | borrowed (lender : Slot)
  | unknown
  deriving DecidableEq, Repr

/-- The storm phase (R118). -/
inductive StormPhase where
  | none | claiming | claimed | released | exitPending
  deriving DecidableEq, Repr

/-- A minute bucket (R106). -/
structure Bucket where
  sum : Nat
  count : Nat
  deriving DecidableEq, Repr

/-- The wind record of a crane (section 6.1). -/
structure Wind where
  /-- Oldest first. -/
  ring : List Nat
  /-- Ten buckets, the current one first. -/
  buckets : List Bucket
  sensor : SensorState
  missing : Nat
  recovering : Nat
  gust : Option Nat
  mean : Option Nat
  source : WindSource
  own : WindLevel
  /-- Level and uptime of start. -/
  calmDown : Option (WindLevel × Ms)
  stormAfterHold : Option Ms
  effective : WindLevel
  phase : StormPhase
  exitPending : Bool
  /-- Storm-blocked as last marked (R90). -/
  blocked : Bool
  deriving DecidableEq, Repr

/-- The Wind Monitor's state (chapter 6). -/
structure WindMonitor where
  cranes : Vector Wind 12
  declaration : WindLevel
  bucketPhase : Ms
  deriving DecidableEq, Repr

/-! ## Booking Table (chapter 7) -/

/-- The four kinds of booking (section 7.2). -/
inductive BookingKind where
  | normal | urgent | supersede | service
  deriving DecidableEq, Repr

/-- The states of a booking (R125). -/
inductive BookingState where
  | pending | ready | running | interrupted | done | cancelled | expired | failed
  deriving DecidableEq, Repr

/-- What took a held zone from a claim (R157). -/
inductive LossCause where
  | storm | forced
  deriving DecidableEq, Repr

/-- The outcome codes (R125). -/
inductive OutcomeCode where
  | endReached | waitLimit | windowEnded
  | claimLost (cause : LossCause)
  | lockout | planInvalid | notConfigured | host | superseded | removed | windowEnd
  deriving DecidableEq, Repr

/-- An outcome: its code and step index (R125). -/
structure BookingOutcome where
  code : OutcomeCode
  step : Option Nat
  deriving DecidableEq, Repr

/-- Where a channel's step stands (section 8.2). -/
inductive ChannelPhase where
  | starting | waitingClaim | waitingPose | waitingAck | waitingSlot | holding
  deriving DecidableEq, Repr

/-- The saved context of an INTERRUPTED booking (R125, R134), and whether a pause stood when it was saved (R160). -/
structure SavedContext where
  step : Nat
  phase : ChannelPhase
  repeatCounter : Nat
  loopStart : Nat
  hold : Option Nat
  wait : Option Ms
  paused : Bool
  deriving DecidableEq, Repr

/-- A cell of a grid, in range. -/
structure GridCell where
  sector : Sector
  band : Band
  deriving DecidableEq, Repr

/-- A booking record (R125). -/
structure Booking where
  number : Nat
  crane : Slot
  kind : BookingKind
  start : Nat
  finish : Nat
  priority : Nat
  mass : Nat
  windLimit : Option Nat
  pick : GridCell
  set : GridCell
  plan : PlanId
  repeatOverride : Option Nat
  stepMode : Bool
  state : BookingState
  startReached : Bool
  windowEnded : Bool
  outcome : Option BookingOutcome
  saved : Option SavedContext
  returnsTo : Option Nat
  contention : Nat
  deriving DecidableEq, Repr

/-! ## Plan Store and Lift Channels (chapter 8) -/

/-- The verification checks, in their order (R144). -/
inductive PlanCheck where
  | range | target | noEnd | cycle | zone
  deriving DecidableEq, Repr

/-- Why a plan is INVALID (R144). -/
structure PlanFailure where
  check : PlanCheck
  step : Nat
  deriving DecidableEq, Repr

/-- A loaded plan; VALID when its failure is absent (section 8.1). -/
structure Plan where
  steps : List PlanStep
  failure : Option PlanFailure
  deriving DecidableEq, Repr

/-- The four states of a channel (R146). -/
inductive ChannelState where
  | idle | stepPause | suspended | active
  deriving DecidableEq, Repr

/-- The claim of a waiting CLAIM step and its request's standing (R148). -/
inductive ChannelClaim where
  | placed (stamp : Nat)
  | noRecord
  | alreadyWaiting
  deriving DecidableEq, Repr

/-- The suspension reasons, each present or absent (R158). -/
structure Reasons where
  wind : Bool
  fault : Bool
  operator : Bool
  deriving DecidableEq, Repr

/-- A loss the arbiter has told the channel and the channel has not yet taken (R157), with the event that caused it. -/
structure Loss where
  booking : Nat
  zone : ZoneId
  cause : LossCause
  event : Nat
  deriving DecidableEq, Repr

/-- A channel record (section 8.2). Its state follows from the record (R146). -/
structure Channel where
  booking : Option Nat
  step : Nat
  phase : ChannelPhase
  repeatCounter : Nat
  loopStart : Nat
  hold : Option Nat
  wait : Option Ms
  claim : Option ChannelClaim
  paused : Bool
  reasons : Reasons
  stepMode : Bool
  calmFrom : Option Ms
  interruptedLoss : Option (ZoneId × LossCause)
  /-- A freed pool record has been announced to this channel and its retry not yet taken (R82, R149). -/
  retryDue : Bool
  losses : List Loss
  deriving DecidableEq, Repr

/-! ## Crane State (chapter 9) -/

/-- The five operating states (R164). -/
inductive OpState where
  | offline | joining | inService | fault | lockout
  deriving DecidableEq, Repr

/-- What Crane State holds while a crane is in FAULT (section 9.1). -/
structure ActiveFault where
  cause : FaultCause
  unjoined : Bool
  conditionMet : Bool
  deriving DecidableEq, Repr

/-- How a context's state ended (section 9.1). -/
inductive EndWay where
  | auto | clearFault | recovery | escalated | clearLockout | surveyExit | removal
  deriving DecidableEq, Repr

/-- A context record (section 9.1). -/
structure FaultContext where
  cause : FaultCause
  raisedAt : Ms
  previous : OpState
  /-- Bearing, radius and load of the last accepted pose; absent when none is held. -/
  pose : Option (Nat × Nat × Nat)
  intrusionCell : Option CellPos
  channelState : ChannelState
  channelBooking : Option Nat
  channelStep : Option Nat
  eStopFlag : Bool
  linkLostFlag : Bool
  ended : Option (EndWay × Ms)
  deriving DecidableEq, Repr

/-- A recovery check: clear, or the first cell not permitted (R64). -/
inductive RecoveryCheck where
  | clear
  | cell (p : CellPos)
  deriving DecidableEq, Repr

/-- The crane state record (section 9.1). -/
structure CraneStatus where
  state : OpState
  /-- Present while FAULT. -/
  fault : Option ActiveFault
  /-- The e-stop field: ENGAGED when true. -/
  eStop : Bool
  faultContext : Option FaultContext
  lockoutContext : Option FaultContext
  check : Option RecoveryCheck
  deriving DecidableEq, Repr

/-! ## Site Port (chapter 10) -/

/-- A report key (section 10.4). -/
inductive ReportKey where
  | crane (c : Slot)
  | wind (c : Slot)
  | zone (z : ZoneId)
  | booking (n : Nat)
  | channel (c : Slot)
  | cabAck (c : Slot)
  deriving DecidableEq, Repr

/-- The flags of the error summary (R185). -/
inductive ErrorFlag where
  | frameError
  | rxOverrun
  | unknownRequest
  | nvWrite
  | cabFrame (c : Slot)
  deriving DecidableEq, Repr

/-- The receiver of the site port (R179): hunting, or inside a frame with the unescaped bytes so far, whether the last
byte was the escape byte, and the uptime of the last byte. -/
inductive Receiver where
  | hunting
  | inFrame (bytes : List Byte) (escaped : Bool) (lastByteAt : Ms)
  deriving DecidableEq, Repr

/-- What a request in the input queue carries: a frame's kind and fields, not yet examined (R179), or a request given
with its operands. -/
inductive RequestContent where
  | frame (kind : Byte) (fields : List Byte)
  | typed (r : Request)
  deriving DecidableEq, Repr

/-- A request frame of the input queue (R180). -/
structure QueuedRequest where
  tag : Byte
  content : RequestContent
  deriving DecidableEq, Repr

/-- The reply codes, with their values 0..27 in this order (section 10.2). -/
inductive ReplyCode where
  | ok | unknownRequest | badLength | badValue | wrongMode | badState | notConfigured | notFound | notMember
  | alreadyWaiting | structuralZone | noRecord | inUse | tableFull | clockUnset | badCombination | windowInvalid
  | planInvalid | overChart | overlap | nestDepth | nothingToSupersede | nvFailed | geometryIncomplete
  | edgesNotAscending | chartIncreases | singleMemberZone | profileOrder
  deriving DecidableEq, Repr

/-- What a configured slot's missing item is, in the order of R14 check 1. -/
inductive MissingItem where
  | jibGrid | tailRow | hookGrid | chart
  deriving DecidableEq, Repr

/-- The reply of READ_CLOCK (R48). -/
structure ClockReading where
  uptime : Ms
  minute : Option Nat
  intoMinute : Option Ms
  prescaler : Nat
  tickLength : Ms
  intoTick : Ms
  startCause : StartCause
  deriving DecidableEq, Repr

/-- The link's fields of READ_CRANE (R40). -/
structure LinkReading where
  state : LinkState
  sinceAccepted : Option Ms
  lastPose : Option Pose
  invalidStreak : Nat
  lastInvalid : Option Quantity
  lastSentGeneration : Option Nat
  notices : Nat
  stepWaits : Bool
  lastAck : Option (Nat × Ms)
  ackCount : Nat
  deriving DecidableEq, Repr

/-- The kind of the claim by which a zone is held (R83). -/
inductive ClaimKind where
  | transit | standing | storm | closure
  deriving DecidableEq, Repr

/-- The reply of READ_CRANE for a configured slot (R187). -/
structure CraneReading where
  excluded : Bool
  record : CraneRecord
  state : OpState
  link : LinkReading
  computation : Option Computation
  modeInForce : Option FrameInForce
  occupancy : List ZoneId
  reach : List ZoneId
  evict : List ZoneId
  transit : List ZoneId
  recovery : Bool
  latch : Bool
  stormBlocked : Bool
  holds : List (ZoneId × ClaimKind)
  deriving DecidableEq, Repr

/-- A claim as READ_ZONE shows it: id, crane (absent for a closure), kind, booking, rank, priority and stamp (R103). -/
structure ClaimReading where
  id : Nat
  crane : Option Slot
  kind : ClaimKind
  booking : Option Nat
  rank : Nat
  priority : Nat
  stamp : Nat
  deriving DecidableEq, Repr

/-- An entry of a waiting list as READ_ZONE shows it (R103). -/
structure EntryReading where
  claim : ClaimReading
  passedOver : Bool
  stormBlocked : Bool
  deriving DecidableEq, Repr

/-- The reply of READ_ZONE (R103). -/
structure ZoneReading where
  zone : ZoneId
  kind : ZoneKind
  members : List Slot
  closed : Bool
  holder : Option (Slot × ClaimReading)
  coClaims : List ClaimReading
  conversionPending : Bool
  /-- For a TRANSIT holder: engaged, and the dwell. -/
  dwell : Option (Bool × Dwell)
  /-- For a STORM holder: EVICTING. -/
  evicting : Option Bool
  evictees : List Slot
  reservedFor : Option ClaimReading
  waiting : List EntryReading
  deriving DecidableEq, Repr

/-- The reply of READ_BOOKING (R141): the record, and for a RUNNING booking the channel's step index and phase. -/
structure BookingReading where
  booking : Booking
  running : Option (Nat × ChannelPhase)
  deriving DecidableEq, Repr

/-- The reply of READ_CHANNEL (R162). -/
structure ChannelReading where
  state : ChannelState
  record : Channel
  /-- Kind and plan number of the current booking. -/
  current : Option (BookingKind × PlanId)
  /-- Record id of a placed claim. -/
  claimId : Option Nat
  /-- The interrupted booking with its saved step index and phase. -/
  interrupted : Option (Nat × Nat × ChannelPhase)
  deriving DecidableEq, Repr

/-- The reply of READ_WIND (R122). -/
structure WindReading where
  ring : List Nat
  buckets : List Bucket
  sensor : SensorState
  missing : Nat
  recovering : Nat
  ownGust : Option Nat
  ownMean : Option Nat
  gust : Option Nat
  mean : Option Nat
  source : WindSource
  own : WindLevel
  declaration : WindLevel
  effective : WindLevel
  calmDown : Option (WindLevel × Ms)
  stormAfterHold : Option Ms
  channelCalm : Option Ms
  phase : StormPhase
  exitPending : Bool
  /-- For each zone of the storm record, ascending: its status and its substate, whether EVICTING, present while the zone's holder
  claim is a STORM claim (R80). -/
  record : List (ZoneId × ZoneStatus × Option Bool)
  stormBlocked : Bool
  intoBucket : Ms
  deriving DecidableEq, Repr

/-- The reply of READ_FAULT (R178). -/
structure FaultReading where
  status : CraneStatus
  causeAutoClears : Bool
  recovery : Bool
  deriving DecidableEq, Repr

/-- Why RELAY skipped a crane (R186). -/
inductive SkipReason where
  | offline | notLive | queueFull
  deriving DecidableEq, Repr

/-- The fields of a reply: those of section 10.3 for OK, or the detail the owning rule names for a refusal. -/
inductive ReplyBody where
  | empty
  /-- R184, in the order of its table. -/
  | identity (vendor part revision : Nat) (startCause : StartCause) (mode : PartMode) (imageValid : Bool)
    (capacities : List Nat)
  | clock (r : ClockReading)
  | missing (c : Slot) (item : MissingItem)
  | edge (c : Slot) (index : Nat)
  | chartBand (c : Slot) (band : Nat)
  | zoneNamed (z : ZoneId)
  | planVerdict (failure : Option PlanFailure)
  | booked (number contention : Nat)
  /-- CLOSED, or WAITING with the holder shown (R100). -/
  | closure (waitingFor : Option Slot)
  | relayed (queued : List Slot) (skipped : List (Slot × SkipReason))
  | craneUnconfigured
  | crane (r : CraneReading)
  | zone (r : ZoneReading)
  | booking (r : BookingReading)
  | channel (r : ChannelReading)
  | wind (r : WindReading)
  | fault (r : FaultReading)
  | errors (flags : List ErrorFlag)
  deriving DecidableEq, Repr

/-- A reply: the tag and the kind of the request answered, a code and fields (R182). -/
structure Reply where
  tag : Byte
  kind : Nat
  code : ReplyCode
  body : ReplyBody
  deriving DecidableEq, Repr

/-- What a CRANE(c) report carries for a configured slot: the values of READ_CRANE (R187), and the two contexts of the crane
state record, in which a fault raised and cleared before the report shows (R178, log 50). -/
structure CraneReport where
  reading : CraneReading
  faultContext : Option FaultContext
  lockoutContext : Option FaultContext
  deriving DecidableEq, Repr

/-- The snapshot of a report (section 10.4). -/
inductive Snapshot where
  | crane (r : Option CraneReport)
  | wind (r : WindReading)
  | zone (r : ZoneReading)
  | booking (r : Option BookingReading)
  | channel (r : ChannelReading)
  | cabAck (lastAck : Option (Nat × Ms)) (count : Nat)
  deriving DecidableEq, Repr

/-- The frame the site transmitter sends (R182). `last` marks the reply of a RESET (R183). -/
inductive PortOutbound where
  | reply (r : Reply)
  | report (key : ReportKey) (snapshot : Snapshot)
  deriving DecidableEq, Repr

/-- Where a RESET stands (R183): none taken; taken, its reply not yet sent whole; the site reset due. -/
inductive ResetProgress where
  | none | taken | due
  deriving DecidableEq, Repr

/-- The Site Port's state (chapter 10). -/
structure SitePort where
  receiver : Receiver
  queue : List QueuedRequest
  /-- The tag of the request in hand between events: a LEAVE_SURVEY whose image is being written (R13, R181). -/
  hand : Option Byte
  slot : Option Reply
  /-- The transmitter: idle when absent. -/
  tx : Option PortOutbound
  reports : List ReportKey
  /-- The masked kinds. -/
  masks : List KeyKind
  errors : List ErrorFlag
  resetProgress : ResetProgress
  deriving DecidableEq, Repr

/-! ## The whole part -/

/-- The state of the part, and the queue of waiting commands. -/
structure State where
  /-- Commands waiting, first in first out. -/
  pending : List Instr
  /-- The number of events taken: the model's own counter (log 3). -/
  events : Nat
  power : Power
  geo : Geometry
  links : Vector Link 12
  clock : Clock
  engines : Vector Engine 12
  arb : Arbiter
  wind : WindMonitor
  bookings : List Booking
  plans : Vector (Option Plan) 32
  channels : Vector Channel 12
  status : Vector CraneStatus 12
  port : SitePort
  deriving DecidableEq, Repr

/-! ## The reasons a step can stop -/

/-- Reasons a step stops with a fault. No rule of the manual stops the part: no command of this model answers with a
fault (see Faults in INVENTORY.md). -/
inductive Fault where
  /-- Raised by no command; it stands only so that the type of reasons is not empty. Safe. -/
  | neverRaised
  deriving DecidableEq, Repr

/-- Reasons a command has no meaning. -/
inductive Refusal where
  /-- Raised by an arm of `exec` whose command has no meaning yet; safe. -/
  | notModelled (mnemonic : String)
  deriving DecidableEq, Repr

/-! ## Values at reset -/

/-- The profile's defaults (R9). -/
def SiteProfile.default : SiteProfile where
  slowCap := 30
  creepCap := 10
  emptyLoad := 250
  parkHeight := 40000
  parkRadius := 10000
  watchGust := 140
  holdGust := 200
  holdMean := 155
  stormGust := 250
  hysteresis := 20
  watchResume := 2
  holdResume := 5
  stormResume := 10
  stormAfterHold := 30
  autoClear := [.overload, .poseInvalid, .linkLost]
  prescaler := 3
  reportKinds := [.crane, .wind, .zone, .booking, .channel, .cabAck]

/-- An unconfigured slot (R2, R18). -/
def CraneSlot.unconfigured : CraneSlot where
  record := none
  excluded := false
  jib := Vector.replicate 128 none
  tail := Vector.replicate 128 none
  hook := Vector.replicate 128 none
  chart := none

/-- The link of an unconfigured slot (R38). -/
def Link.unused : Link where
  state := .unused
  lastPose := none
  invalidStreak := 0
  lastInvalid := none
  generation := 0
  slot := none
  lastSent := none
  repeatFrom := none
  notices := []
  tx := none
  lastAck := none
  ackCount := 0
  inForce := none

/-- The engine's state of a crane after any of the events of R79. -/
def Engine.cleared : Engine where
  record := none
  occupancy := []
  reach := []
  evict := []
  transit := []
  recovery := false
  latch := false
  evictThen := []
  latchThen := false
  recoveryThen := false
  handOverDue := false

/-- A free zone with an empty list (R104). -/
def ZoneRecord.free : ZoneRecord where
  holding := .free
  coClaims := []
  evictees := []
  reservedFor := none
  waiting := []
  closure := none

/-- An empty storm record (R82). Its stamp is read only after `buildStorm` has set it: DESIGN CHOICE 0 (log 6). -/
def StormRecord.empty : StormRecord where
  stamp := 0
  zones := []

/-- The arbiter at power-on and site reset (R104). -/
def Arbiter.cleared : Arbiter where
  zones := Vector.replicate 48 .free
  pool := []
  storms := Vector.replicate 12 .empty
  stamp := 0

/-- A bucket with no sample (R106). -/
def Bucket.empty : Bucket := ⟨0, 0⟩

/-- A crane's wind record after power-on, site reset or removal (R124). -/
def Wind.cleared : Wind where
  ring := []
  buckets := List.replicate 10 .empty
  sensor := .ok
  missing := 0
  recovering := 0
  gust := none
  mean := none
  source := .unknown
  own := .calm
  calmDown := none
  stormAfterHold := none
  effective := .calm
  phase := .none
  exitPending := false
  blocked := false

/-- No suspension reason. -/
def Reasons.empty : Reasons := ⟨false, false, false⟩

/-- A channel record after power-on, site reset or removal (R163). -/
def Channel.cleared : Channel where
  booking := none
  step := 0
  phase := .starting
  repeatCounter := 0
  loopStart := 0
  hold := none
  wait := none
  claim := none
  paused := false
  reasons := .empty
  stepMode := false
  calmFrom := none
  interruptedLoss := none
  retryDue := false
  losses := []

/-- A crane state record after power-on or site reset, in a given operating state (R177). -/
def CraneStatus.fresh (state : OpState) : CraneStatus where
  state := state
  fault := none
  eStop := false
  faultContext := none
  lockoutContext := none
  check := none

/-- The Site Port at power-on and site reset, with the kinds to be masked (R191). -/
def SitePort.cleared (masks : List KeyKind) : SitePort where
  receiver := .hunting
  queue := []
  hand := none
  slot := none
  tx := none
  reports := []
  masks := masks
  errors := []
  resetProgress := .none

/-- The part right after power-on with an invalid image (R18): the mode is SURVEY, every slot is unconfigured and the
profile holds its defaults. That the image is invalid is a DESIGN CHOICE (log 1). -/
def State.reset : State where
  pending := []
  events := 0
  power := { on := true, lowFor := none, startCause := .powerOn }
  geo := {
    mode := .survey
    slots := Vector.replicate 12 .unconfigured
    profile := SiteProfile.default
    directory := Vector.replicate 48 { kind := .unused, members := [] }
    image := none }
  links := Vector.replicate 12 .unused
  clock := { uptime := 0, minute := none, minutePhase := none, prescaler := 3, tickBegan := 0, tickLength := 1000 }
  engines := Vector.replicate 12 .cleared
  arb := .cleared
  wind := { cranes := Vector.replicate 12 .cleared, declaration := .calm, bucketPhase := 0 }
  bookings := []
  plans := Vector.replicate 32 none
  channels := Vector.replicate 12 .cleared
  status := Vector.replicate 12 (.fresh .offline)
  port := .cleared []

end Sys2Proof.Machine
end

