-- ==== Sys2Proof/Machine/Arith.lean ====
section
/-! DEFINITION. The arithmetic the rules use: divisions with their rounding, bearings modulo 65,536, sectors, sets of
zones and slots as ascending lists, and the order of wind levels. -/

namespace Sys2Proof.Machine

/-- Division rounded up; terms of stopping distance are rounded so (00_scope, "Rounding"). -/
def ceilDiv (a b : Nat) : Nat := (a + (b - 1)) / b

/-- Division rounded half up: (2 x sum + n) ÷ (2 x n), the fraction discarded; absent for n = 0 (R107). -/
def roundedMean (sum n : Nat) : Option Nat :=
  if n = 0 then none else some ((2 * sum + n) / (2 * n))

/-- The sum of two bearings, modulo 65,536 (00_scope, "Bearing"). -/
def bearingAdd (a b : Nat) : Nat := (a + b) % 65536

/-- The difference of two bearings, modulo 65,536. -/
def bearingSub (a b : Nat) : Nat := (a + (65536 - b % 65536)) % 65536

/-- The sector of a bearing (R4). -/
def sectorOf (bearing : Nat) : Sector := Fin.ofNat 128 (bearing / 512)

/-- The sector opposite a sector (R4). -/
def opposite (s : Sector) : Sector := s + 64

/-- The sectors of a run of `count` sectors beginning at `first`, clockwise, modulo 128. -/
def sectorRun (first : Sector) (count : Nat) : List Sector :=
  (List.range count).map fun i => first + Fin.ofNat 128 i

/-- The crane slots, ascending. -/
def allSlots : List Slot := (List.range 12).map (Fin.ofNat 12)

/-- The zone numbers, ascending. -/
def allZones : List ZoneId := (List.range 48).map (Fin.ofNat 48)

/-- The sectors, ascending. -/
def allSectors : List Sector := (List.range 128).map (Fin.ofNat 128)

/-- The radius bands, from the mast outward. -/
def allBands : List Band := (List.range 8).map (Fin.ofNat 8)

/-- A slot number of a request, if it is one (section 10.3). -/
def slotOf? (n : Nat) : Option Slot := if h : n < 12 then some ⟨n, h⟩ else none

/-- A zone number of a request, if it is one (section 10.3). -/
def zoneOf? (n : Nat) : Option ZoneId := if h : n < 48 then some ⟨n, h⟩ else none

/-- The zones a list of numbers names, those outside 0..47 dropped. -/
def zonesOf (ns : List Nat) : List ZoneId := ns.filterMap zoneOf?

/-- A set of zones in its canonical form: ascending, each once. -/
def zoneSet (p : ZoneId → Bool) : List ZoneId := allZones.filter p

/-- A set of slots in its canonical form. -/
def slotSet (p : Slot → Bool) : List Slot := allSlots.filter p

/-- A set of zones with one zone more. -/
def addZone (z : ZoneId) (l : List ZoneId) : List ZoneId := zoneSet fun k => k == z || l.contains k

/-- The union of two sets of zones. -/
def unionZones (a b : List ZoneId) : List ZoneId := zoneSet fun k => a.contains k || b.contains k

/-- A list of numbers with one more, in ascending order. -/
def insertSorted (n : Nat) : List Nat → List Nat
  | [] => [n]
  | m :: ms => if n ≤ m then n :: m :: ms else m :: insertSorted n ms

/-- The place of a wind level in CALM < WATCH < HOLD < STORM. -/
def WindLevel.rank : WindLevel → Nat
  | .calm => 0
  | .watch => 1
  | .hold => 2
  | .storm => 3

/-- The wind level of a code (R192), if it is one. -/
def WindLevel.ofCode? : Nat → Option WindLevel
  | 0 => some .calm
  | 1 => some .watch
  | 2 => some .hold
  | 3 => some .storm
  | _ => none

/-- The higher of two wind levels. -/
def WindLevel.higher (a b : WindLevel) : WindLevel := if a.rank < b.rank then b else a

/-- The wind level one below (R113). -/
def WindLevel.below : WindLevel → WindLevel
  | .storm => .hold
  | .hold => .watch
  | .watch => .calm
  | .calm => .calm

/-- The greatest of a list of numbers, if there is one. -/
def greatest? : List Nat → Option Nat
  | [] => none
  | n :: ns => some (match greatest? ns with
    | none => n
    | some m => max n m)

end Sys2Proof.Machine
end

