-- ==== Sys2Proof/Machine/Flags.lean ====
section
/-! DEFINITION. The part's two collections of flags: the report keys that blocks mark (R188) and the error summary
(R185). -/

namespace Sys2Proof.Machine

/-- The kind of a report key (section 10.4). -/
def ReportKey.kind : ReportKey → KeyKind
  | .crane _ => .crane
  | .wind _ => .wind
  | .zone _ => .zone
  | .booking _ => .booking
  | .channel _ => .channel
  | .cabAck _ => .cabAck

/-- The report list after a key is marked: nothing is added for a masked kind or a key that stands in it (R188). -/
def SitePort.marked (k : ReportKey) (p : SitePort) : SitePort :=
  if p.masks.contains k.kind || p.reports.contains k then p else { p with reports := p.reports ++ [k] }

/-- Marks a report key (R188). -/
def mark (k : ReportKey) (s : State) : State := { s with port := s.port.marked k }

/-- Marks a key when a condition holds. -/
def markIf (b : Bool) (k : ReportKey) (s : State) : State := if b then mark k s else s

/-- Adds a flag to the error summary; adding a flag that is present changes nothing (R185). -/
def addError (f : ErrorFlag) (s : State) : State :=
  if s.port.errors.contains f then s
  else { s with port := { s.port with errors := s.port.errors ++ [f] } }

/-- The key kinds, in the order of their values. -/
def allKinds : List KeyKind := [.crane, .wind, .zone, .booking, .channel, .cabAck]

/-- The report masks taken from a profile at power-on and site reset (R10, R190): the kinds its report kind mask does
not name. DEDUCED (log 8). -/
def profileMasks (p : SiteProfile) : List KeyKind := allKinds.filter fun k => !p.reportKinds.contains k

/-- The kinds a report mask byte masks: bit i set for the kind of value i (R192). Bits 6 and 7 are not read (log 10). -/
def masksOfByte (b : Byte) : List KeyKind :=
  (if b.getLsbD 0 then [.crane] else []) ++ (if b.getLsbD 1 then [.wind] else []) ++
  (if b.getLsbD 2 then [.zone] else []) ++ (if b.getLsbD 3 then [.booking] else []) ++
  (if b.getLsbD 4 then [.channel] else []) ++ (if b.getLsbD 5 then [.cabAck] else [])

end Sys2Proof.Machine
end

