-- ==== Sys2Proof/Machine/Ops.lean ====
section
/-! DEFINITION. The named operations over the state: reading one block's record of a crane, a zone or a booking, and
changing it with the report keys its changes mark. Every change of reportable state goes through an `upd` operation of
this file, which marks the key by the rule of the owning chapter. -/

namespace Sys2Proof.Machine

/-! ## Reading -/

/-- The present uptime (R41). -/
def State.now (s : State) : Ms := s.clock.uptime.toNat

/-- The geometry of a slot. -/
def State.slotOf (s : State) (c : Slot) : CraneSlot := s.geo.slots.get c

/-- The crane record of a slot, absent while it is unconfigured. -/
def State.record? (s : State) (c : Slot) : Option CraneRecord := (s.slotOf c).record

/-- The slot is configured (section 1.1). -/
def State.configured (s : State) (c : Slot) : Bool := (s.slotOf c).record.isSome

/-- The crane is configured and not excluded. -/
def State.supervised (s : State) (c : Slot) : Bool := s.configured c && !(s.slotOf c).excluded

/-- The part is in OPERATE. -/
def State.operate (s : State) : Bool := s.geo.mode == .operate

def State.link (s : State) (c : Slot) : Link := s.links.get c
def State.engine (s : State) (c : Slot) : Engine := s.engines.get c
def State.channel (s : State) (c : Slot) : Channel := s.channels.get c
def State.crane (s : State) (c : Slot) : CraneStatus := s.status.get c
def State.windOf (s : State) (c : Slot) : Wind := s.wind.cranes.get c
def State.zone (s : State) (z : ZoneId) : ZoneRecord := s.arb.zones.get z
def State.storm (s : State) (c : Slot) : StormRecord := s.arb.storms.get c
def State.entry (s : State) (z : ZoneId) : DirectoryEntry := s.geo.directory.get z

/-- The site profile (R9). -/
def State.profile (s : State) : SiteProfile := s.geo.profile

/-- The booking of a number, if it is in the table. -/
def State.booking? (s : State) (n : Nat) : Option Booking := s.bookings.find? fun b => b.number == n

/-- The current booking of a crane's channel. -/
def State.current? (s : State) (c : Slot) : Option Booking := (s.channel c).booking.bind s.booking?

/-- The loaded plan of a number. -/
def State.plan? (s : State) (p : PlanId) : Option Plan := s.plans.get p

/-- The effective wind state of a crane (R116). -/
def State.effective (s : State) (c : Slot) : WindLevel := (s.windOf c).effective

/-- The state of a channel follows from its record; the first row of R146 that applies gives it. -/
def Channel.state (ch : Channel) : ChannelState :=
  if ch.booking.isNone then .idle
  else if ch.paused then .stepPause
  else if ch.reasons ≠ .empty then .suspended
  else .active

/-- The channel runs (R146). -/
def Channel.active (ch : Channel) : Bool := ch.state == .active

/-! ## Changing one block's record -/

/-- A vector with one element replaced. -/
def putAt {α : Type} {n : Nat} (v : Vector α n) (i : Fin n) (x : α) : Vector α n := v.set i x i.isLt

def State.putSlot (s : State) (c : Slot) (x : CraneSlot) : State :=
  { s with geo := { s.geo with slots := putAt s.geo.slots c x } }
def State.putLink (s : State) (c : Slot) (x : Link) : State := { s with links := putAt s.links c x }
def State.putEngine (s : State) (c : Slot) (x : Engine) : State := { s with engines := putAt s.engines c x }
def State.putChannel (s : State) (c : Slot) (x : Channel) : State := { s with channels := putAt s.channels c x }
def State.putCrane (s : State) (c : Slot) (x : CraneStatus) : State := { s with status := putAt s.status c x }
def State.putWind (s : State) (c : Slot) (x : Wind) : State :=
  { s with wind := { s.wind with cranes := putAt s.wind.cranes c x } }
def State.putZone (s : State) (z : ZoneId) (x : ZoneRecord) : State :=
  { s with arb := { s.arb with zones := putAt s.arb.zones z x } }
def State.putStorm (s : State) (c : Slot) (x : StormRecord) : State :=
  { s with arb := { s.arb with storms := putAt s.arb.storms c x } }
def State.putPool (s : State) (pool : List PoolRecord) : State := { s with arb := { s.arb with pool := pool } }

/-- Changes a link; a change of its state marks CRANE(c) (R21). -/
def updLink (c : Slot) (f : Link → Link) (s : State) : State :=
  markIf ((f (s.link c)).state != (s.link c).state) (.crane c) (s.putLink c (f (s.link c)))

/-- Changes an engine record. The engine's own marks are R76's and R77's, made where those rules say. -/
def updEngine (c : Slot) (f : Engine → Engine) (s : State) : State := s.putEngine c (f (s.engine c))

/-- Sets or clears the recovery flag; each change marks CRANE(c) (R78), and makes the latest recovery check absent
(R175). -/
def setRecovery (c : Slot) (on : Bool) (s : State) : State :=
  if (s.engine c).recovery == on then s
  else
    let s1 := updEngine c (fun e => { e with recovery := on }) s
    mark (.crane c) (s1.putCrane c { s1.crane c with check := none })

/-- Two channel records look different to R146: state, current booking, step index, phase, pause, suspension reasons,
step-mode flag or interrupted loss. -/
def Channel.reportableChange (a b : Channel) : Bool :=
  a.state != b.state || a.booking != b.booking || a.step != b.step || a.phase != b.phase || a.paused != b.paused ||
  a.reasons != b.reasons || a.stepMode != b.stepMode || a.interruptedLoss != b.interruptedLoss

/-- Changes a channel record and marks CHANNEL(c) as R146 states. -/
def updChannel (c : Slot) (f : Channel → Channel) (s : State) : State :=
  markIf ((s.channel c).reportableChange (f (s.channel c))) (.channel c) (s.putChannel c (f (s.channel c)))

/-- Two crane state records look different to R178: anything but the latest recovery check. -/
def CraneStatus.reportableChange (a b : CraneStatus) : Bool :=
  decide ({ a with check := none } ≠ { b with check := none })

/-- Changes a crane state record and marks CRANE(c) as R164 and R178 state. -/
def updCrane (c : Slot) (f : CraneStatus → CraneStatus) (s : State) : State :=
  markIf ((s.crane c).reportableChange (f (s.crane c))) (.crane c) (s.putCrane c (f (s.crane c)))

/-- Changes a crane state record without marking CRANE(c): the rule that makes the change marks the key at a later step of
its own order (R167, R169, R173, R176). -/
def modCrane (c : Slot) (f : CraneStatus → CraneStatus) (s : State) : State := s.putCrane c (f (s.crane c))

/-- The source of effective values without the lender, who is a value of his own in R122: OWN, BORROWED or UNKNOWN. -/
def WindSource.kind : WindSource → Nat
  | .own => 0
  | .borrowed _ => 1
  | .unknown => 2

/-- Two wind records look different to R123: sensor state, source, own or effective wind state, storm phase or exit
pending. -/
def Wind.reportableChange (a b : Wind) : Bool :=
  a.sensor != b.sensor || a.source.kind != b.source.kind || a.own != b.own || a.effective != b.effective || a.phase != b.phase ||
  a.exitPending != b.exitPending

/-- Changes a wind record and marks WIND(c) as R123 states; an unconfigured slot has no wind report (R122). -/
def updWind (c : Slot) (f : Wind → Wind) (s : State) : State :=
  markIf (s.configured c && (s.windOf c).reportableChange (f (s.windOf c))) (.wind c) (s.putWind c (f (s.windOf c)))

/-- Two zone records look different to R103: status, holder, holder claim, co-claims, evictees (with the substate),
reservation, or the list's membership or order. -/
def ZoneRecord.reportableChange (a b : ZoneRecord) : Bool :=
  a.holding != b.holding || a.coClaims != b.coClaims || a.evictees != b.evictees || a.reservedFor != b.reservedFor ||
  a.waiting != b.waiting

/-- Changes a zone record and marks ZONE(k) as R103 states. -/
def updZone (z : ZoneId) (f : ZoneRecord → ZoneRecord) (s : State) : State :=
  markIf ((s.zone z).reportableChange (f (s.zone z))) (.zone z) (s.putZone z (f (s.zone z)))

/-- Changes a zone record without marking ZONE(k): the rule that makes the change marks the key at a later step (R91, R93,
R102). -/
def modZone (z : ZoneId) (f : ZoneRecord → ZoneRecord) (s : State) : State := s.putZone z (f (s.zone z))

/-- Changes an evict set between computations and marks CRANE(c) (R77). -/
def updEvict (c : Slot) (f : List ZoneId → List ZoneId) (s : State) : State :=
  markIf (f (s.engine c).evict != (s.engine c).evict) (.crane c)
    (updEngine c (fun e => { e with evict := f e.evict }) s)

/-- The booking has ended (R125). -/
def BookingState.ended : BookingState → Bool
  | .done | .cancelled | .expired | .failed => true
  | .pending | .ready | .running | .interrupted => false

/-- Two booking records look different to R141: state, start reached, end-of-window flag, returns-to or outcome. -/
def Booking.reportableChange (a b : Booking) : Bool :=
  a.state != b.state || a.startReached != b.startReached || a.windowEnded != b.windowEnded ||
  a.returnsTo != b.returnsTo || a.outcome != b.outcome

/-- Frees the entry of a booking: it leaves the table, and its key the report list (R140). -/
def freeBooking (n : Nat) (s : State) : State :=
  { s with
    bookings := s.bookings.filter fun b => b.number != n
    port := { s.port with reports := s.port.reports.filter fun k => k != .booking n } }

/-- Replaces the record of a booking in the table. -/
def State.putBooking (s : State) (b : Booking) : State :=
  { s with bookings := s.bookings.map fun x => if x.number == b.number then b else x }

/-- Changes a booking record, marks BOOKING(n) as R141 states, and frees an entry that ends while the BOOKING kind is
masked (R140). -/
def updBooking (n : Nat) (f : Booking → Booking) (s : State) : State :=
  match s.booking? n with
  | none => s
  | some b =>
    let s1 := markIf (b.reportableChange (f b)) (.booking n) (s.putBooking (f b))
    if !b.state.ended && (f b).state.ended && s.port.masks.contains .booking then freeBooking n s1 else s1

/-- Does something to every member of a list in turn. -/
def forEach {α : Type} (l : List α) (f : α → State → State) (s : State) : State := l.foldl (fun s a => f a s) s

end Sys2Proof.Machine
end

