-- ==== Sys2Proof/Machine/Operands.lean ====
section
/-! DEFINITION. Reading and checking the operands of requests: the ranges of the crane record (R1), the profile (R9),
the booking (R125) and the cell classes (R6, R192). -/

namespace Sys2Proof.Machine

/-- A number lies in lo..hi, both ends included (00_scope, "Numbering"). -/
def inRange (lo hi n : Nat) : Bool := decide (lo ≤ n) && decide (n ≤ hi)

/-- The crane kind of a code (R1, R192). -/
def CraneKind.ofCode? : Nat → Option CraneKind
  | 0 => some .flat
  | 1 => some .luffing
  | _ => none

/-- Every length and rate of a crane record lies in its range (R1's table). -/
def craneDimsInRange (d : CraneDims) : Bool :=
  decide (-500000 ≤ d.baseEast) && decide (d.baseEast ≤ 500000) &&
  decide (-500000 ≤ d.baseNorth) && decide (d.baseNorth ≤ 500000) &&
  inRange 0 65535 d.bearingOffset && inRange 10000 100000 d.jibLength && inRange 0 100000 d.minRadius &&
  d.edges.toList.all (inRange 0 100000) &&
  (match d.tipOverhang with | none => true | some t => inRange 0 10000 t) &&
  inRange 1 2048 d.maxSlewRate && inRange 16 2048 d.slewDecel && inRange 0 2000 d.reactionTime &&
  inRange 0 4096 d.slewMargin && inRange 0 8192 d.slowBand && inRange 0 16384 d.lookAhead &&
  inRange 0 255 d.driftCoeff && inRange 1 2000 d.maxRadialSpeed && inRange 50 2000 d.radialDecel &&
  inRange 0 5000 d.radiusMargin && inRange 0 10000 d.radialSlowBand

/-- The crane record of LOAD_CRANE's fields when every field is in range and tip overhang is present only on a LUFFING
crane (R1). -/
def craneRecordOf? (f : CraneFields) : Option CraneRecord :=
  match CraneKind.ofCode? f.kind with
  | none => none
  | some k =>
    if craneDimsInRange f.toCraneDims && (k == .luffing || f.tipOverhang.isNone) then
      some { f.toCraneDims with kind := k }
    else none

/-- Every setting of a profile lies in its range, and the auto-clear set names neither E_STOP nor INTRUSION (R9). -/
def profileInRange (p : SiteProfile) : Bool :=
  inRange 0 100 p.slowCap && inRange 0 100 p.creepCap && inRange 0 65000 p.emptyLoad &&
  inRange 0 250000 p.parkHeight && inRange 0 100000 p.parkRadius && inRange 0 600 p.watchGust &&
  inRange 0 600 p.holdGust && inRange 0 600 p.holdMean && inRange 0 600 p.stormGust && inRange 0 100 p.hysteresis &&
  inRange 1 60 p.watchResume && inRange 1 60 p.holdResume && inRange 1 60 p.stormResume &&
  inRange 0 240 p.stormAfterHold && inRange 0 239 p.prescaler &&
  !p.autoClear.contains .eStop && !p.autoClear.contains .intrusion

/-- A profile with its two sets in canonical form: each member once, in the order of its list. -/
def canonicalProfile (p : SiteProfile) : SiteProfile :=
  { p with
    autoClear := [FaultCause.overload, .poseInvalid, .linkLost].filter fun c => p.autoClear.contains c
    reportKinds := allKinds.filter fun k => p.reportKinds.contains k }

/-- The cell class of a byte: 0 FREE, 1 SLOW, 2 FORBIDDEN, 3 FORBIDDEN_LOADED, 64 + k SHARED(k) with k in 0..47
(R192). -/
def cellOfByte? (b : Byte) : Option Cell :=
  if b.toNat = 0 then some .free
  else if b.toNat = 1 then some .slow
  else if b.toNat = 2 then some .forbidden
  else if b.toNat = 3 then some .forbiddenLoaded
  else if 64 ≤ b.toNat then (zoneOf? (b.toNat - 64)).map .shared
  else none

/-- The classes each table admits (R6). -/
def tableAdmits : CellTable → Cell → Bool
  | .hook, _ => true
  | _, .free | _, .forbidden | _, .shared _ => true
  | _, .slow | _, .forbiddenLoaded => false

/-- The cells of a list of class bytes when every class is admitted by the table (R7, last check). -/
def cellsOf? (t : CellTable) : List Byte → Option (List Cell)
  | [] => some []
  | b :: bs =>
    match cellOfByte? b, cellsOf? t bs with
    | some c, some cs => if tableAdmits t c then some (c :: cs) else none
    | _, _ => none

/-- How many classes a sector of a table carries (R7). -/
def classesPerSector : CellTable → Nat
  | .jib | .hook => 8
  | .tail => 1

/-- The booking kind of a code (R125, R192). -/
def BookingKind.ofCode? : Nat → Option BookingKind
  | 0 => some .normal
  | 1 => some .urgent
  | 2 => some .supersede
  | 3 => some .service
  | _ => none

/-- A sector or band number in range as a grid cell (R125). -/
def gridCell? (a : CellAddr) : Option GridCell :=
  if h : a.sector < 128 ∧ a.band < 8 then some ⟨⟨a.sector, h.1⟩, ⟨a.band, h.2⟩⟩ else none

/-- An optional number is absent or in range. -/
def optionInRange (lo hi : Nat) : Option Nat → Bool
  | none => true
  | some n => inRange lo hi n

/-- The booking record of BOOK's operands when each is in its range (R125, R127), as a NORMAL admission would store it
before its state is decided; absent when an operand is out of range or the kind not among the four. -/
def bookingOf? (f : BookFields) : Option Booking :=
  match slotOf? f.crane, BookingKind.ofCode? f.kind, gridCell? f.pick, gridCell? f.set with
  | some c, some k, some pick, some set =>
    if h : f.plan < 32 then
      if inRange 0 65535 f.number && inRange 0 Config.maxMinute f.start && inRange 0 Config.maxMinute f.finish &&
          inRange 0 7 f.priority && inRange 0 65000 f.mass && optionInRange 0 600 f.windLimit &&
          optionInRange 1 4095 f.repeatOverride then
        some {
          number := f.number, crane := c, kind := k, start := f.start, finish := f.finish, priority := f.priority,
          mass := f.mass, windLimit := f.windLimit, pick := pick, set := set, plan := ⟨f.plan, h⟩,
          repeatOverride := f.repeatOverride, stepMode := f.stepMode, state := .pending, startReached := false,
          windowEnded := false, outcome := none, saved := none, returnsTo := none, contention := 0 }
      else none
    else none
  | _, _, _, _ => none

end Sys2Proof.Machine
end

