-- ==== Sys2Proof/Machine/Geometry.lean ====
section
/-! DEFINITION. What the Geometry Store computes: band edges and bands (R3), cells of the tables (R6), the zone
directory (R8), the checks of survey exit (R14), and the zones a crane's structure names (R117). -/

namespace Sys2Proof.Machine

/-- Edge i of a crane, i in 0..8 (R3). -/
def CraneRecord.edge (r : CraneRecord) (i : Nat) : Nat :=
  if i = 0 then r.minRadius else (r.edges.toList[i - 1]?).getD r.jibLength

/-- The band of a radius: the highest band whose inner edge is at or below it (R3). -/
def CraneRecord.band (r : CraneRecord) (radius : Nat) : Band :=
  allBands.foldl (fun acc b => if r.edge b.val ≤ radius then b else acc) 0

/-- The cell of a grid. A sector that is not loaded reads FORBIDDEN; the engine computes only in OPERATE, where every
table is complete (R14), so it never reads one (log 11). -/
def gridCell (g : Grid) (sec : Sector) (b : Band) : Cell :=
  match g.get sec with
  | some row => row.get b
  | none => .forbidden

/-- The cell of a tail row. -/
def tailCell (t : TailRow) (sec : Sector) : Cell := (t.get sec).getD .forbidden

/-- The cell at a position of a slot's tables. -/
def CraneSlot.cell (sl : CraneSlot) (p : CellPos) : Cell :=
  match p.table with
  | .jib => gridCell sl.jib p.sector p.band
  | .tail => tailCell sl.tail p.sector
  | .hook => gridCell sl.hook p.sector p.band

/-- A grid holds a SHARED(z) cell. -/
def gridNames (g : Grid) (z : ZoneId) : Bool :=
  g.toList.any fun row => match row with
    | some cells => cells.toList.contains (.shared z)
    | none => false

/-- A tail row holds a SHARED(z) cell. -/
def tailNames (t : TailRow) (z : ZoneId) : Bool := t.toList.contains (some (.shared z))

/-- A slot's jib grid or tail row names the zone (R8, R117). -/
def CraneSlot.structureNames (sl : CraneSlot) (z : ZoneId) : Bool := gridNames sl.jib z || tailNames sl.tail z

/-- Some table of the slot names the zone (R8). -/
def CraneSlot.names (sl : CraneSlot) (z : ZoneId) : Bool := sl.structureNames z || gridNames sl.hook z

/-- The directory entry of a zone, derived from the tables of every configured slot, excluded slots included (R8). -/
def deriveEntry (slots : Vector CraneSlot 12) (z : ZoneId) : DirectoryEntry :=
  let members := slotSet fun c => (slots.get c).record.isSome && (slots.get c).names z
  { kind :=
      if members.isEmpty then .unused
      else if members.any fun c => (slots.get c).structureNames z then .structural
      else .hook
    members := members }

/-- The zone directory derived from the present tables (R8). -/
def deriveDirectory (slots : Vector CraneSlot 12) : Vector DirectoryEntry 48 := Vector.ofFn (deriveEntry slots)

/-- The part's state after the directory is derived (R8, R15 step 1). -/
def deriveZones (s : State) : State := { s with geo := { s.geo with directory := deriveDirectory s.geo.slots } }

/-- The crane is a member of the zone (R8). -/
def State.member (s : State) (c : Slot) (z : ZoneId) : Bool := (s.entry z).members.contains c

/-- Every sector of the grid is marked loaded (R7). -/
def gridPresent (g : Grid) : Bool := g.toList.all Option.isSome

/-- Every sector of the tail row is marked loaded (R7). -/
def tailPresent (t : TailRow) : Bool := t.toList.all Option.isSome

/-- The first missing item of a configured slot, in the order of R14 check 1. -/
def CraneSlot.missingItem? (sl : CraneSlot) : Option MissingItem :=
  if !gridPresent sl.jib then some .jibGrid
  else if !tailPresent sl.tail then some .tailRow
  else if !gridPresent sl.hook then some .hookGrid
  else if sl.chart.isNone then some .chart
  else none

/-- The lowest i in 1..8 for which edge i is not above edge i - 1 (R14 check 2). -/
def CraneRecord.badEdge? (r : CraneRecord) : Option Nat :=
  ((List.range 8).map (· + 1)).find? fun i => decide (r.edge i ≤ r.edge (i - 1))

/-- The lowest band b in 1..7 whose capacity is above that of band b - 1 (R14 check 3). -/
def badChartBand? (chart : Vector Nat 8) : Option Nat :=
  ((List.range 7).map (· + 1)).find? fun b =>
    decide ((chart.toList[b - 1]?).getD 0 < (chart.toList[b]?).getD 0)

/-- The watch, hold and storm gusts strictly ascend and the hold mean is at or below the hold gust (R14 check 5). -/
def profileOrdered (p : SiteProfile) : Bool :=
  decide (p.watchGust < p.holdGust) && decide (p.holdGust < p.stormGust) && decide (p.holdMean ≤ p.holdGust)

/-- The first failure of a check over the configured slots, in ascending slot order. -/
def firstSlotFailure {α : Type} (s : State) (f : Slot → CraneSlot → Option α) : Option α :=
  allSlots.findSome? fun c => if s.configured c then f c (s.slotOf c) else none

/-- The validation of survey exit: the reply code and detail of the first failure, the checks taken one after another
(R14). -/
def validateGeometry (s : State) : Option (ReplyCode × ReplyBody) :=
  match firstSlotFailure s fun c sl => sl.missingItem?.map fun m => ReplyBody.missing c m with
  | some d => some (.geometryIncomplete, d)
  | none =>
  match firstSlotFailure s fun c sl => (sl.record.bind CraneRecord.badEdge?).map fun i => ReplyBody.edge c i with
  | some d => some (.edgesNotAscending, d)
  | none =>
  match firstSlotFailure s fun c sl => (sl.chart.bind badChartBand?).map fun b => ReplyBody.chartBand c b with
  | some d => some (.chartIncreases, d)
  | none =>
  match allZones.find? fun z => (deriveEntry s.geo.slots z).members.length == 1 with
  | some z => some (.singleMemberZone, .zoneNamed z)
  | none => if profileOrdered s.profile then none else some (.profileOrder, .empty)

/-- The zones a crane's storm record requests: the STRUCTURAL zones of the directory that its jib grid or tail row names
(R117). -/
def stormZones (s : State) (c : Slot) : List ZoneId :=
  zoneSet fun z => (s.entry z).kind == .structural && (s.slotOf c).structureNames z

/-- Writes one sector of a grid from a list of eight cells (R7). -/
def setGridSector (g : Grid) (sec : Sector) (cells : List Cell) : Grid :=
  if h : cells.length = 8 then putAt g sec (some ⟨cells.toArray, by simp [h]⟩) else g

/-- Writes a run of sectors of a grid, eight cells a sector; each sector written is marked loaded (R7). -/
def setGridRun (g : Grid) (first : Nat) : Nat → List Cell → Grid
  | 0, _ => g
  | n + 1, cells => setGridRun (setGridSector g (Fin.ofNat 128 first) (cells.take 8)) (first + 1) n (cells.drop 8)

/-- Writes a run of sectors of a tail row, one cell a sector (R7). -/
def setTailRun (t : TailRow) (first : Nat) : List Cell → TailRow
  | [] => t
  | c :: cs => setTailRun (putAt t (Fin.ofNat 128 first) (some c)) (first + 1) cs

/-- A slot after a run of sectors of one table is written (R7). -/
def CraneSlot.writeCells (sl : CraneSlot) (t : CellTable) (first count : Nat) (cells : List Cell) : CraneSlot :=
  match t with
  | .jib => { sl with jib := setGridRun sl.jib first count cells }
  | .hook => { sl with hook := setGridRun sl.hook first count cells }
  | .tail => { sl with tail := setTailRun sl.tail first cells }

/-- The capacity of a band of a slot's chart; 0 while no chart is present, which OPERATE excludes (R14, log 11). -/
def CraneSlot.capacity (sl : CraneSlot) (b : Band) : Nat :=
  match sl.chart with
  | some ch => ch.get b
  | none => 0

end Sys2Proof.Machine
end

