-- ==== Sys2Proof/Machine/Frames.lean ====
section
/-! DEFINITION. The byte layouts of section 10.7: CRC-16, escaping, the cab frame, the pose report, the limit frame and
the cab notice; and the numbers of the reply codes and of the key kinds. -/

namespace Sys2Proof.Machine

/-- The start byte of every frame (R193). -/
def startByte : Byte := 0xA5
/-- The escape byte (R193). -/
def escapeByte : Byte := 0xA6
/-- What an escaped byte is combined with (R179, R193). -/
def escapeMask : Byte := 0x20

/-- The whole-number value of a byte list, most significant byte first (R192). -/
def numberOf (bs : List Byte) : Nat := bs.foldl (fun n b => 256 * n + b.toNat) 0

/-- The lowest n bytes of a number, most significant byte first (R192). -/
def bytesOf : Nat → Nat → List Byte
  | 0, _ => []
  | n + 1, v => bytesOf n (v / 256) ++ [BitVec.ofNat 8 v]

/-- One bit of the CRC-16: polynomial x^16 + x^12 + x^5 + 1, most significant bit first (R193). -/
def crcBit (c : BitVec 16) : BitVec 16 := if c.msb then (c <<< 1) ^^^ 0x1021#16 else c <<< 1

/-- The CRC-16 after one more byte (R193). -/
def crcByte (c : BitVec 16) (b : Byte) : BitVec 16 :=
  crcBit (crcBit (crcBit (crcBit (crcBit (crcBit (crcBit (crcBit (c ^^^ (b.zeroExtend 16 <<< 8)))))))))

/-- The CRC-16 of a byte list: all ones initially, no final inversion (R193). -/
def crc16 (bs : List Byte) : BitVec 16 := bs.foldl crcByte 0xFFFF#16

/-- The two CRC-16 bytes a sender appends, high byte first (R193). -/
def crcBytes (bs : List Byte) : List Byte := bytesOf 2 (crc16 bs).toNat

/-- The bytes after a sender's escaping (R193). -/
def escapeBytes : List Byte → List Byte
  | [] => []
  | b :: bs =>
    if b == startByte || b == escapeByte then escapeByte :: (b ^^^ escapeMask) :: escapeBytes bs
    else b :: escapeBytes bs

/-- The bytes before a sender's escaping: the escape byte is dropped, and the byte after it is taken XOR 0x20, whichever it is,
as R179 says for the site port. None where a start byte stands among the bytes or an escape byte ends them: which bytes
make one bad frame on a cab line is the model's choice (DESIGN CHOICE, log 85). -/
def unescapeBytes : List Byte → Option (List Byte)
  | [] => some []
  | [b] => if b == startByte || b == escapeByte then none else some [b]
  | b :: b' :: bs =>
    if b == startByte then none
    else if b == escapeByte then
      if b' == startByte then none else (unescapeBytes bs).map ((b' ^^^ escapeMask) :: ·)
    else (unescapeBytes (b' :: bs)).map (b :: ·)

/-- A cab frame of a kind and its fields: start, length of one byte, content, CRC-16 (R193). -/
def cabFrame (content : List Byte) : List Byte :=
  let body := BitVec.ofNat 8 content.length :: content
  startByte :: escapeBytes (body ++ crcBytes body)

/-- A site frame of kind, tag and fields: start, length of two bytes, content, CRC-16 (R193). -/
def siteFrame (content : List Byte) : List Byte :=
  let body := bytesOf 2 content.length ++ content
  startByte :: escapeBytes (body ++ crcBytes body)

/-- The messages a cab may send (R24). -/
inductive CabMessage where
  | pose (p : PoseFrame)
  | ack (code : Byte)
  | estop
  deriving DecidableEq, Repr

/-- The pose report of the 20 bytes after its kind (R193). -/
def poseOfBytes? : List Byte → Option PoseFrame
  | [seq, b1, b0, w1, w0, r3, r2, r1, r0, v1, v0, h3, h2, h1, h0, m1, m0, s1, s0, fl] =>
    some {
      sequence := seq, cabBearing := b1 ++ b0, slewRate := w1 ++ w0, radius := r3 ++ r2 ++ r1 ++ r0,
      radialSpeed := v1 ++ v0, hookHeight := h3 ++ h2 ++ h1 ++ h0, load := m1 ++ m0, windSample := s1 ++ s0, flags := fl }
  | _ => none

/-- The 21 bytes of kind and fields of a pose report (R193). -/
def poseBytes (p : PoseFrame) : List Byte :=
  [1#8, p.sequence] ++ bytesOf 2 p.cabBearing.toNat ++ bytesOf 2 p.slewRate.toNat ++ bytesOf 4 p.radius.toNat ++
  bytesOf 2 p.radialSpeed.toNat ++ bytesOf 4 p.hookHeight.toNat ++ bytesOf 2 p.load.toNat ++
  bytesOf 2 p.windSample.toNat ++ [p.flags]

/-- The message of a cab frame's kind and fields, when the length fits the kind: 21 for POSE, 2 for ACK and 1 for ESTOP
(R24, R193). -/
def cabMessageOf? : List Byte → Option CabMessage
  | kind :: fields =>
    if kind = 1#8 then (poseOfBytes? fields).map .pose
    else if kind = 2#8 then match fields with
      | [code] => some (.ack code)
      | _ => none
    else if kind = 3#8 then match fields with
      | [] => some .estop
      | _ => none
    else none
  | [] => none

/-- The frame check of a cab frame (R24): length byte, CRC-16, and a kind whose length fits. None is a bad frame. The spec gives
hunting and resynchronisation for the site port alone (R179), and says nowhere how a cab line frames its bytes: here the
bytes are judged whole as one frame, and no bytes, a first byte that is not the start byte, a start byte among those after
it, an escape byte at the end and a length byte that the count of bytes does not fit are each one bad frame (DESIGN CHOICE,
log 85). -/
def checkCabFrame : List Byte → Option CabMessage
  | [] => none
  | b :: bs =>
    if b ≠ startByte then none
    else match unescapeBytes bs with
      | none => none
      | some [] => none
      | some (len :: rest) =>
        if rest.length = len.toNat + 2 then
          let content := rest.take len.toNat
          if rest.drop len.toNat = crcBytes (len :: content) then cabMessageOf? content else none
        else none

/-- The mode value of a limit frame (R194). -/
def FrameMode.code : FrameMode → Nat
  | .survey => 0
  | .holdPosition => 1
  | .normal => 2
  | .evict => 3
  | .storm => 4
  | .stormRelease => 5
  | .fault => 6
  | .lockout => 7

/-- The hoist mode value of a limit frame (R194). -/
def HoistMode.code : HoistMode → Nat
  | .free => 0
  | .lowerOnly => 1
  | .park => 2

/-- The 22 bytes of kind and fields of a limit frame (R194). An absent limit bearing is sent as 0 with its presence bit
clear. -/
def limitFrameBytes (f : StampedFrame) : List Byte :=
  [9#8, BitVec.ofNat 8 f.frame.mode.code, BitVec.ofNat 8 f.generation,
    BitVec.ofNat 8 ((if f.frame.cwLimit.isSome then 1 else 0) + (if f.frame.ccwLimit.isSome then 2 else 0))] ++
  bytesOf 2 (f.frame.cwLimit.getD 0) ++ bytesOf 2 (f.frame.ccwLimit.getD 0) ++
  bytesOf 1 f.frame.cwCap ++ bytesOf 1 f.frame.ccwCap ++ bytesOf 4 f.frame.outLimit ++ bytesOf 4 f.frame.inLimit ++
  bytesOf 1 f.frame.outCap ++ bytesOf 1 f.frame.inCap ++
  [BitVec.ofNat 8 f.frame.hoist.code, if f.frame.brakeRelease then 1#8 else 0#8]

/-- The bytes of kind and fields of a cab notice (R194). -/
def noticeBytes : CabNotice → List Byte
  | .text code ackReq chars =>
    [10#8, 0#8, if ackReq then 1#8 else 0#8, code, BitVec.ofNat 8 chars.length] ++ chars
  | .coded code ackReq p1 p2 =>
    [10#8, 1#8, if ackReq then 1#8 else 0#8, BitVec.ofNat 8 code] ++ bytesOf 2 p1 ++ bytesOf 2 p2

/-- The bytes a cab transmitter puts on the line for what it sends (R193, R194). -/
def CabOutbound.lineBytes : CabOutbound → List Byte
  | .limit f => cabFrame (limitFrameBytes f)
  | .notice n => cabFrame (noticeBytes n)

/-- The value of a reply code (section 10.2). -/
def ReplyCode.value : ReplyCode → Nat
  | .ok => 0
  | .unknownRequest => 1
  | .badLength => 2
  | .badValue => 3
  | .wrongMode => 4
  | .badState => 5
  | .notConfigured => 6
  | .notFound => 7
  | .notMember => 8
  | .alreadyWaiting => 9
  | .structuralZone => 10
  | .noRecord => 11
  | .inUse => 12
  | .tableFull => 13
  | .clockUnset => 14
  | .badCombination => 15
  | .windowInvalid => 16
  | .planInvalid => 17
  | .overChart => 18
  | .overlap => 19
  | .nestDepth => 20
  | .nothingToSupersede => 21
  | .nvFailed => 22
  | .geometryIncomplete => 23
  | .edgesNotAscending => 24
  | .chartIncreases => 25
  | .singleMemberZone => 26
  | .profileOrder => 27

/-- The value of a report key kind (section 10.4). -/
def keyKindValue : KeyKind → Nat
  | .crane => 0
  | .wind => 1
  | .zone => 2
  | .booking => 3
  | .channel => 4
  | .cabAck => 5

/-- The index of a report key (section 10.4). -/
def ReportKey.index : ReportKey → Nat
  | .crane c => c.val
  | .wind c => c.val
  | .zone z => z.val
  | .booking n => n
  | .channel c => c.val
  | .cabAck c => c.val

end Sys2Proof.Machine
end

