-- ==== Sys2Proof/Machine/Link.lean ====
section
/-! DEFINITION. The outbound side of a Cab Link: placing and stamping limit frames (R32, R33), the transmitter (R34),
the notice queue (R36), and the values a link takes at resets and starts (R38, R39). -/

namespace Sys2Proof.Machine

/-- The part sends nothing while the reset line is low (R195). -/
def State.silent (s : State) : Bool := s.power.lowFor.isSome

/-- A channel's step has gone on to its next step index with phase STARTING: the waits of the completed step end, and
with the step-mode flag on the pause stands (R147). -/
def Channel.completed (next : Nat) (ch : Channel) : Channel :=
  { ch with
    step := next, phase := .starting, hold := none, wait := none, claim := none, paused := ch.stepMode
    retryDue := false }

/-- The step a channel stands at, while its booking and plan are there. -/
def State.step? (s : State) (c : Slot) : Option PlanStep := do
  let b ← s.current? c
  let p ← s.plan? b.plan
  p.steps[(s.channel c).step]?

/-- The coded notice of a channel's NOTIFY or ACK step (R152). -/
def State.stepNotice? (s : State) (c : Slot) : Option CabNotice :=
  match s.step? c, (s.channel c).booking with
  | some (.notify code p1 p2), _ => some (.coded code false p1 p2)
  | some (.ack code _ _), some n => some (.coded code true n (s.channel c).step)
  | _, _ => none

/-- What entering the notice queue does to the step whose notice entered: a NOTIFY step completes, an ACK step waits for
its ACK (R152). -/
def noticeEntered (c : Slot) (s : State) : State :=
  match s.step? c with
  | some (.ack ..) => updChannel c (fun ch => { ch with phase := .waitingAck }) s
  | _ => updChannel c (fun ch => ch.completed (ch.step + 1)) s

/-- A channel step holds a claim on the next place freed in the notice queue (R36, R152): it waits in WAITING_SLOT on a
channel that runs. A suspension, an interruption or the booking's end lets the claim lapse. -/
def State.slotClaimed (s : State) (c : Slot) : Bool :=
  (s.channel c).active && (s.channel c).phase == .waitingSlot

/-- A place of the notice queue has been freed: the notice of the step waiting for it enters in the same event (R36). -/
def placeFreed (c : Slot) (s : State) : State :=
  if s.slotClaimed c then
    match s.stepNotice? c with
    | some n => noticeEntered c (updLink c (fun l => { l with notices := l.notices ++ [n] }) s)
    | none => s
  else s

/-- The idle transmitter of a link chooses: the limit slot's frame, else the head notice, else it stays idle (R34). It
begins nothing while the reset line is low (R195). -/
def kickCab (c : Slot) (s : State) : State :=
  if s.silent || (s.link c).tx.isSome then s
  else match (s.link c).slot with
    | some f =>
      updLink c (fun l => { l with tx := some (.limit f), slot := none, lastSent := some f, repeatFrom := some s.now }) s
    | none =>
      match (s.link c).notices with
      | [] => s
      | n :: rest => placeFreed c (updLink c (fun l => { l with tx := some (.notice n), notices := rest }) s)

/-- Places a new frame in the limit slot: the generation counter goes up by one modulo 256 and stamps it, and an unsent
frame is replaced (R32). -/
def placeFrame (c : Slot) (computed : Bool) (f : LimitFrame) (s : State) : State :=
  kickCab c (updLink c (fun l =>
    let g := (l.generation + 1) % 256
    { l with generation := g, slot := some ⟨g, f⟩, inForce := some ⟨computed, f.mode⟩ }) s)

/-- The link-made frame of a crane, which stops it (R33). -/
def linkMadeFrame (mode : PartMode) (r : CraneRecord) : LimitFrame where
  mode := match mode with | .survey => .survey | .operate => .holdPosition
  cwLimit := none
  ccwLimit := none
  cwCap := 0
  ccwCap := 0
  outLimit := r.jibLength
  inLimit := r.minRadius
  outCap := 0
  inCap := 0
  hoist := .lowerOnly
  brakeRelease := false

/-- The link of a configured slot places a link-made frame (R33). -/
def placeLinkMade (c : Slot) (s : State) : State :=
  match s.record? c with
  | some r => placeFrame c false (linkMadeFrame s.geo.mode r) s
  | none => s

/-- The 250 ms since the last limit frame began have passed (R35). -/
def State.repeatDue (s : State) (c : Slot) : Bool :=
  match (s.link c).repeatFrom with
  | some t => decide (t + Config.repeatMs ≤ s.now)
  | none => false

/-- The expiry of the repeat timer: with an empty slot the last sent frame is placed again with its own generation; with
a frame in the slot nothing is placed. The measure starts afresh when a limit frame is next begun (R35). -/
def repeatLimit (c : Slot) (s : State) : State :=
  if s.repeatDue c then
    kickCab c (updLink c (fun l =>
      { l with repeatFrom := none, slot := if l.slot.isSome then l.slot else l.lastSent }) s)
  else s

/-- The transmitter finishes a frame and chooses again (R34). While the reset line is low nothing is sent, so no frame
finishes (R195). -/
def cabTxFinished (c : Slot) (s : State) : State :=
  if s.silent || (s.link c).tx.isNone then s
  else kickCab c (updLink c (fun l => { l with tx := none }) s)

/-- A link after power-on or site reset, before it places its frame (R38). -/
def Link.atReset (configured : Bool) : Link := { Link.unused with state := if configured then .waiting else .unused }

/-- A link whose inbound record is emptied by configuration, removal or admission: the pose, the last invalid quantity
and the last ACK are discarded, streak and ACK count are 0, the notice queue is emptied (R38, R39). -/
def Link.emptied (st : LinkState) (l : Link) : Link :=
  { l with
    state := st, lastPose := none, invalidStreak := 0, lastInvalid := none, notices := [], lastAck := none
    ackCount := 0 }

/-- A link that becomes UNUSED: it also empties its limit slot and discards its last sent frame; a frame being sent is
finished (R38). -/
def Link.becomesUnused (l : Link) : Link :=
  { l.emptied .unused with slot := none, lastSent := none, repeatFrom := none, inForce := none }

/-- A link whose slot becomes configured: WAITING with the same emptied fields (R38). -/
def Link.becomesConfigured (l : Link) : Link :=
  { l.emptied .waiting with slot := none, lastSent := none, repeatFrom := none, inForce := none }

/-- Offers a coded notice of the channel's present step to the notice queue: it enters when there is a free place, and
otherwise the step waits for one (R152). -/
def offerNotice (c : Slot) (s : State) : State :=
  match s.stepNotice? c with
  | none => s
  | some n =>
    if (s.link c).notices.length < Config.noticeCapacity then
      kickCab c (noticeEntered c (updLink c (fun l => { l with notices := l.notices ++ [n] }) s))
    else updChannel c (fun ch => { ch with phase := .waitingSlot }) s

end Sys2Proof.Machine
end

