-- ==== Sys2Proof/Machine/Claims.lean ====
section
/-! DEFINITION. The Zone Arbiter's records: claim records and their keys (R81 to R83), the pool and what a freed record
is used for (R82, R94), waiting lists (R84), evictions (R91, R92), and what the arbiter tells a channel. -/

namespace Sys2Proof.Machine

/-! ## Reading claims -/

/-- The pool record in use with a stamp. -/
def State.poolRec? (s : State) (stamp : Nat) : Option PoolRecord := s.arb.pool.find? fun r => r.stamp == stamp

/-- The crane of a claim; a closure has none (R81). -/
def State.claimCrane? (s : State) : ClaimRef → Option Slot
  | .pool n => (s.poolRec? n).map (·.crane)
  | .storm c => some c
  | .closure _ => none

/-- The zone set of a claim with its per-zone status. A closure's own zone needs no record of it. -/
def State.claimZones (s : State) : ClaimRef → List ClaimZone
  | .pool n => ((s.poolRec? n).map (·.zones)).getD []
  | .storm c => (s.storm c).zones
  | .closure _ => []

/-- A claim's record of one zone. -/
def State.claimZone? (s : State) (ref : ClaimRef) (z : ZoneId) : Option ClaimZone :=
  (s.claimZones ref).find? fun cz => cz.zone == z

/-- The zone is GRANTED to the claim (R81). -/
def State.grantedTo (s : State) (ref : ClaimRef) (z : ZoneId) : Bool :=
  (s.claimZones ref).any fun cz => cz.zone == z && cz.status == .granted

/-- The claim keeps the zone with the conversion-pending mark (R94). -/
def State.pendingIn (s : State) (ref : ClaimRef) (z : ZoneId) : Bool :=
  (s.claimZones ref).any fun cz => cz.zone == z && cz.pending.isSome

/-- A claim's key: rank, priority, stamp (R83). -/
structure ClaimKey where
  rank : Nat
  priority : Nat
  stamp : Nat
  deriving DecidableEq, Repr

/-- The key of a claim (R83). -/
def State.key (s : State) : ClaimRef → ClaimKey
  | .pool n =>
    match s.poolRec? n with
    | some r => match r.kind with
      | .standing => ⟨1, r.priority, n⟩
      | .transit => ⟨0, 0, n⟩
    | none => ⟨0, 0, n⟩
  | .storm c => ⟨3, 0, (s.storm c).stamp⟩
  | .closure z => ⟨2, 0, ((s.zone z).closure).getD 0⟩

/-- Key a stands above key b: the higher rank, then the higher priority, then the lower stamp (R83). -/
def ClaimKey.above (a b : ClaimKey) : Bool :=
  decide (b.rank < a.rank) ||
  (a.rank == b.rank && (decide (b.priority < a.priority) || (a.priority == b.priority && decide (a.stamp < b.stamp))))

/-- The crane's entry in a zone's waiting list, at most one (R84). -/
def State.entryOf? (s : State) (c : Slot) (z : ZoneId) : Option ClaimRef :=
  (s.zone z).waiting.find? fun ref => s.claimCrane? ref == some c

/-- The kind of the claim a pool stamp names. -/
def State.poolKind? (s : State) (stamp : Nat) : Option PoolKind := (s.poolRec? stamp).map (·.kind)

/-- Crane c holds zone z by a claim of any kind (R59). -/
def State.holds (s : State) (c : Slot) (z : ZoneId) : Bool :=
  match (s.zone z).holding with
  | .held h _ => h == c
  | _ => false

/-- The zones a crane holds (R59). -/
def State.heldZones (s : State) (c : Slot) : List ZoneId := zoneSet (s.holds c)

/-- A crane other than c has the zone in its last occupancy set (R87). -/
def State.occupiedByOther (s : State) (c : Slot) (z : ZoneId) : Bool :=
  allSlots.any fun o => o != c && (s.engine o).occupancy.contains z

/-- The crane's link is STALE or LOST (R90, R93). -/
def State.unheard (s : State) (c : Slot) : Bool := (s.link c).state == .stale || (s.link c).state == .lost

/-! ## What the arbiter tells a channel -/

/-- The channel of the crane waits for the claim. -/
def State.waitsFor (s : State) (c : Slot) (stamp : Nat) : Bool :=
  (s.channel c).claim == some (.placed stamp) && (s.channel c).phase == .waitingClaim

/-- The channel is told GRANTED: the CLAIM step completes as part of the grant (R149). -/
def tellGranted (c : Slot) (stamp : Nat) (s : State) : State :=
  if s.waitsFor c stamp then updChannel c (fun ch => ch.completed (ch.step + 1)) s else s

/-- The channel is told WITHDRAWN: its claim is gone, and it asks again at once when it runs, or when it resumes
(R149). "At once" is a CLAIM_RETRY event of its own after the event that withdrew the claim (DESIGN CHOICE, log 62). -/
def tellWithdrawn (c : Slot) (stamp : Nat) (s : State) : State :=
  if s.waitsFor c stamp then updChannel c (fun ch => { ch with claim := none }) s else s

/-- A loss joins those told and not yet taken: of several losses of one booking in one event, the lowest zone is kept
(R157). -/
def addLoss (x : Loss) : List Loss → List Loss
  | [] => [x]
  | y :: ys =>
    if y.booking == x.booking && y.event == x.event then (if x.zone < y.zone then x else y) :: ys
    else y :: addLoss x ys

/-- The channel of a crane is told CLAIM_LOST for a booking (R157). -/
def tellLost (c : Slot) (booking : Nat) (z : ZoneId) (cause : LossCause) (s : State) : State :=
  updChannel c (fun ch => { ch with losses := addLoss ⟨booking, z, cause, s.events⟩ ch.losses }) s

/-- Each running channel whose CLAIM step was refused with NO_RECORD sends its request again, as a CLAIM_RETRY of its
own; a channel that does not run lets the announcement pass (R82, R149). -/
def announceFreed (s : State) : State :=
  forEach allSlots (fun c s =>
    if (s.channel c).active && (s.channel c).claim == some .noRecord && (s.channel c).phase == .waitingClaim then
      updChannel c (fun ch => { ch with retryDue := true }) s
    else s) s

/-! ## The pool -/

/-- The dwell of a transit holding of a zone as it starts: 0, and running unless the zone is engaged or the holder's link
is not LIVE (R87, R96). -/
def State.freshDwell (s : State) (c : Slot) (z : ZoneId) : Dwell :=
  { elapsed := 0
    running := !((s.engine c).occupancy.contains z || (s.engine c).reach.contains z) && (s.link c).state == .live &&
      !(s.engine c).handOverDue }

/-- The pool has a free record (R82). -/
def State.poolHasRoom (s : State) : Bool := decide (s.arb.pool.length < Config.poolSize)

/-- The id of the free pool record a claim takes: one of the ids no record in use has, which one being a free value
(log 5). -/
def State.freshId (s : State) : Nat :=
  let free := (List.range Config.poolSize).filter fun i => !(s.arb.pool.any fun r => r.id == i)
  (free[Config.poolPick s.arb.stamp % free.length]?).getD 0

/-- A pool record is taken for a claim: it takes the counter's present value as its stamp, and the counter advances
(R83). The new record's stamp is the counter before. -/
def takePool (c : Slot) (kind : PoolKind) (priority : Nat) (booking : Option Nat) (zones : List ClaimZone)
    (dwell : Dwell) (s : State) : State :=
  let r : PoolRecord := {
    stamp := s.arb.stamp, id := s.freshId, crane := c, kind := kind, priority := priority, booking := booking
    zones := zones, dwell := dwell }
  { s with arb := { s.arb with pool := s.arb.pool ++ [r], stamp := s.arb.stamp + 1 } }

/-- Changes the pool record of a stamp. -/
def updPool (stamp : Nat) (f : PoolRecord → PoolRecord) (s : State) : State :=
  s.putPool (s.arb.pool.map fun r => if r.stamp == stamp then f r else r)

/-- Changes the zone set of a claim. -/
def updClaimZones (ref : ClaimRef) (f : List ClaimZone → List ClaimZone) (s : State) : State :=
  match ref with
  | .pool n => updPool n (fun r => { r with zones := f r.zones }) s
  | .storm c => s.putStorm c { s.storm c with zones := f (s.storm c).zones }
  | .closure _ => s

/-- Sets the status of one zone of a claim, with no mark. -/
def setStatus (ref : ClaimRef) (z : ZoneId) (st : ZoneStatus) (s : State) : State :=
  updClaimZones ref (fun l => l.map fun cz => if cz.zone == z then ⟨z, st, none⟩ else cz) s

/-- Drops a claim's per-zone status for a zone. -/
def dropZone (ref : ClaimRef) (z : ZoneId) (s : State) : State :=
  updClaimZones ref (fun l => l.filter fun cz => cz.zone != z) s

/-- A pool record retyped to TRANSIT on its one zone: rank and priority 0, no booking, its stamp kept, dwell 0 (R94). -/
def retypeTransit (stamp : Nat) (z : ZoneId) (s : State) : State :=
  updPool stamp (fun r =>
    { r with
      kind := .transit, priority := 0, booking := none, zones := [⟨z, .granted, none⟩]
      dwell := s.freshDwell r.crane z }) s

/-- A record whose remaining zones all carry the mark drops its booking reference; with exactly one zone left it is
retyped to TRANSIT (R94). The record stays the holder claim of that zone, so that ZONE(k) is not marked for it; R103 does not
say whether its new kind is a change of the holder claim (DESIGN CHOICE, log 73). -/
def settleMarked (stamp : Nat) (s : State) : State :=
  match s.poolRec? stamp with
  | none => s
  | some r =>
    match r.zones with
    | [] => s
    | cz :: rest =>
      if (cz :: rest).all (fun z => z.pending.isSome) then
        if rest.isEmpty then retypeTransit stamp cz.zone s else updPool stamp (fun r => { r with booking := none }) s
      else s

/-- The claims that keep zones with the conversion-pending mark, as (event of marking, zone, claim). -/
def State.pendingZones (s : State) : List (Nat × ZoneId × ClaimRef) :=
  let ofClaim (ref : ClaimRef) (zs : List ClaimZone) := zs.filterMap fun cz => cz.pending.map fun e => (e, cz.zone, ref)
  (s.arb.pool.flatMap fun r => ofClaim (.pool r.stamp) r.zones) ++
  (allSlots.flatMap fun c => ofClaim (.storm c) (s.storm c).zones)

/-- Of two marked zones, the one marked earlier; of zones marked in one event, the lowest number (R82). -/
def earlierMark (a b : Nat × ZoneId × ClaimRef) : Nat × ZoneId × ClaimRef :=
  if b.1 < a.1 ∨ (b.1 = a.1 ∧ b.2.1 < a.2.1) then b else a

/-- The zone whose mark was set earliest (R82). -/
def State.firstPending? (s : State) : Option (Nat × ZoneId × ClaimRef) :=
  match s.pendingZones with
  | [] => none
  | x :: xs => some (xs.foldl earlierMark x)

/-- A zone held by claim `ref` of crane c passes to a fresh TRANSIT record of the crane, which becomes its holder claim
(R93 effect 3, R94); the claim's per-zone status is dropped. -/
def convertToTransit (ref : ClaimRef) (c : Slot) (z : ZoneId) (s : State) : State :=
  let n := s.arb.stamp
  let s1 := takePool c .transit 0 none [⟨z, .granted, none⟩] (s.freshDwell c z) s
  dropZone ref z (updZone z (fun r => { r with holding := .held c (.pool n) }) s1)

/-- Hands on a freed pool record: the zone whose conversion-pending mark was set earliest is converted with it; with no
such zone it stays free and the freeing is announced (R82). -/
def handOn (s : State) : State :=
  match s.firstPending? with
  | none => announceFreed s
  | some (_, z, ref) =>
    match s.claimCrane? ref with
    | none => announceFreed s
    | some c =>
      let s1 := convertToTransit ref c z s
      match ref with
      | .pool n => settleMarked n s1
      | _ => s1

/-- A pool record left with no zone is freed and handed on; one left with marked zones alone is settled (R82, R94). -/
def tidyClaim (ref : ClaimRef) (s : State) : State :=
  match ref with
  | .pool n =>
    match s.poolRec? n with
    | none => s
    | some r =>
      if r.zones.isEmpty then handOn (s.putPool (s.arb.pool.filter fun r => r.stamp != n)) else settleMarked n s
  | _ => s

/-! ## Waiting lists -/

/-- The list with an entry at the position its key gives: behind every entry with a higher key and ahead of every entry
with a lower one (R84). -/
def insertByKey (s : State) (ref : ClaimRef) : List ClaimRef → List ClaimRef
  | [] => [ref]
  | x :: xs => if (s.key x).above (s.key ref) then x :: insertByKey s ref xs else ref :: x :: xs

/-- Places a claim's entry in a zone's list (R84). -/
def placeEntry (ref : ClaimRef) (z : ZoneId) (s : State) : State :=
  updZone z (fun r => { r with waiting := insertByKey s ref r.waiting }) s

/-- Removes a claim's entry from a zone's list. -/
def removeEntry (ref : ClaimRef) (z : ZoneId) (s : State) : State :=
  updZone z (fun r => { r with waiting := r.waiting.filter fun x => x != ref }) s

/-- The zones in which a claim is WAITING. -/
def State.waitingZones (s : State) (ref : ClaimRef) : List ZoneId :=
  zoneSet fun z => (s.claimZones ref).any fun cz => cz.zone == z && cz.status == .waiting

/-- Withdraws a pool claim: its waiting entries leave their lists, zones granted to it stay, and a record left with no
zone is freed (R99). -/
def withdrawPool (stamp : Nat) (s : State) : State :=
  let s1 := forEach (s.waitingZones (.pool stamp)) (removeEntry (.pool stamp)) s
  tidyClaim (.pool stamp) (updClaimZones (.pool stamp) (fun l => l.filter fun cz => cz.status != .waiting) s1)

/-! ## Evictions -/

/-- The substate and evictees of a zone are cleared: the zone leaves the evict set of every evictee, with CRANE(c) marked
for each (R92, R93, R102). The rule that clears them marks ZONE(k). The slots are taken
ascending (DESIGN CHOICE, log 79). -/
def clearEvictees (z : ZoneId) (s : State) : State :=
  let s1 := forEach (s.zone z).evictees (fun e => updEvict e (fun l => l.filter fun k => k != z)) s
  modZone z (fun r => { r with evictees := [] }) s1

/-- Every crane other than the storm holder c whose last occupancy set contains the zone becomes an evictee (R91 step
3). CRANE(c) is marked for each, ascending (DESIGN CHOICE, log 79), and ZONE(k) by the step that follows. -/
def evictFrom (c : Slot) (z : ZoneId) (s : State) : State :=
  let es := slotSet fun o => o != c && (s.engine o).occupancy.contains z
  let s1 := forEach es (fun e s => mark (.crane e) (updEvict e (addZone z) s)) s
  modZone z (fun r => { r with evictees := es }) s1

/-- The zones an evictee no longer occupies leave its evict set, and it leaves their evictees (R92), the zones
ascending (DESIGN CHOICE, log 79). -/
def endEvictions (c : Slot) (s : State) : State :=
  forEach ((s.engine c).evict.filter fun z => !(s.engine c).occupancy.contains z) (fun z s =>
    updZone z (fun r => { r with evictees := r.evictees.filter fun o => o != c })
      (updEngine c (fun e => { e with evict := e.evict.filter fun k => k != z }) s)) s

end Sys2Proof.Machine
end

