-- ==== Sys2Proof/Machine/Arbiter.lean ====
section
/-! DEFINITION. The Zone Arbiter at work: grant tests (R86 to R91), the release rule (R93, R94), withdrawals (R99),
requests (R85, R97), the hand-over (R98), closures (R100, R101), FORCE_RELEASE (R102) and removal (R104). -/

namespace Sys2Proof.Machine

/-! ## Grant tests -/

/-- The candidate of a zone: the first entry in list order, passing over an entry whose crane's link is STALE (R87). -/
def State.candidate? (s : State) (z : ZoneId) : Option ClaimRef :=
  (s.zone z).waiting.find? fun ref => match s.claimCrane? ref with
    | some c => (s.link c).state != .stale
    | none => true

/-- The holder claim of a zone keeps it with the conversion-pending mark (R94). -/
def State.heldMarked (s : State) (z : ZoneId) : Bool :=
  match (s.zone z).holding with
  | .held _ ref => s.pendingIn ref z
  | _ => false

/-- Between two states a zone changed in what R86 names: its status with holder, holder claim and mark, on which R90
depends (DEDUCED, log 22), its waiting list, its reservation, or its membership of some crane's last occupancy set. -/
def testChanged (old s : State) (z : ZoneId) : Bool :=
  (old.zone z).holding != (s.zone z).holding || old.heldMarked z != s.heldMarked z ||
  (old.zone z).waiting != (s.zone z).waiting || (old.zone z).reservedFor != (s.zone z).reservedFor ||
  allSlots.any fun c => (old.engine c).occupancy.contains z != (s.engine c).occupancy.contains z

/-- The zones due for a test after a change, together with those already due (R86). -/
def dueAfter (old s : State) (due : List ZoneId) : List ZoneId :=
  zoneSet fun z => due.contains z || testChanged old s z

/-- The zones in whose waiting list the crane has an entry. -/
def State.entryZones (s : State) (c : Slot) : List ZoneId := zoneSet fun z => (s.entryOf? c z).isSome

/-- The first two conditions of R87 for a crane: the zone is FREE and no other crane's last occupancy set contains it. A
reservation for another claim has ended when that claim is no longer the candidate (R88). -/
def State.openTo (s : State) (c : Slot) (z : ZoneId) : Bool :=
  (s.zone z).holding == .free && !s.occupiedByOther c z

/-- A STORM candidate of crane c may be granted the zone (R90). -/
def State.stormMayTake (s : State) (z : ZoneId) : Bool :=
  match (s.zone z).holding with
  | .free => true
  | .closed => false
  | .held h ref =>
    !s.unheard h && (match ref with
      | .storm _ => s.pendingIn ref z
      | _ => true)

/-- The candidate of a zone passes its grant test: alone in its zone, or for a STANDING claim in every zone in which it
waits (R87 to R90). -/
def State.passes (s : State) (z : ZoneId) (ref : ClaimRef) : Bool :=
  match ref with
  | .closure _ => (s.zone z).holding == .free
  | .storm _ => s.stormMayTake z
  | .pool n =>
    match s.poolRec? n with
    | none => false
    | some r => (s.waitingZones ref).all fun k => s.openTo r.crane k && s.candidate? k == some ref

/-- Grants one zone to a pool claim of crane c: the zone is HELD, its status GRANTED, the entry leaves the list and a
reservation is cleared; a TRANSIT dwell starts at 0 (R87). -/
def grantPoolZone (n : Nat) (c : Slot) (z : ZoneId) (s : State) : State :=
  let s1 := updZone z (fun r =>
    { r with
      holding := .held c (.pool n), waiting := r.waiting.filter fun x => x != .pool n
      reservedFor := none }) s
  updPool n (fun r => if r.kind == .transit then { r with dwell := s.freshDwell c z } else r)
    (setStatus (.pool n) z .granted s1)

/-- A claim loses a zone outright: its status there is dropped, its channel is told when it is a zone of a booking, and a
pool record left with no zone is freed (R91 step 1, R102 step 2). A marked zone counts no longer as a zone of the booking
(R94). -/
def loseZone (cause : LossCause) (z : ZoneId) (ref : ClaimRef) (s : State) : State :=
  let s1 := match ref with
    | .pool n => match s.poolRec? n with
      | some r => match r.kind, r.booking with
        | .standing, some b => if s.pendingIn ref z then s else tellLost r.crane b z cause s
        | _, _ => s
      | none => s
    | _ => s
  tidyClaim ref (dropZone ref z s1)

/-- The claims by which a zone is held: holder claim, then co-claims. -/
def ZoneRecord.claims (r : ZoneRecord) : List ClaimRef :=
  match r.holding with
  | .held _ ref => ref :: r.coClaims.map .pool
  | _ => []

/-- The storm record of c becomes holder claim of the zone, with its status GRANTED and its evictees judged, and ZONE(k) is
marked last (R91 steps 2 to 4). -/
def stormTakes (c : Slot) (z : ZoneId) (co : List Nat) (s : State) : State :=
  let s1 := modZone z (fun r =>
    { r with
      holding := .held c (.storm c), coClaims := co, reservedFor := none
      waiting := r.waiting.filter fun x => x != .storm c }) s
  mark (.zone z) (evictFrom c z (setStatus (.storm c) z .granted s1))

/-- A STORM grant of zone z to crane c (R91). -/
def stormGrant (c : Slot) (z : ZoneId) (s : State) : State :=
  stormTakes c z [] (forEach (s.zone z).claims (loseZone .storm z) s)

/-- Grants a candidate that passes (R87 to R91). -/
def grantCandidate (z : ZoneId) (ref : ClaimRef) (s : State) : State :=
  match ref with
  | .closure _ =>
    updZone z (fun r =>
      { r with
        holding := .closed, reservedFor := none
        waiting := r.waiting.filter fun x => x != .closure z }) s
  | .storm c => stormGrant c z s
  | .pool n =>
    match s.poolRec? n with
    | none => s
    | some r =>
      let s1 := forEach (s.waitingZones ref) (grantPoolZone n r.crane) s
      if r.kind == .standing then tellGranted r.crane n s1 else s1

/-- The lowest zone of those due whose candidate passes. -/
def State.nextGrant? (s : State) (due : List ZoneId) : Option (ZoneId × ClaimRef) :=
  due.findSome? fun z => (s.candidate? z).bind fun ref => if s.passes z ref then some (z, ref) else none

/-- Grants until no test remains due that grants, each grant making tests due over the zones it changes (R86); with the
zones tested in the end. Each grant takes at least one entry from a list, which `fuel` bounds. -/
def grantAll : (fuel : Nat) → (due : List ZoneId) → State → List ZoneId × State
  | 0, due, s => (due, s)
  | n + 1, due, s => match s.nextGrant? due with
    | none => (due, s)
    | some (z, ref) =>
      let s1 := grantCandidate z ref s
      grantAll n (dueAfter s s1 due) s1

/-- The reservation a tested zone has after the tests: for the STANDING candidate that passes in it and, not having been
granted, fails in another zone of its set (R88). -/
def State.reservation? (s : State) (z : ZoneId) : Option Nat :=
  match s.candidate? z with
  | some (.pool n) => match s.poolRec? n with
    | some r => if r.kind == .standing && s.openTo r.crane z then some n else none
    | none => none
  | _ => none

/-- Sets the reservation of a zone, marking ZONE(k) when it begins or ends (R88). -/
def settleReservation (z : ZoneId) (s : State) : State :=
  if (s.zone z).reservedFor == s.reservation? z then s
  else updZone z (fun r => { r with reservedFor := s.reservation? z }) s

/-- All entries of all lists. -/
def State.entryCount (s : State) : Nat := (allZones.map fun z => (s.zone z).waiting.length).sum

/-- The grant tests made due by what an event has changed since `old`, run until none remains due; `extra` names the
zones that a link or a hand-over makes due without a change of their own (R86). -/
def settleZones (old : State) (extra : List ZoneId) (s : State) : State :=
  let r := grantAll s.entryCount (dueAfter old s extra) s
  forEach r.1 settleReservation r.2

/-! ## The release rule -/

/-- Converts a holding that its crane still occupies or of which nothing is heard (R93 effect 3), by R94 when the pool is
empty. -/
def convertHolding (ref : ClaimRef) (c : Slot) (z : ZoneId) (s : State) : State :=
  if s.poolHasRoom then tidyClaim ref (convertToTransit ref c z s)
  else
    let pending (s : State) := updClaimZones ref (fun l => l.map fun cz =>
      if cz.zone == z then { cz with pending := some s.events } else cz) s
    match ref with
    | .pool n =>
      if (s.claimZones ref).all fun cz => cz.zone == z then retypeTransit n z s else settleMarked n (pending s)
    | _ => pending s

/-- Releases claim `ref` from a zone GRANTED to it: the first effect of R93 that applies, with ZONE(k) marked after it. The
grant tests it makes due run after the last release of the event (R95). -/
def releaseZone (ref : ClaimRef) (z : ZoneId) (s : State) : State :=
  if !s.grantedTo ref z then s
  else
    let s1 := match ref with
      | .storm _ => clearEvictees z s
      | _ => s
    let s2 := match (s1.zone z).holding with
      | .held c holder =>
        if holder != ref then
          tidyClaim ref (dropZone ref z (modZone z (fun r =>
            { r with coClaims := r.coClaims.filter fun m => ClaimRef.pool m != ref }) s1))
        else match (s1.zone z).coClaims with
          | m :: rest =>
            tidyClaim ref (dropZone ref z (modZone z (fun r =>
              { r with holding := .held c (.pool m), coClaims := rest }) s1))
          | [] =>
            if (s1.engine c).occupancy.contains z || s1.unheard c then convertHolding ref c z s1
            else tidyClaim ref (dropZone ref z (modZone z (fun r => { r with holding := .free }) s1))
      | _ => s1
    mark (.zone z) s2

/-- The stamps of the STANDING claims of a booking. -/
def State.standingOf (s : State) (booking : Nat) : List Nat :=
  (s.arb.pool.filter fun r => r.kind == .standing && r.booking == some booking).map (·.stamp)

/-- Releases the named zones of every STANDING claim of a booking, ascending; zones kept with the conversion-pending mark
are passed by (R94, R95). Several claims of one zone are released in the order of their creation, for which R95 has no rule
(DESIGN CHOICE, log 71). -/
def releaseBookingZones (booking : Nat) (zones : List ZoneId) (s : State) : State :=
  settleZones s [] (forEach zones (fun z s =>
    forEach (s.standingOf booking) (fun n s => if s.pendingIn (.pool n) z then s else releaseZone (.pool n) z s) s) s)

/-! ## Withdrawals -/

/-- Withdraws the STANDING entries of a booking, by its own channel's cause (R99). -/
def withdrawBooking (booking : Nat) (s : State) : State :=
  settleZones s [] (forEach (s.standingOf booking) withdrawPool s)

/-- Withdraws one waiting claim by its channel's own request: its wait limit has expired (R99). -/
def withdrawClaim (stamp : Nat) (s : State) : State := settleZones s [] (withdrawPool stamp s)

/-- A pool claim is withdrawn by a cause other than its channel's request: the channel is told WITHDRAWN (R99). -/
def withdrawTold (c : Slot) (stamp : Nat) (s : State) : State := tellWithdrawn c stamp (withdrawPool stamp s)

/-- Withdraws every entry of a crane, as when its link becomes LOST or it enters FAULT, LOCKOUT or OFFLINE: waiting zones
of the storm record become DEFERRED, and the transit request set is emptied (R99). Pool claims go first, in the order of
their creation, and then the storm zones ascending; R99 gives no order (DESIGN CHOICE, log 72). -/
def withdrawCrane (c : Slot) (s : State) : State :=
  let stamps := (s.arb.pool.filter fun r => r.crane == c && r.zones.any fun cz => cz.status == .waiting).map (·.stamp)
  let s1 := forEach stamps (withdrawTold c) s
  let s2 := forEach (s1.waitingZones (.storm c)) (fun z s =>
    setStatus (.storm c) z .deferred (removeEntry (.storm c) z s)) s1
  settleZones s [] (updEngine c (fun e => { e with transit := [] }) s2)

/-! ## Requests -/

/-- The crane's waiting pool claim in a zone, with its kind. -/
def State.waitingPool? (s : State) (c : Slot) (z : ZoneId) : Option (Nat × PoolKind) :=
  match s.entryOf? c z with
  | some (.pool n) => (s.poolKind? n).map fun k => (n, k)
  | _ => none

/-- A TRANSIT request of a crane for a zone: with an entry of the crane it changes nothing, and with an empty pool it is
dropped (R85, R97). -/
def requestTransit (c : Slot) (z : ZoneId) (s : State) : State :=
  if (s.entryOf? c z).isSome || s.holds c z || !s.poolHasRoom then s
  else
    placeEntry (.pool s.arb.stamp) z (takePool c .transit 0 none [⟨z, .waiting, none⟩] ⟨0, false⟩ s)

/-- The engine's new transit request set reaches the arbiter (R97). The entries of the zones no longer asked for are withdrawn
ascending, where R97 gives no order (DESIGN CHOICE, log 79). -/
def transitHandOver (c : Slot) (zones : List ZoneId) (s : State) : State :=
  let dropped := (s.engine c).transit.filter fun z => !zones.contains z
  let s1 := forEach dropped (fun z s => match s.waitingPool? c z with
    | some (n, .transit) => withdrawPool n s
    | _ => s) s
  let s2 := updEngine c (fun e => { e with transit := zones }) s1
  settleZones s [] (forEach zones (requestTransit c) s2)

/-- A STORM request of a crane for one zone of its storm record (the STORM column of R85). -/
def requestStorm (c : Slot) (z : ZoneId) (s : State) : State :=
  match (s.zone z).holding with
  | .held h ref =>
    if h != c then waitForStorm s
    else match ref with
      | .pool n =>
        let co := (s.zone z).coClaims
        if s.poolKind? n == some .standing && !s.pendingIn ref z then stormTakes c z (insertSorted n co) s
        else tidyClaim ref (dropZone ref z (stormTakes c z co s))
      | _ => s
  | _ => waitForStorm s
where
  /-- The crane holds nothing of the zone: its TRANSIT or STANDING claim there is withdrawn and the STORM entry placed. -/
  waitForStorm (s : State) : State :=
    match s.entryOf? c z with
    | some (.storm _) => s
    | some (.pool n) =>
      placeEntry (.storm c) z (setStatus (.storm c) z .waiting (withdrawTold c n s))
    | _ => placeEntry (.storm c) z (setStatus (.storm c) z .waiting s)

/-- The answer to a STANDING request (R85). -/
inductive StandingAnswer where
  | granted
  | waiting (stamp : Nat)
  | noRecord
  | alreadyWaiting
  | notMember
  deriving DecidableEq, Repr

/-- Some zone of the set meets an ALREADY_WAITING outcome for the crane (R85). -/
def State.alreadyWaits (s : State) (c : Slot) (zones : List ZoneId) : Bool :=
  zones.any fun z => match s.entryOf? c z with
    | some (.pool n) => s.poolKind? n == some .standing
    | some (.storm _) => true
    | _ => false

/-- The crane holds the zone by a TRANSIT claim; its stamp. -/
def State.transitHolding? (s : State) (c : Slot) (z : ZoneId) : Option Nat :=
  match (s.zone z).holding with
  | .held h (.pool n) => if h == c && s.poolKind? n == some .transit then some n else none
  | _ => none

/-- The pool record of a TRANSIT holding is retyped to STANDING and takes the booking and its priority (R85). The record
stays the holder claim, so that ZONE(k) is not marked; R103 does not say whether its new kind and booking are a change of the
holder claim (DESIGN CHOICE, log 73). -/
def retypeStanding (n booking priority : Nat) (s : State) : State :=
  updPool n (fun r =>
    { r with kind := .standing, priority := priority, booking := some booking, dwell := ⟨0, false⟩ }) s

/-- One zone of a stored STANDING claim of stamp n is handled by the crane's relation to it (the STANDING column of
R85). -/
def requestStandingZone (n : Nat) (c : Slot) (z : ZoneId) (s : State) : State :=
  if s.holds c z then
    match s.transitHolding? c z with
    | some m =>
      tidyClaim (.pool m) (dropZone (.pool m) z (setStatus (.pool n) z .granted
        (updZone z (fun r => { r with holding := .held c (.pool n) }) s)))
    | none =>
      setStatus (.pool n) z .granted (updZone z (fun r => { r with coClaims := insertSorted n r.coClaims }) s)
  else match s.waitingPool? c z with
    | some (m, .transit) => placeEntry (.pool n) z (withdrawPool m s)
    | _ => placeEntry (.pool n) z s

/-- Every zone of a claim is GRANTED to it. -/
def State.allGranted (s : State) (ref : ClaimRef) : Bool := (s.claimZones ref).all fun cz => cz.status == .granted

/-- A STANDING request of crane c's channel for a set of zones (R85). -/
def requestStanding (c : Slot) (booking priority : Nat) (zones : List ZoneId) (s : State) : State × StandingAnswer :=
  if !zones.all fun z => s.member c z then (s, .notMember)
  else if s.alreadyWaits c zones then (s, .alreadyWaiting)
  else match zones, zones.head?.bind (s.transitHolding? c) with
    | [_], some n => (retypeStanding n booking priority s, .granted)
    | _, _ =>
      if !s.poolHasRoom then (s, .noRecord)
      else
        let n := s.arb.stamp
        let s1 := takePool c .standing priority (some booking) (zones.map fun z => ⟨z, .waiting, none⟩) ⟨0, false⟩ s
        let s2 := settleZones s [] (forEach zones (requestStandingZone n c) s1)
        (s2, if s2.allGranted (.pool n) then .granted else .waiting n)

/-! ## The hand-over -/

/-- A join grant (R98 step 2). -/
def joinGrant (c : Slot) (z : ZoneId) (s : State) : State :=
  if s.openTo c z && s.poolHasRoom then
    let n := s.arb.stamp
    updZone z (fun r => { r with holding := .held c (.pool n), reservedFor := none })
      (takePool c .transit 0 none [⟨z, .granted, none⟩] ⟨0, false⟩ s)
  else s

/-- The dwell of a held TRANSIT zone at a hand-over, when the link is LIVE (R96). -/
def judgedDwell (engaged : Bool) (d : Dwell) : Dwell :=
  if engaged then ⟨0, false⟩ else { d with running := true }

/-- The dwell of a crane whose link becomes STALE. One that has reached 3,000 ms, its expiry not taken yet, stops short of
it (R96), at 2,999 ms; R96 does not say how far short (DESIGN CHOICE, log 77). -/
def Dwell.stopped (d : Dwell) : Dwell :=
  if d.running then ⟨min (Config.dwellMs - 1) d.elapsed, false⟩ else d

/-- The engagement of each of the crane's held TRANSIT zones is judged (R96, R98 step 4). -/
def judgeDwells (c : Slot) (s : State) : State :=
  let e := s.engine c
  s.putPool (s.arb.pool.map fun r =>
    if r.crane == c && r.kind == .transit then match r.zones with
      | [⟨z, .granted, _⟩] =>
        { r with dwell := judgedDwell (e.occupancy.contains z || e.reach.contains z) r.dwell }
      | _ => r
    else r)

/-- The DEFERRED zones of a crane's storm record. -/
def State.deferredZones (s : State) (c : Slot) : List ZoneId :=
  zoneSet fun z => (s.storm c).zones.any fun cz => cz.zone == z && cz.status == .deferred

/-- Each DEFERRED zone is placed again with the record's key (R98 step 5). A zone the crane holds by a claim of another
kind is taken in place, as a STORM request for it would be (R85). -/
def replaceDeferred (c : Slot) (s : State) : State := forEach (s.deferredZones c) (requestStorm c) s

/-- The zones a hand-over makes due for a test without a change of R86's kinds: those whose evictees it changed, and on the
first hand-over after the link returns those where the crane has an entry (R98 step 6) and those it holds (R90). `old` is
the state before it. -/
def handOverZones (c : Slot) (occupancy : List ZoneId) (old s : State) : List ZoneId :=
  let left := (old.engine c).evict.filter fun z => !occupancy.contains z
  if (old.engine c).handOverDue then left ++ s.entryZones c ++ s.heldZones c else left

/-- The hand-over of a crane's occupancy and reach sets (R98). -/
def handOver (c : Slot) (join : Bool) (occupancy reach : List ZoneId) (s : State) : State :=
  let s1 := updEngine c (fun e => { e with occupancy := occupancy, reach := reach, handOverDue := false }) s
  let s2 := if join then forEach occupancy (joinGrant c) s1 else s1
  let s3 := judgeDwells c (endEvictions c s2)
  let s4 := if (s3.crane c).state == .inService then replaceDeferred c s3 else s3
  settleZones s (handOverZones c occupancy s s4) s4

/-! ## The link as the arbiter sees it -/

/-- The link of a crane becomes STALE: its dwells stop, and every list with an entry of the crane is tested (R86, R96). -/
def arbiterStale (c : Slot) (s : State) : State :=
  let s1 := updEngine c (fun e => { e with handOverDue := true }) s
  settleZones s (s.entryZones c) (s1.putPool (s1.arb.pool.map fun r =>
    if r.crane == c then { r with dwell := r.dwell.stopped } else r))

/-- The TRANSIT dwell of a zone has reached 3,000 ms: the stamp of its claim (R96). -/
def State.dwellDue? (s : State) (z : ZoneId) : Option Nat :=
  match (s.zone z).holding with
  | .held _ (.pool n) => match s.poolRec? n with
    | some r =>
      if r.kind == .transit && r.dwell.running && decide (Config.dwellMs ≤ r.dwell.elapsed) then some n else none
    | none => none
  | _ => none

/-- The dwell's expiry: the claim is released from the zone (R96). -/
def expireDwell (z : ZoneId) (s : State) : State :=
  match s.dwellDue? z with
  | some n => settleZones s [] (releaseZone (.pool n) z s)
  | none => s

/-! ## Closures and FORCE_RELEASE -/

/-- The closure entry of the zone waits. -/
def State.closureWaits (s : State) (z : ZoneId) : Bool := (s.zone z).waiting.contains (.closure z)

/-- The effect of CLOSE_ZONE when its checks pass: the closure record is created with a new stamp, its entry placed and
the grant test run (R100). -/
def closeTheZone (z : ZoneId) (s : State) : State :=
  let n := s.arb.stamp
  let s1 := updZone z (fun r => { r with closure := some n }) s
  let s2 := { s1 with arb := { s1.arb with stamp := n + 1 } }
  settleZones s [] (placeEntry (.closure z) z s2)

/-- The effect of OPEN_ZONE on a CLOSED zone (R101). -/
def openTheZone (z : ZoneId) (s : State) : State :=
  settleZones s [] (updZone z (fun r => { r with holding := .free, closure := none }) s)

/-- The effect of OPEN_ZONE on a zone whose closure entry waits (R101). -/
def withdrawClosure (z : ZoneId) (s : State) : State :=
  settleZones s [] (updZone z (fun r =>
    { r with closure := none, waiting := r.waiting.filter fun x => x != .closure z }) s)

/-- The effect of FORCE_RELEASE when it is taken, ZONE(k) being marked by its last step (R102). By step 4 a zone that a storm
record kept with the conversion-pending mark after its storm exit stays in that record too, WAITING. -/
def forceFree (z : ZoneId) (s : State) : State :=
  match (s.zone z).holding with
  | .held _ ref =>
    let again := match ref with
      | .storm c => some c
      | _ => none
    let s1 := match ref with
      | .storm _ => clearEvictees z s
      | _ => s
    let lost := if again.isSome then (s1.zone z).coClaims.map ClaimRef.pool else (s1.zone z).claims
    let s2 := modZone z (fun r => { r with holding := .free, coClaims := [] }) s1
    let s3 := forEach lost (loseZone .forced z) s2
    let s4 := match again with
      | some c =>
        let s4 := setStatus (.storm c) z .waiting s3
        modZone z (fun r => { r with waiting := insertByKey s4 (.storm c) r.waiting }) s4
      | none => s3
    mark (.zone z) (settleZones s [z] s4)
  | _ => s

/-! ## Storm record and storm exit -/

/-- The storm record of a crane is created or has zones added: it takes a stamp when it was empty (R83). -/
def stampStorm (c : Slot) (s : State) : State :=
  if (s.storm c).zones.isEmpty then
    let s1 := s.putStorm c { s.storm c with stamp := s.arb.stamp }
    { s1 with arb := { s1.arb with stamp := s.arb.stamp + 1 } }
  else s

/-- Zones join the storm record with a status; zones it already has stay as they are. -/
def addStormZones (c : Slot) (zones : List ZoneId) (st : ZoneStatus) (s : State) : State :=
  let fresh := zones.filter fun z => !(s.storm c).zones.any fun cz => cz.zone == z
  s.putStorm c { s.storm c with zones := (s.storm c).zones ++ fresh.map fun z => ⟨z, st, none⟩ }

/-- The mark of a zone kept after a storm exit is dropped: the rebuilt record holds the zone again (R117). -/
def unmarkStorm (c : Slot) (s : State) : State :=
  updClaimZones (.storm c) (fun l => l.map fun cz => { cz with pending := none }) s

/-- The WAITING and DEFERRED zones of a crane's storm record leave it (R99, R119). -/
def withdrawStorm (c : Slot) (s : State) : State :=
  let s1 := forEach (s.waitingZones (.storm c)) (removeEntry (.storm c)) s
  settleZones s [] (updClaimZones (.storm c) (fun l => l.filter fun cz => cz.status == .granted) s1)

/-- Every zone of a crane's storm record is released, ascending; zones already kept with the mark wait for a freed record
(R93 to R95, R119). -/
def releaseStorm (c : Slot) (s : State) : State :=
  settleZones s [] (forEach allZones (fun z s =>
    if s.pendingIn (.storm c) z then s else releaseZone (.storm c) z s) s)

/-! ## Removal and survey -/

/-- One zone after a crane's removal: a holding of the crane is freed outright, its entries leave the list and it leaves
the evictees (R104). -/
def removeFromZone (c : Slot) (mine : List ClaimRef) (z : ZoneId) (s : State) : State :=
  let s1 := if s.holds c z then
      updZone z (fun r => { r with holding := .free, coClaims := [] }) (clearEvictees z s)
    else s
  updZone z (fun r =>
    { r with
      waiting := r.waiting.filter fun x => !mine.contains x
      evictees := r.evictees.filter fun o => o != c }) s1

/-- The crane's removal in the arbiter (R104): its records are freed, and each is handed on (R82). -/
def arbiterRemove (c : Slot) (s : State) : State :=
  let freed := s.arb.pool.filter fun r => r.crane == c
  let mine := ClaimRef.storm c :: freed.map fun r => .pool r.stamp
  let s1 := forEach allZones (removeFromZone c mine) s
  let s2 := (s1.putPool (s1.arb.pool.filter fun r => r.crane != c)).putStorm c .empty
  let s3 := updEngine c (fun e => { e with occupancy := [], reach := [], evict := [] }) s2
  settleZones s [] (forEach freed (fun _ s => handOn s) s3)

/-- The arbiter at survey entry and survey exit: all free, all lists empty, the stamp counter kept (R104). -/
def arbiterCleared (s : State) : State :=
  let s1 := forEach allZones (fun z s => updZone z (fun _ => .free) s) s
  { s1 with arb := { Arbiter.cleared with stamp := s.arb.stamp } }

end Sys2Proof.Machine
end

