-- ==== Sys2Proof/Machine/Booking.lean ====
section
/-! DEFINITION. The Booking Table at work: the channel's suspension reasons and wind judgement (R120, R121, R159), how a
booking comes on and off a channel (R131 to R136), the minute event (R129), LOCKOUT and removal (R130, R138, R139). A
booking is put on a channel here; the channel takes its steps in Sys2Proof/Machine/Channel.lean. -/

namespace Sys2Proof.Machine

/-! ## Suspension reasons and the wind limit -/

/-- The wind limit of a booking: its own, or the profile's hold gust (R120). -/
def State.limitOf (s : State) (b : Booking) : Nat := b.windLimit.getD s.profile.holdGust

/-- A channel gains reasons. Going from an empty suspension set to a non-empty one with a current booking, a waiting
CLAIM step has its claim withdrawn; a claim on a place of the notice queue lapses by the channel not running (R159). A
claim standing NO_RECORD or ALREADY_WAITING becomes absent then, as a PLACED one does (DESIGN CHOICE, log 63). -/
def addReason (c : Slot) (f : Reasons → Reasons) (s : State) : State :=
  let ch := s.channel c
  let first := ch.booking.isSome && ch.reasons == .empty && f ch.reasons != .empty
  let s1 := updChannel c (fun ch =>
    { ch with
      reasons := f ch.reasons
      claim := if first && ch.phase == .waitingClaim then none else ch.claim }) s
  match ch.phase, ch.claim with
  | .waitingClaim, some (.placed n) => if first then withdrawClaim n s1 else s1
  | _, _ => s1

/-- The gust is known and at or above a limit. -/
def atOrAbove (gust : Option Nat) (limit : Nat) : Bool :=
  match gust with
  | some g => decide (limit ≤ g)
  | none => false

/-- The gust is known and below a limit. -/
def knownBelow (gust : Option Nat) (limit : Int) : Bool :=
  match gust with
  | some g => decide ((g : Int) < limit)
  | none => false

/-- The calm condition of a channel whose booking has wind limit L (R121). -/
def State.calmCondition (s : State) (c : Slot) (limit : Nat) : Bool :=
  decide ((s.effective c).rank ≤ 1) && (s.link c).state == .live &&
    knownBelow (s.windOf c).gust ((limit : Int) - s.profile.hysteresis)

/-- The channel is judged against its booking's wind limit (R120), and while it holds WIND the judgement decides its calm
timer (R121). -/
def judgeChannelWind (c : Slot) (s : State) : State :=
  match s.current? c with
  | none => s
  | some b =>
    let limit := s.limitOf b
    if (s.channel c).reasons.wind then
      updChannel c (fun ch =>
        { ch with
          calmFrom := if s.calmCondition c limit then some (ch.calmFrom.getD s.now) else none }) s
    else if decide (2 ≤ (s.effective c).rank) || atOrAbove (s.windOf c).gust limit then
      addReason c (fun r => { r with wind := true }) (updChannel c (fun ch => { ch with calmFrom := none }) s)
    else s

/-! ## Putting a booking on a channel -/

/-- The channel record with booking n at step 0, phase STARTING: nothing waits and no pause stands. -/
def Channel.takes (n : Nat) (ch : Channel) : Channel :=
  { ch with
    booking := some n, step := 0, phase := .starting, repeatCounter := 0, loopStart := 0, hold := none, wait := none
    claim := none, paused := false, calmFrom := none, retryDue := false }

/-- A booking starts on an IDLE channel: it is RUNNING, the channel takes it with its step mode, and is judged against
its wind limit (R132). -/
def startIdle (c : Slot) (b : Booking) (s : State) : State :=
  let s1 := updBooking b.number (fun b => { b with state := .running }) s
  judgeChannelWind c (updChannel c (fun ch => { ch.takes b.number with stepMode := b.stepMode, interruptedLoss := none }) s1)

/-- A booking starts on a channel already running another: step-mode flag and suspension set are kept (R132). -/
def startOver (c : Slot) (n : Nat) (returnsTo : Option Nat) (s : State) : State :=
  let s1 := updBooking n (fun b => { b with state := .running, returnsTo := returnsTo }) s
  judgeChannelWind c (updChannel c (Channel.takes n) s1)

/-- The context of a channel's step, saved at an interruption (R134). -/
def Channel.context (ch : Channel) : SavedContext where
  step := ch.step
  phase := ch.phase
  repeatCounter := ch.repeatCounter
  loopStart := ch.loopStart
  hold := ch.hold
  wait := ch.wait
  paused := ch.paused

/-- Booking x, current on the channel, is interrupted by urgent booking u (R134). -/
def interruptWith (c : Slot) (x u : Nat) (s : State) : State :=
  let saved := (s.channel c).context
  let s1 := withdrawBooking x (updChannel c (fun ch => { ch with claim := none, retryDue := false }) s)
  let s2 := updBooking x (fun b => { b with state := .interrupted, saved := some saved }) s1
  startOver c u (some x) s2

/-- Urgent start of booking u of crane c, decided when the part is in OPERATE and c is IN_SERVICE (R134). -/
def urgentStart (c : Slot) (u : Booking) (s : State) : State :=
  if s.operate && (s.crane c).state == .inService then
    match s.current? c with
    | none => startIdle c u s
    | some x => if x.returnsTo.isNone then interruptWith c x.number u.number s else s
  else s

/-- The booking with the lower start, and of equal starts the lower number (R131). -/
def earlierBooking (a b : Booking) : Booking :=
  if b.start < a.start ∨ (b.start = a.start ∧ b.number < a.number) then b else a

/-- The READY booking of a crane with the lowest start minute, and of those the lowest number, among those of a kind
(R131). -/
def State.firstReady? (s : State) (c : Slot) (p : BookingKind → Bool) : Option Booking :=
  match s.bookings.filter fun b => b.crane == c && b.state == .ready && p b.kind with
  | [] => none
  | b :: bs => some (bs.foldl earlierBooking b)

/-- Start gating's conditions for a booking of crane c (R131). -/
def State.mayStart (s : State) (c : Slot) (b : Booking) : Bool :=
  s.operate && (s.crane c).state == .inService && decide ((s.effective c).rank ≤ 1) &&
    knownBelow (s.windOf c).gust (s.limitOf b)

/-- Start gating for a crane (R131). -/
def gate (c : Slot) (s : State) : State :=
  match s.firstReady? c (· == .urgent) with
  | some u => urgentStart c u s
  | none =>
    if (s.channel c).booking.isSome then s
    else match s.firstReady? c fun _ => true with
      | some b => if s.mayStart c b then startIdle c b s else s
      | none => s

/-! ## Taking a booking off a channel -/

/-- The channel becomes IDLE: reasons and step-mode flag are kept, the calm timer is stopped (R146). -/
def Channel.idled (ch : Channel) : Channel :=
  { ch with
    booking := none, step := 0, phase := .starting, repeatCounter := 0, loopStart := 0, hold := none, wait := none
    claim := none, paused := false, calmFrom := none, interruptedLoss := none, retryDue := false }

/-- A booking ends: the losses told its crane's channel and not yet taken are disregarded (R157). -/
def forgetLosses (n : Nat) (s : State) : State :=
  match s.booking? n with
  | some b => updChannel b.crane (fun ch => { ch with losses := ch.losses.filter fun x => x.booking != n }) s
  | none => s

/-- Steps 1 to 3 of the end of a booking: its waiting entries are withdrawn, its zones released, and it takes its ended
state and outcome (R133). -/
def endSteps (n : Nat) (st : BookingState) (out : BookingOutcome) (s : State) : State :=
  updBooking n (fun b => { b with state := st, outcome := some out, returnsTo := none, saved := none })
    (forgetLosses n (releaseBookingZones n allZones (withdrawBooking n s)))

/-- The channel takes an interrupted booking again with its saved context (R135). A saved pause stands again when the
step-mode flag is on (R160). -/
def Channel.resumes (n : Nat) (x : SavedContext) (ch : Channel) : Channel :=
  { ch with
    booking := some n, step := x.step, phase := x.phase, repeatCounter := x.repeatCounter, loopStart := x.loopStart
    hold := x.hold, wait := x.wait, claim := none, paused := x.paused && ch.stepMode, calmFrom := none
    retryDue := false }

/-- The channel becomes IDLE and start gating is run for the crane (R133 step 4). -/
def idleAndGate (c : Slot) (s : State) : State := gate c (updChannel c Channel.idled s)

/-- Booking x of crane c resumes on the channel (R135). With an interrupted loss it fails before it goes on (R157). -/
def resumeBooking (c : Slot) (x : Booking) (saved : SavedContext) (s : State) : State :=
  let s1 := updBooking x.number (fun b => { b with state := .running, saved := none }) s
  let s2 := judgeChannelWind c (updChannel c (Channel.resumes x.number saved) s1)
  match (s2.channel c).interruptedLoss with
  | some (_, cause) => idleAndGate c (endSteps x.number .failed ⟨.claimLost cause, some saved.step⟩ s2)
  | none => s2

/-- A RUNNING booking of crane c ends (R133). The booking it returns to resumes; otherwise the channel becomes IDLE and
gating runs. -/
def endBooking (c : Slot) (n : Nat) (st : BookingState) (out : BookingOutcome) (s : State) : State :=
  match s.booking? n with
  | none => s
  | some b =>
    let s1 := endSteps n st out s
    match b.returnsTo.bind s1.booking? with
    | some x => match x.state, x.saved with
      | .interrupted, some saved => resumeBooking c x saved s1
      | _, _ => idleAndGate c s1
    | none => idleAndGate c s1

/-- The current booking of a channel ends at its present step index. -/
def endCurrent (c : Slot) (st : BookingState) (code : OutcomeCode) (s : State) : State :=
  match (s.channel c).booking with
  | some n => endBooking c n st ⟨code, some (s.channel c).step⟩ s
  | none => s

/-- An INTERRUPTED booking is cancelled: its held zones are released, it becomes CANCELLED with its saved step, and a
RUNNING URGENT booking that names it returns to none (R137, R138). An interrupted loss goes with it (R157). -/
def cancelInterrupted (b : Booking) (code : OutcomeCode) (s : State) : State :=
  let s1 := forgetLosses b.number (releaseBookingZones b.number allZones s)
  let s2 := updBooking b.number (fun x =>
    { x with state := .cancelled, outcome := some ⟨code, b.saved.map (·.step)⟩, saved := none }) s1
  let named := s2.bookings.filter fun u => u.state == .running && u.returnsTo == some b.number
  let s3 := forEach named (fun u => updBooking u.number fun u => { u with returnsTo := none }) s2
  updChannel b.crane (fun ch => { ch with interruptedLoss := none }) s3

/-- The effect of CANCEL on a booking that has not ended (R137). -/
def cancelBooking (b : Booking) (s : State) : State :=
  match b.state with
  | .pending | .ready =>
    updBooking b.number (fun x => { x with state := .cancelled, outcome := some ⟨.host, none⟩ }) s
  | .running => endBooking b.crane b.number .cancelled ⟨.host, some (s.channel b.crane).step⟩ s
  | .interrupted => cancelInterrupted b .host s
  | .done | .cancelled | .expired | .failed => s

/-- A SUPERSEDE booking n replaces the RUNNING booking of crane c (R136). -/
def supersede (c : Slot) (n : Nat) (s : State) : State :=
  match s.current? c with
  | none => s
  | some b =>
    startOver c n none (endSteps b.number .cancelled ⟨.superseded, some (s.channel c).step⟩ s)

/-! ## LOCKOUT, OFFLINE and removal -/

/-- The bookings of a crane. -/
def State.bookingsOf (s : State) (c : Slot) : List Booking := s.bookings.filter fun b => b.crane == c

/-- The crane's operating state holds its bookings back: LOCKOUT or OFFLINE (R130). -/
def State.heldBack (s : State) (c : Slot) : Bool :=
  (s.crane c).state == .lockout || (s.crane c).state == .offline

/-- The crane enters LOCKOUT or OFFLINE: its READY bookings become PENDING (R130). They are taken in the order of their
admission, which shows in the order of their report keys; R130 gives none (DESIGN CHOICE, log 61). -/
def holdBack (c : Slot) (s : State) : State :=
  forEach ((s.bookingsOf c).filter fun b => b.state == .ready)
    (fun b => updBooking b.number fun b => { b with state := .pending }) s

/-- The crane leaves LOCKOUT or OFFLINE for JOINING: its PENDING bookings whose start is reached become READY (R130), in the
order of their admission (DESIGN CHOICE, log 61). -/
def letForward (c : Slot) (s : State) : State :=
  forEach ((s.bookingsOf c).filter fun b => b.state == .pending && b.startReached)
    (fun b => updBooking b.number fun b => { b with state := .ready }) s

/-- The bookings of a crane that enters LOCKOUT (R138). -/
def lockoutBookings (c : Slot) (s : State) : State :=
  let s1 := match (s.channel c).booking with
    | some n => endSteps n .failed ⟨.lockout, some (s.channel c).step⟩ s
    | none => s
  let s2 := match (s1.bookingsOf c).find? fun b => b.state == .interrupted with
    | some x => cancelInterrupted x .lockout s1
    | none => s1
  holdBack c (updChannel c Channel.idled s2)

/-- The outcome of a booking of a removed crane: its step when it was RUNNING or INTERRUPTED (R125, R139). -/
def State.removedOutcome (s : State) (c : Slot) (b : Booking) : BookingOutcome where
  code := .removed
  step := match b.state with
    | .running => some (s.channel c).step
    | .interrupted => b.saved.map (·.step)
    | _ => none

/-- The bookings of a removed crane that have not ended become CANCELLED (R139), in the order of their admission (DESIGN
CHOICE, log 61). -/
def cancelRemoved (c : Slot) (s : State) : State :=
  forEach ((s.bookingsOf c).filter fun b => !b.state.ended)
    (fun b s => updBooking b.number (fun x =>
      { x with
        state := .cancelled, outcome := some (s.removedOutcome c b), saved := none, returnsTo := none }) s) s

/-! ## The minute event -/

/-- A minute is reached by an event of previous minute p and new minute n (R129). With the previous minute absent the
event stands for every minute up to the new one (R43). -/
def reachedBy (p : Option Nat) (n m : Nat) : Bool :=
  (match p with | some p => decide (p < m) | none => true) && decide (m ≤ n)

/-- A booking after a minute event, its start before its end; `held` is its crane's LOCKOUT or OFFLINE (R129, R130). -/
def Booking.atMinute (p : Option Nat) (n : Nat) (held : Bool) (b : Booking) : Booking :=
  let startHit := b.state == .pending && reachedBy p n b.start
  let b1 := if startHit then
      { b with startReached := true, state := if held then .pending else .ready }
    else b
  if reachedBy p n b1.finish then
    match b1.state with
    | .pending | .ready => { b1 with state := .expired, outcome := some ⟨.windowEnd, none⟩ }
    | .running | .interrupted => { b1 with windowEnded := true }
    | .done | .cancelled | .expired | .failed => b1
  else b1

/-- The numbers of the bookings in the table, ascending. -/
def State.bookingNumbers (s : State) : List Nat := s.bookings.foldl (fun l b => insertSorted b.number l) []

/-- The table applies a minute event to every booking in ascending number (R129). Start gating for every crane follows
it. -/
def minuteToBookings (p : Option Nat) (n : Nat) (s : State) : State :=
  forEach s.bookingNumbers (fun k s => updBooking k (fun b => b.atMinute p n (s.heldBack b.crane)) s) s

end Sys2Proof.Machine
end

