-- ==== Sys2Proof/Machine/Channel.lean ====
section
/-! DEFINITION. The Lift Channels at work: how each step begins, waits and completes (R147 to R156), resumption (R160),
losses (R157) and wait limits (R150). -/

namespace Sys2Proof.Machine

/-! ## Conditions -/

/-- Two sectors are within t sectors of each other, counted either way around modulo 128 (R151). -/
def sectorsWithin (t : Nat) (a b : Sector) : Bool := decide ((a - b).val ≤ t) || decide ((b - a).val ≤ t)

/-- The cell an AT_CELL condition names, for a booking (R151). -/
def cellOfRef? (b : Booking) : CellRef → Option GridCell
  | .cell s d => gridCell? ⟨s, d⟩
  | .pick => some b.pick
  | .set => some b.set

/-- An AWAIT condition holds of a computed pose (R151). -/
def awaitHolds (b : Booking) (r : CraneRecord) (p : Pose) : AwaitCond → Bool
  | .atCell cell t => match cellOfRef? b cell with
    | some k => r.band p.radius == k.band && sectorsWithin t (sectorOf p.siteBearing) k.sector
    | none => false
  | .loadOn x => decide (x ≤ p.load)
  | .loadOff x => decide (p.load < x)
  | .hookAbove h => decide (h ≤ p.hookHeight)

/-- The zone is GRANTED to a STANDING claim of the booking, without the conversion-pending mark (R155). -/
def State.bookingHolds (s : State) (booking : Nat) (z : ZoneId) : Bool :=
  (s.standingOf booking).any fun n => s.grantedTo (.pool n) z && !s.pendingIn (.pool n) z

/-- A CHECK condition holds for crane c and its booking (R155). -/
def checkHolds (c : Slot) (b : Booking) (s : State) : CheckCond → Bool
  | .windBelowLimit => knownBelow (s.windOf c).gust (s.limitOf b)
  | .stateCalm => s.effective c == .calm
  | .loadBelow x => match (s.link c).lastPose with
    | some p => decide (p.load < x)
    | none => false
  | .holding z => match zoneOf? z with
    | some z => s.bookingHolds b.number z
    | none => false
  | .windowOpen => !b.windowEnded

/-! ## Steps -/

/-- The channel's step completes with a next step index (R147). -/
def completeStep (c : Slot) (next : Nat) (s : State) : State := updChannel c (fun ch => ch.completed next) s

/-- The zones a list of a step names, ascending and each once. -/
def stepZones (zs : List Nat) : List ZoneId := zoneSet fun z => zs.contains z.val

/-- The channel records how its request stands: the CLAIM step waits (R148). -/
def claimWaits (c : Slot) (claim : ChannelClaim) (s : State) : State :=
  updChannel c (fun ch => { ch with phase := .waitingClaim, claim := some claim, retryDue := false }) s

/-- A CLAIM step sends its request, after reading the end-of-window flag (R148). The reply NOT_MEMBER does not reach a
channel (R148). -/
def sendClaim (c : Slot) (b : Booking) (zs : List Nat) (s : State) : State :=
  if b.windowEnded then endCurrent c .failed .windowEnded s
  else match requestStanding c b.number b.priority (stepZones zs) s with
    | (s1, .granted) => completeStep c ((s1.channel c).step + 1) s1
    | (s1, .waiting n) => claimWaits c (.placed n) s1
    | (s1, .noRecord) | (s1, .notMember) => claimWaits c .noRecord s1
    | (s1, .alreadyWaiting) => claimWaits c .alreadyWaiting s1

/-- The wait limit of a step starts (R150). -/
def startWait (c : Slot) (seconds : Nat) (s : State) : State :=
  updChannel c (fun ch => { ch with wait := some (seconds * 1000) }) s

/-- The channel's step of booking b begins (R147 to R156). -/
def beginStep (c : Slot) (b : Booking) (step : PlanStep) (s : State) : State :=
  let at_ := (s.channel c).step
  match step with
  | .claim zs limit _ => sendClaim c b zs (if b.windowEnded then s else startWait c limit s)
  | .await _ limit _ => updChannel c (fun ch => { ch with phase := .waitingPose }) (startWait c limit s)
  | .ack _ limit _ => offerNotice c (startWait c limit s)
  | .notify .. => offerNotice c s
  | .hold n => updChannel c (fun ch => { ch with phase := .holding, hold := some n }) s
  | .repeatStep n =>
    updChannel c (fun ch =>
      ({ ch with repeatCounter := b.repeatOverride.getD n, loopStart := at_ + 1 } : Channel).completed (at_ + 1)) s
  | .loop =>
    updChannel c (fun ch =>
      if 0 < ch.repeatCounter then
        ({ ch with repeatCounter := ch.repeatCounter - 1 } : Channel).completed ch.loopStart
      else ch.completed (at_ + 1)) s
  | .check cond target => completeStep c (if checkHolds c b s cond then at_ + 1 else target) s
  | .release (.named zs) => completeStep c (at_ + 1) (releaseBookingZones b.number (stepZones zs) s)
  | .release .all => completeStep c (at_ + 1) (releaseBookingZones b.number allZones s)
  | .endStep => endCurrent c .done .endReached (releaseBookingZones b.number allZones s)

/-- An ACTIVE channel has something to do now: a step to begin, a CLAIM request to send afresh, or a notice to offer
again to a queue with room (R147, R160). -/
def State.channelDue (s : State) (c : Slot) : Bool :=
  let ch := s.channel c
  ch.active && (ch.phase == .starting || (ch.phase == .waitingClaim && ch.claim.isNone) ||
    (ch.phase == .waitingSlot && decide ((s.link c).notices.length < Config.noticeCapacity)))

/-- One act of a channel that has something to do. A channel whose plan has no step at its index, which verification
excludes (R144), ends its booking as an END step does. -/
def channelAct (c : Slot) (s : State) : State :=
  match s.current? c with
  | none => s
  | some b =>
    match s.step? c with
    | none => endCurrent c .done .endReached s
    | some step =>
      match (s.channel c).phase, step with
      | .waitingClaim, .claim zs _ _ => sendClaim c b zs s
      | .waitingSlot, _ => offerNotice c s
      | _, _ => beginStep c b step s

/-- The channel carries out its steps one after another until one waits, the plan ends or a pause stands (R147). -/
def runSteps (c : Slot) : Nat → State → State
  | 0, s => s
  | n + 1, s => if s.channelDue c then runSteps c n (channelAct c s) else s

/-- The steps a channel can take within one event are at most the 24 of each plan (R144, check 4) for each booking of the
table that can come on the channel in turn. -/
def stepBudget : Nat := 24 * 66

/-- The channel runs within this event (R147). -/
def runChannel (c : Slot) (s : State) : State := runSteps c stepBudget s

/-- The channel runs when a booking other than that of `old` has come on it in this event. -/
def runNew (c : Slot) (old s : State) : State :=
  if (s.channel c).booking != (old.channel c).booking then runChannel c s else s

/-- Start gating for a crane, and the steps of the booking it starts (R131, R132). -/
def gateAndRun (c : Slot) (s : State) : State := runNew c s (gate c s)

/-! ## Resumption -/

/-- A channel that has become ACTIVE resumes: its step goes on according to its phase (R160). -/
def resumeIfActive (c : Slot) (old s : State) : State :=
  if (s.channel c).active && !(old.channel c).active then runChannel c s else s

/-- A suspension reason leaves the channel, which resumes when it becomes ACTIVE (R158, R160). -/
def removeReason (c : Slot) (f : Reasons → Reasons) (s : State) : State :=
  resumeIfActive c s (updChannel c (fun ch => { ch with reasons := f ch.reasons }) s)

/-- The pause is lifted; the channel resumes unless it is suspended (R161). -/
def liftPause (c : Slot) (s : State) : State :=
  resumeIfActive c s (updChannel c (fun ch => { ch with paused := false }) s)

/-! ## Events of the channel -/

/-- The channel may carry out its following steps as an event of its own (R147). -/
def State.nextStepDue (s : State) (c : Slot) : Bool := (s.channel c).active && (s.channel c).phase == .starting

/-- The channel carries out its following steps (R147). -/
def takeNextStep (c : Slot) (s : State) : State := if s.nextStepDue c then runChannel c s else s

/-- A CLAIM step's request goes again: a freed record was announced to a claim standing NO_RECORD, or the claim was
withdrawn while the channel runs (R82, R149); the latter in an event of its own (DESIGN CHOICE, log 62). -/
def State.retryDue (s : State) (c : Slot) : Bool :=
  let ch := s.channel c
  ch.active && ch.phase == .waitingClaim && ((ch.retryDue && ch.claim == some .noRecord) || ch.claim.isNone)

/-- The channel's CLAIM step sends its request again (R149). -/
def resendClaim (c : Slot) (s : State) : State :=
  match s.current? c, s.step? c with
  | some b, some (.claim zs _ _) => runNew c s (sendClaim c b zs s)
  | _, _ => s

/-- The retry of a CLAIM step (R149). -/
def takeRetry (c : Slot) (s : State) : State := if s.retryDue c then resendClaim c s else s

/-- At each computation taken while the channel is ACTIVE, a claim standing ALREADY_WAITING is requested again (R149). -/
def retryAlreadyWaiting (c : Slot) (s : State) : State :=
  if (s.channel c).active && (s.channel c).phase == .waitingClaim && (s.channel c).claim == some .alreadyWaiting then
    resendClaim c s
  else s

/-- The channel waits in WAITING_POSE with its step and runs. -/
def State.awaitsPose (s : State) (c : Slot) : Bool := (s.channel c).active && (s.channel c).phase == .waitingPose

/-- The channel is offered a computation: an AWAIT step that waited before the computation and whose condition holds
completes (R151). `old` is the state before the computation. -/
def judgeAwait (c : Slot) (p : Pose) (old s : State) : State :=
  if s.awaitsPose c && old.awaitsPose c && (s.channel c).booking == (old.channel c).booking &&
      (s.channel c).step == (old.channel c).step then
    match s.current? c, s.step? c, s.record? c with
    | some b, some (.await cond _ _), some r =>
      if awaitHolds b r p cond then completeStep c ((s.channel c).step + 1) s else s
    | _, _, _ => s
  else s

/-- An ACK message is offered to the channel: it completes an ACK step in WAITING_ACK of a running channel whose code it
carries (R31, R152). -/
def offerAck (c : Slot) (code : Byte) (s : State) : State :=
  if (s.channel c).active && (s.channel c).phase == .waitingAck then
    match s.step? c with
    | some (.ack k _ _) => if k = code.toNat then completeStep c ((s.channel c).step + 1) s else s
    | _ => s
  else s

/-- The wait limit of a channel's step has run out (R150). -/
def State.waitDue (s : State) (c : Slot) : Bool :=
  let ch := s.channel c
  ch.active && ch.wait == some 0 &&
    (ch.phase == .waitingClaim || ch.phase == .waitingPose || ch.phase == .waitingAck || ch.phase == .waitingSlot)

/-- What the on-timeout of a step says (section 8.1). -/
def onTimeout? : PlanStep → Option OnTimeout
  | .claim _ _ o => some o
  | .await _ _ o => some o
  | .ack _ _ o => some o
  | _ => none

/-- The expiry of a wait limit: a claim is withdrawn, and the booking fails or the step completes with its jump (R150).
The steps after a jump are an event of their own (log 26). -/
def expireWait (c : Slot) (s : State) : State :=
  if s.waitDue c then
    let s1 := match (s.channel c).claim with
      | some (.placed n) => withdrawClaim n (updChannel c (fun ch => { ch with claim := none }) s)
      | _ => s
    match (s.step? c).bind onTimeout? with
    | some (.goto n) => completeStep c n s1
    | _ => runNew c s (endCurrent c .failed .waitLimit s1)
  else s

/-- A hold tick for one channel: it is counted while the channel is ACTIVE in HOLDING, and the tick that brings hold
remaining to 0 completes the step (R153). -/
def countTick (c : Slot) (s : State) : State :=
  let ch := s.channel c
  if ch.active && ch.phase == .holding then
    match ch.hold with
    | some n => if n ≤ 1 then completeStep c (ch.step + 1) s else updChannel c (fun ch => { ch with hold := some (n - 1) }) s
    | none => s
  else s

/-- The losses told for the event of the oldest one. -/
def Channel.lossBatch (ch : Channel) : List Loss :=
  match ch.losses with
  | [] => []
  | x :: xs => (x :: xs).filter fun y => y.event == x.event

/-- A loss of an INTERRUPTED booking is recorded unless one is recorded already (R157). -/
def recordLoss (c : Slot) (x : Loss) (s : State) : State :=
  match s.booking? x.booking with
  | some b =>
    if b.state == .interrupted then
      updChannel c (fun ch => { ch with interruptedLoss := some (ch.interruptedLoss.getD (x.zone, x.cause)) }) s
    else s
  | none => s

/-- The channel takes the losses of one arbiter event (R157): those of the interrupted booking are recorded, and a loss to
the current booking fails it. -/
def takeLosses (c : Slot) (s : State) : State :=
  let batch := (s.channel c).lossBatch
  let s1 := updChannel c (fun ch => { ch with losses := ch.losses.filter fun y => !batch.contains y }) s
  let s2 := forEach batch (recordLoss c) s1
  match batch.find? fun x => (s2.channel c).booking == some x.booking with
  | some x => runNew c s2 (endCurrent c .failed (.claimLost x.cause) s2)
  | none => s2

/-- The calm timer of a channel has run its time (R121). -/
def State.calmTimerDue (s : State) (c : Slot) : Bool :=
  match (s.channel c).calmFrom with
  | some t => decide (t + s.profile.watchResume * Config.minuteMs ≤ s.now)
  | none => false

/-- The expiry of the calm timer: WIND leaves the suspension set and the timer is stopped (R121). -/
def expireCalm (c : Slot) (s : State) : State :=
  if s.calmTimerDue c then
    removeReason c (fun r => { r with wind := false }) (updChannel c (fun ch => { ch with calmFrom := none }) s)
  else s

end Sys2Proof.Machine
end

