-- ==== Sys2Proof/Machine/Wind.lean ====
section
/-! DEFINITION. The Wind Monitor at work: samples, gust and mean (R105 to R108), borrowed values (R109), the own state and
its timers (R110 to R114), the effective state and its effects (R115, R116), and the storm record (R117 to R119). -/

namespace Sys2Proof.Machine

/-! ## Gust and mean -/

/-- The own gust (R107). -/
def Wind.ownGust (w : Wind) : Option Nat := roundedMean w.ring.sum w.ring.length

/-- The own mean (R107). -/
def Wind.ownMean (w : Wind) : Option Nat :=
  roundedMean (w.buckets.map (·.sum)).sum (w.buckets.map (·.count)).sum

/-- The crane's own values are those it is judged by (R109). -/
def Wind.usesOwn (w : Wind) : Bool := w.sensor == .ok && w.ownGust.isSome

/-- The crane is a lender (R109). -/
def State.lends (s : State) (o : Slot) : Bool :=
  s.supervised o && (s.link o).state == .live && (s.windOf o).usesOwn

/-- The effective values of a crane: gust, mean and source (R109). -/
def State.effectiveValues (s : State) (c : Slot) : Option Nat × Option Nat × WindSource :=
  let w := s.windOf c
  if w.usesOwn then (w.ownGust, w.ownMean, .own)
  else
    let lenders := slotSet fun o => o != c && s.lends o
    match greatest? (lenders.filterMap fun o => (s.windOf o).ownGust) with
    | none => (none, none, .unknown)
    | some g =>
      let lender := (lenders.find? fun o => (s.windOf o).ownGust == some g).getD c
      (some g, greatest? (lenders.filterMap fun o => (s.windOf o).ownMean), .borrowed lender)

/-- Recomputes the effective values of a crane (R105 step 3, R109). -/
def recomputeValues (c : Slot) (s : State) : State :=
  match s.effectiveValues c with
  | (g, m, src) => updWind c (fun w => { w with gust := g, mean := m, source := src }) s

/-! ## The storm record -/

/-- One zone joins the storm record as a STORM request (R85, R117). -/
def requestNewZone (c : Slot) (z : ZoneId) (s : State) : State :=
  if (s.storm c).zones.any fun cz => cz.zone == z then s
  else requestStorm c z (addStormZones c [z] .waiting s)

/-- The crane's storm record is built (R117). Zones kept with the conversion-pending mark lose it and stand GRANTED, with
their evictees judged as R91 says, whose step 4 marks ZONE(k). -/
def buildStorm (c : Slot) (s : State) : State :=
  let zones := stormZones s c
  let kept := zoneSet (s.pendingIn (.storm c))
  let s1 := forEach kept (fun z s => mark (.zone z) (evictFrom c z s)) (unmarkStorm c s)
  let s2 := if zones.isEmpty then s1 else stampStorm c s1
  let s3 :=
    if (s.crane c).state == .inService && ((s.link c).state == .live || (s.link c).state == .stale) then
      forEach zones (requestNewZone c) s2
    else addStormZones c zones .deferred s2
  mark (.wind c) (settleZones s [] s3)

/-- The storm exit completes (R119). -/
def completeExit (c : Slot) (s : State) : State :=
  mark (.wind c) (updWind c (fun w => { w with exitPending := false }) (releaseStorm c (withdrawStorm c s)))

/-- The last accepted pose reports the slew brake released. -/
def State.brakeReleased (s : State) (c : Slot) : Bool :=
  match (s.link c).lastPose with
  | some p => p.brakeReleased
  | none => false

/-- The storm exit begins: it waits for the brake while the release latch is set or the brake is reported released
(R119). -/
def beginExit (c : Slot) (s : State) : State :=
  if (s.engine c).latch || s.brakeReleased c then updWind c (fun w => { w with exitPending := true }) s
  else completeExit c s

/-- The effective state enters STORM: a pending exit is cancelled with the record kept as it stands, and otherwise the
record is built (R117, R119). -/
def enterStorm (c : Slot) (s : State) : State :=
  if (s.windOf c).exitPending then updWind c (fun w => { w with exitPending := false }) s else buildStorm c s

/-- Every zone of the crane's storm record is GRANTED with substate CLEAR (R74, R118). -/
def State.stormSecured (s : State) (c : Slot) : Bool :=
  (s.storm c).zones.all fun cz => cz.status == .granted && (s.zone cz.zone).evictees.isEmpty

/-- The storm phase of a crane (R118). An excluded or unconfigured crane has none (R124). -/
def State.stormPhase (s : State) (c : Slot) : StormPhase :=
  if !s.supervised c then .none
  else if (s.windOf c).exitPending then .exitPending
  else if s.effective c != .storm then .none
  else if (s.engine c).latch then .released
  else if s.stormSecured c then .claimed
  else .claiming

/-- The crane is storm-blocked: a STORM entry of it waits in a zone HELD by another crane's STORM claim (R90), one that the
claim keeps with the conversion-pending mark among them. -/
def State.stormBlocked (s : State) (c : Slot) : Bool :=
  (s.waitingZones (.storm c)).any fun z => match (s.zone z).holding with
    | .held h (.storm _) => h != c
    | _ => false

/-- The storm phase is judged and the storm-blocked mark brought up to date, each change marking its key (R90, R118). -/
def refreshStorm (c : Slot) (s : State) : State :=
  let s1 := updWind c (fun w => { w with phase := s.stormPhase c }) s
  markIf (s.stormBlocked c != (s.windOf c).blocked) (.crane c)
    (updWind c (fun w => { w with blocked := s.stormBlocked c }) s1)

/-! ## Own and effective state -/

/-- The own state takes a level, with the storm-after-hold timer started or cleared as it enters or leaves HOLD
(R111). -/
def Wind.withOwn (level : WindLevel) (now : Ms) (p : SiteProfile) (w : Wind) : Wind :=
  { w with
    own := level
    stormAfterHold :=
      if level != .hold then none
      else if w.own == .hold then w.stormAfterHold
      else if p.stormAfterHold = 0 then none
      else some now }

/-- The effective state of a crane is recomputed, and a change takes effect (R116). Steps 2 and 3 do nothing for a crane
that is not supervised. -/
def recomputeEffective (c : Slot) (s : State) : State :=
  let old := s.effective c
  let new := (s.windOf c).own.higher s.wind.declaration
  if new == old then s
  else
    let s1 := updWind c (fun w => { w with effective := new }) s
    if !s.supervised c then s1
    else
      let s2 := judgeChannelWind c s1
      let s3 :=
        if !s.operate then s2
        else if new == .storm then enterStorm c s2
        else if old == .storm then beginExit c s2
        else s2
      gateAndRun c s3

/-- The target level of a crane's effective values (R110). -/
def targetLevel (p : SiteProfile) (gust mean : Option Nat) : WindLevel :=
  match gust with
  | none => .hold
  | some g =>
    if p.stormGust ≤ g then .storm
    else if p.holdGust ≤ g || atOrAbove mean p.holdMean then .hold
    else if p.watchGust ≤ g then .watch
    else .calm

/-- The entry gust of a level (section 6.4); CALM has none. -/
def entryGust (p : SiteProfile) : WindLevel → Nat
  | .storm => p.stormGust
  | .hold => p.holdGust
  | .watch => p.watchGust
  | .calm => 0

/-- The resume time of a level, in minutes (section 6.4). -/
def resumeMinutes (p : SiteProfile) : WindLevel → Nat
  | .storm => p.stormResume
  | .hold => p.holdResume
  | .watch => p.watchResume
  | .calm => 0

/-- The present level of a crane is released (R112). -/
def State.released (s : State) (c : Slot) : Bool :=
  let w := s.windOf c
  let p := s.profile
  w.own != .calm && (s.link c).state == .live &&
    knownBelow w.gust ((entryGust p w.own : Int) - p.hysteresis) &&
    (w.own != .hold || w.mean.isNone || knownBelow w.mean ((p.holdMean : Int) - p.hysteresis))

/-- The own state rises to the target when the target stands above it, and the calm-down timer is stopped (R110). -/
def riseOwn (c : Slot) (s : State) : State :=
  let target := targetLevel s.profile (s.windOf c).gust (s.windOf c).mean
  if (s.windOf c).own.rank < target.rank then
    updWind c (fun w => { w.withOwn target s.now s.profile with calmDown := none }) s
  else s

/-- The calm-down timer starts, goes on or is cleared by the release of the present level (R112). -/
def judgeRelease (c : Slot) (s : State) : State :=
  updWind c (fun w =>
    { w with calmDown := if s.released c then some (w.calmDown.getD (w.own, s.now)) else none }) s

/-- Steps 4 and 5 of R105 and the gating that follows them (R110, R112, R116, R120, R131). -/
def evaluate (c : Slot) (s : State) : State :=
  judgeChannelWind c (recomputeEffective c (judgeRelease c (riseOwn c s)))

/-- A crane is evaluated on its own account: values, state, channel, gating (R106, R109). -/
def evaluateCrane (c : Slot) (s : State) : State := gateAndRun c (evaluate c (recomputeValues c s))

/-- The values of a crane are borrowed. -/
def WindSource.isBorrowed : WindSource → Bool
  | .borrowed _ => true
  | _ => false

/-- A crane that borrows, or would borrow now, is re-evaluated (R109). -/
def reevaluateBorrower (c : Slot) (s : State) : State :=
  if s.supervised c && ((s.windOf c).source.isBorrowed || (s.effectiveValues c).2.2.isBorrowed) then evaluateCrane c s
  else s

/-- Borrowers are re-evaluated in ascending slot order (R109); after a pose, those other than its crane (R105 step 7). -/
def reevaluateBorrowers (skip : Option Slot) (s : State) : State :=
  forEach (allSlots.filter fun c => skip != some c) reevaluateBorrower s

/-! ## A pose, a bucket close, a link's STALE -/

/-- A valid sample joins ring and current bucket (R105 step 1). -/
def Wind.withSample (v : Nat) (w : Wind) : Wind :=
  let ring := w.ring ++ [v]
  { w with
    ring := if 12 < ring.length then ring.drop 1 else ring
    buckets := match w.buckets with
      | [] => []
      | b :: bs => { sum := b.sum + v, count := b.count + 1 } :: bs }

/-- The sensor becomes FAILED: the ring is emptied and both streaks are 0 (R108). -/
def Wind.sensorFails (w : Wind) : Wind := { w with sensor := .failed, ring := [], missing := 0, recovering := 0 }

/-- The sensor state after a pose (R108). -/
def Wind.sensorAfter (valid fault : Bool) (w : Wind) : Wind :=
  match w.sensor with
  | .ok =>
    if fault then w.sensorFails
    else if valid then { w with missing := 0 }
    else if 40 ≤ w.missing + 1 then w.sensorFails
    else { w with missing := w.missing + 1 }
  | .failed =>
    if valid then
      if 4 ≤ w.recovering + 1 then { w with sensor := .ok, missing := 0, recovering := 0 }
      else { w with recovering := w.recovering + 1 }
    else { w with recovering := 0, ring := [] }

/-- A wind record after steps 1 and 2 of R105. -/
def Wind.takesPose (p : Pose) (w : Wind) : Wind :=
  let valid := p.windValid && !p.sensorFault
  (if valid then w.withSample p.windSample else w).sensorAfter valid p.sensorFault

/-- Step 6 of R105: a pending storm exit is completed by a pose with the slew brake not released (R119). -/
def examineBrake (c : Slot) (p : Pose) (s : State) : State :=
  if (s.windOf c).exitPending && !p.brakeReleased then completeExit c s else s

/-- The Wind Monitor takes an accepted pose (R105). -/
def windTakesPose (c : Slot) (p : Pose) (s : State) : State :=
  let s1 := recomputeValues c (updWind c (Wind.takesPose p) s)
  reevaluateBorrowers (some c) (examineBrake c p (gateAndRun c (evaluate c s1)))

/-- A wind record after a bucket close (R106). -/
def Wind.closeBucket (w : Wind) : Wind := { w with buckets := .empty :: w.buckets.take 9 }

/-- The bucket phase has stood for 60,000 ms (R106). -/
def State.bucketDue (s : State) : Bool := decide (s.wind.bucketPhase + Config.minuteMs ≤ s.now)

/-- The bucket close (R106): every configured crane's buckets shift, and every supervised crane is evaluated. -/
def closeBuckets (s : State) : State :=
  if s.bucketDue then
    let s1 := { s with wind := { s.wind with bucketPhase := s.wind.bucketPhase + Config.minuteMs } }
    let s2 := forEach (allSlots.filter s1.configured) (fun c => updWind c Wind.closeBucket) s1
    forEach (allSlots.filter s2.supervised) evaluateCrane s2
  else s

/-- The Wind Monitor when a crane's link enters STALE: calm-down and calm timers are cleared, borrowers re-evaluated
(R109, R112, R121). -/
def windStale (c : Slot) (s : State) : State :=
  reevaluateBorrowers none (updChannel c (fun ch => { ch with calmFrom := none })
    (updWind c (fun w => { w with calmDown := none }) s))

/-! ## Timers -/

/-- The calm-down timer has run for its level's resume time (R113, R114). -/
def State.calmDownDue (s : State) (c : Slot) : Bool :=
  match (s.windOf c).calmDown with
  | some (level, t) => decide (t + resumeMinutes s.profile level * Config.minuteMs ≤ s.now)
  | none => false

/-- The expiry of the calm-down timer: the own state falls by one level (R113). -/
def expireCalmDown (c : Slot) (s : State) : State :=
  if s.calmDownDue c then
    recomputeEffective c (updWind c (fun w =>
      let level := w.own.below
      { w.withOwn level s.now s.profile with calmDown := if level == .calm then none else some (level, s.now) }) s)
  else s

/-- The storm-after-hold timer has run its time (R111, R114). -/
def State.stormAfterHoldDue (s : State) (c : Slot) : Bool :=
  match (s.windOf c).stormAfterHold with
  | some t => decide (t + s.profile.stormAfterHold * Config.minuteMs ≤ s.now)
  | none => false

/-- The expiry of the storm-after-hold timer: the own state becomes STORM (R111). -/
def expireStormAfterHold (c : Slot) (s : State) : State :=
  if s.stormAfterHoldDue c then
    recomputeEffective c (updWind c (fun w => { w.withOwn .storm s.now s.profile with calmDown := none }) s)
  else s

/-- The wind timers when a profile replaces `old` (R114). -/
def profileTimers (old : SiteProfile) (s : State) : State :=
  let s1 := forEach allSlots (fun c => updWind c fun w =>
    { w with
      stormAfterHold :=
        if s.profile.stormAfterHold = 0 then none
        else if old.stormAfterHold = 0 && w.own == .hold then some s.now
        else w.stormAfterHold }) s
  forEach allSlots (fun c s => expireStormAfterHold c (expireCalmDown c s)) s1

/-! ## The declaration, removal and survey -/

/-- The effect of DECLARE_WIND (R115). A change marks WIND(c) for every configured crane (R123), before the first crane is
recomputed (DESIGN CHOICE, log 79). -/
def declare (level : WindLevel) (s : State) : State :=
  if level == s.wind.declaration then s
  else
    let s1 := { s with wind := { s.wind with declaration := level } }
    let s2 := forEach (allSlots.filter s.configured) (fun c => mark (.wind c)) s1
    forEach allSlots recomputeEffective s2

/-- A crane's wind record at its removal or at a change of its slot's configuration: cleared, its effective state
following the declaration (R116, R124). -/
def clearWind (c : Slot) (s : State) : State :=
  updWind c (fun _ => { Wind.cleared with effective := s.wind.declaration }) s

end Sys2Proof.Machine
end

