-- ==== Sys2Proof/Machine/CraneState.lean ====
section
/-! DEFINITION. Crane State at work: raising a fault cause (R166 to R170), condition met and the clearing of a fault (R171
to R173), and what it takes from a pose and from the stages of a computation. -/

namespace Sys2Proof.Machine

/-- The context a cause saves for a crane: the pose, the channel and the time as they stand (R167 step 1). -/
def State.newContext (s : State) (c : Slot) (cause : FaultCause) (cell : Option CellPos) : FaultContext where
  cause := cause
  raisedAt := s.now
  previous := (s.crane c).state
  pose := (s.link c).lastPose.map fun p => (p.siteBearing, p.radius, p.load)
  intrusionCell := cell
  channelState := (s.channel c).state
  channelBooking := (s.channel c).booking
  channelStep := if (s.channel c).booking.isSome then some (s.channel c).step else none
  eStopFlag := false
  linkLostFlag := false
  ended := none

/-- A context ended in a way at an uptime; one that has ended stays as it is. -/
def FaultContext.endIn (w : EndWay) (now : Ms) (x : FaultContext) : FaultContext :=
  if x.ended.isSome then x else { x with ended := some (w, now) }

/-- The e-stop field after a cause: every E_STOP makes it ENGAGED (R166). -/
def CraneStatus.engagedBy (cause : FaultCause) (x : CraneStatus) : CraneStatus :=
  { x with eStop := x.eStop || cause == .eStop }

/-- The crane takes its first fault, CRANE(c) being marked last (R167). -/
def firstFault (c : Slot) (cause : FaultCause) (cell : Option CellPos) (s : State) : State :=
  let joining := (s.crane c).state == .joining
  let s1 := modCrane c (fun x =>
    { x.engagedBy cause with
      faultContext := some (s.newContext c cause cell), state := .fault
      fault := some { cause := cause, unjoined := joining, conditionMet := false } }) s
  let s2 := addReason c (fun r => { r with fault := true }) s1
  mark (.crane c) (withdrawCrane c s2)

/-- A second, different serious cause makes the crane LOCKOUT. CRANE(c) is marked last, but for the recovery flag's own mark
(R78, R169). -/
def escalate (c : Slot) (cause : FaultCause) (cell : Option CellPos) (s : State) : State :=
  let s1 := modCrane c (fun x =>
    { x with
      lockoutContext := some (s.newContext c cause cell)
      faultContext := x.faultContext.map (·.endIn .escalated s.now)
      state := .lockout, fault := none }) s
  mark (.crane c) (withdrawCrane c (lockoutBookings c (setRecovery c false s1)))

/-- The flag a non-escalating cause sets in a context (R170). -/
def FaultContext.flagged (cause : FaultCause) (x : FaultContext) : FaultContext :=
  match cause with
  | .eStop => { x with eStopFlag := true }
  | .linkLost => { x with linkLostFlag := true }
  | .intrusion | .overload | .poseInvalid => x

/-- Condition met of the present fault is set or cleared. -/
def setCondition (c : Slot) (met : Bool) (s : State) : State :=
  updCrane c (fun x => { x with fault := x.fault.map fun f => { f with conditionMet := met } }) s

/-- The causes that escalate in FAULT (R169). -/
def serious : FaultCause → Bool
  | .intrusion | .overload | .poseInvalid => true
  | .linkLost | .eStop => false

/-- A cause reaches a crane in FAULT (R168 to R170, R172). -/
def raiseInFault (c : Slot) (f : ActiveFault) (cause : FaultCause) (cell : Option CellPos) (s : State) : State :=
  if cause == .intrusion && f.unjoined then s
  else if cause == f.cause then
    if cause == .overload || cause == .poseInvalid || cause == .eStop then setCondition c false s else s
  else if serious cause then escalate c cause cell s
  else updCrane c (fun x => { x with faultContext := x.faultContext.map (·.flagged cause) }) s

/-- A fault cause is raised for a crane (R164, R166). Every E_STOP engages the e-stop field, but for an OFFLINE crane. -/
def raise (c : Slot) (cause : FaultCause) (cell : Option CellPos) (s : State) : State :=
  match (s.crane c).state with
  | .offline => s
  | .lockout =>
    updCrane c (fun x => { x.engagedBy cause with lockoutContext := x.lockoutContext.map (·.flagged cause) }) s
  | .fault => match (s.crane c).fault with
    | some f => raiseInFault c f cause cell (if cause == .eStop then updCrane c (·.engagedBy cause) s else s)
    | none => firstFault c cause cell s
  | .joining | .inService => firstFault c cause cell s

/-! ## Clearing -/

/-- Where a clear is taken: by itself, at stage 2 of R29, or within a computation. -/
inductive ClearPlace where
  | outside | stage2 | computation
  deriving DecidableEq, Repr

/-- A fault clears, CRANE(c) being marked once the channel has resumed, but for the recovery flag's own mark (R78, R173); a
condition that becomes met before it marks CRANE(c) as such a change does (R178). Within a pose's event the gating of a
crane now IN_SERVICE runs once its computation has completed (R131, R165). -/
def clearTheFault (c : Slot) (way : EndWay) (place : ClearPlace) (s : State) : State :=
  let unjoined := match (s.crane c).fault with
    | some f => f.unjoined
    | none => false
  let joining := !s.operate || unjoined
  let s1 := modCrane c (fun x =>
    { x with
      faultContext := x.faultContext.map (·.endIn way s.now)
      state := if joining then .joining else .inService
      fault := none }) s
  let s2 := mark (.crane c) (removeReason c (fun r => { r with fault := false }) (setRecovery c false s1))
  if joining then if s.operate && place != .computation then placeLinkMade c s2 else s2
  else if place == .outside then gateAndRun c s2 else s2

/-- No flag stands in the fault context (R171). -/
def State.flagStands (s : State) (c : Slot) : Bool :=
  match (s.crane c).faultContext with
  | some x => x.eStopFlag || x.linkLostFlag
  | none => false

/-- The latest recovery check found every present cell permitted (R175). -/
def CraneStatus.checkClear (x : CraneStatus) : Bool := x.check == some .clear

/-- A fault whose condition is met clears automatically when no flag stands and its cause is in the auto-clear set, or is
INTRUSION by the recovery path, on the latest check (R171, R172, R175). In SURVEY there is no check, so an INTRUSION stays
until the exit (R177). -/
def judgeAutoClear (c : Slot) (place : ClearPlace) (s : State) : State :=
  match (s.crane c).fault with
  | some f =>
    if f.conditionMet && !s.flagStands c then
      if f.cause == .intrusion then if (s.crane c).checkClear then clearTheFault c .recovery place s else s
      else if s.profile.autoClear.contains f.cause then clearTheFault c .auto place s
      else s
    else s
  | none => s

/-- The active cause of a crane in FAULT. -/
def State.activeCause? (s : State) (c : Slot) : Option FaultCause := (s.crane c).fault.map (·.cause)

/-- The active cause's clear condition comes to hold, and an automatic clear is judged (R172). -/
def conditionHolds (c : Slot) (cause : FaultCause) (place : ClearPlace) (s : State) : State :=
  if s.activeCause? c == some cause then judgeAutoClear c place (setCondition c true s) else s

/-- The clear condition of an active cause ceases to hold (R172). -/
def conditionCeases (c : Slot) (cause : FaultCause) (s : State) : State :=
  if s.activeCause? c == some cause then setCondition c false s else s

/-! ## From the Cab Link -/

/-- The link has become LIVE: the link-lost flags are cleared (R170). -/
def linkReturns (c : Slot) (s : State) : State :=
  updCrane c (fun x =>
    { x with
      faultContext := x.faultContext.map fun k => { k with linkLostFlag := false }
      lockoutContext := x.lockoutContext.map fun k => { k with linkLostFlag := false } }) s

/-- The e-stop field becomes RELEASED, and the e-stop flags are cleared (R166, R170). -/
def releaseEStop (c : Slot) (s : State) : State :=
  updCrane c (fun x =>
    { x with
      eStop := false
      faultContext := x.faultContext.map fun k => { k with eStopFlag := false }
      lockoutContext := x.lockoutContext.map fun k => { k with eStopFlag := false } }) s

/-- Stage 2 of R29: Crane State takes the pose's emergency-stop flag and its acceptance, and then judges any clear: of a
condition that the pose makes met, or because the last flag has cleared, `flagged` telling that one stood before the pose
was accepted (R166, R171, R172). -/
def craneTakesPose (c : Slot) (p : Pose) (flagged : Bool) (s : State) : State :=
  let s1 := if p.emergencyStop then raise c .eStop none s else releaseEStop c s
  let met := match s1.activeCause? c with
    | some .poseInvalid => true
    | some .eStop => !(s1.crane c).eStop
    | _ => false
  if met then judgeAutoClear c .stage2 (setCondition c true s1)
  else if flagged then judgeAutoClear c .stage2 s1
  else s1

/-! ## From the Envelope Engine -/

/-- Stage 5: the intrusion judgement of a computation, and the recovery check made while the recovery flag is set (R165,
R167, R172). -/
def judgePresent (c : Slot) (join : Bool) (intrusion : Option CellPos) (check : Option RecoveryCheck) (s : State) :
    State :=
  let s1 := match check with
    | some k => updCrane c (fun x => { x with check := some k }) s
    | none => s
  match intrusion with
  | some cell =>
    let s2 := raise c .intrusion (some cell) s1
    match (s2.crane c).fault with
    | some f => if f.unjoined && !join then conditionHolds c .linkLost .computation s2 else s2
    | none => s2
  | none =>
    if join then updCrane c (fun x => { x with state := .inService }) s1
    else
      let s2 := conditionHolds c .linkLost .computation s1
      match check with
      | some .clear => conditionHolds c .intrusion .computation s2
      | some (.cell _) => conditionCeases c .intrusion s2
      | none => s2

/-- Stage 7: the chart is satisfied or OVERLOAD is raised (R71, R172). -/
def judgeChart (c : Slot) (overload : Bool) (s : State) : State :=
  if overload then raise c .overload none s else conditionHolds c .overload .computation s

/-! ## States taken on requests and starts -/

/-- The open context of a crane in FAULT or LOCKOUT ends in a way, its flags cleared (R170, R177). R177 clears those of a
lockout context at survey exit; at a removal R170 names a fault context's alone, and the model clears the lockout context's
link-lost flag too (DESIGN CHOICE, log 64). -/
def CraneStatus.closeContext (w : EndWay) (now : Ms) (x : CraneStatus) : CraneStatus :=
  let close (k : FaultContext) : FaultContext := { k.endIn w now with eStopFlag := false, linkLostFlag := false }
  match x.state with
  | .fault => { x with faultContext := x.faultContext.map close }
  | .lockout => { x with lockoutContext := x.lockoutContext.map close }
  | .offline | .joining | .inService => x

end Sys2Proof.Machine
end

