-- ==== Sys2Proof/Machine/Engine.lean ====
section
/-! DEFINITION. The Envelope Engine: the nine stages of a computation (chapter 4). Stages 1 to 3, 6 and 7 are pure
functions of the pose, the record, the tables and cell permission; `compute` runs the stages over the state. -/

namespace Sys2Proof.Machine

/-! ## Stages 1 to 3: travels, spans, structure reach -/

/-- The part of a signed rate that runs in the positive direction (R53, R56). -/
def forwardPart (rate : Int) : Nat := rate.toNat

/-- The part of a signed rate that runs in the negative direction (R53, R56). -/
def backwardPart (rate : Int) : Nat := (-rate).toNat

/-- A slew travel is unbounded at this value (R54). -/
def unboundedTravel : Nat := 32768

/-- The slew travel of a direction: reaction, braking, drift and margin, saturated (R53, R54). -/
def slewTravel (r : CraneRecord) (gust rate : Nat) : Nat :=
  min unboundedTravel
    (ceilDiv (rate * r.reactionTime) 1000 + ceilDiv (rate * rate) (2 * r.slewDecel) +
      ceilDiv (gust * r.driftCoeff) 10 + r.slewMargin)

/-- The radial travel of a direction: reaction, braking and margin (R56). -/
def radialTravel (r : CraneRecord) (speed : Nat) : Nat :=
  ceilDiv (speed * r.reactionTime) 1000 + ceilDiv (speed * speed) (2 * r.radialDecel) + r.radiusMargin

/-- The sectors of the angular span, as a count from the sector of the counter-clockwise stopping bearing (R57). -/
def spanSectors (ccwStop ccwTravel cwTravel : Nat) : Nat :=
  min 128 ((ccwStop % 512 + ccwTravel + cwTravel) / 512 + 1)

/-- The tip overhang, an absent one counting as 0 (R58). -/
def CraneRecord.overhang (r : CraneRecord) : Nat := r.tipOverhang.getD 0

/-- The structure reach (R58). -/
def structureReach (r : CraneRecord) (outRadius : Nat) : Nat :=
  match r.kind with
  | .flat => r.jibLength
  | .luffing => min (outRadius + r.overhang) r.jibLength

/-- The structure bands: band 0 and every band whose inner edge lies below the reach (R58). -/
def structureBands (r : CraneRecord) (reach : Nat) : List Band :=
  allBands.filter fun b => b == 0 || decide (r.edge b.val < reach)

/-- The last of a list of bands. -/
def lastBand (l : List Band) : Band := l.getLastD 0

/-- The band of an edge with the tip overhang added, capped at the jib length (R58, R69). -/
def tipBandAt (r : CraneRecord) (edge : Nat) : Band := r.band (min (edge + r.overhang) r.jibLength)

/-- The tip band of a LUFFING crane; a FLAT crane has none (R58). -/
def tipBand? (r : CraneRecord) (outRadius : Nat) : Option Band :=
  match r.kind with
  | .flat => none
  | .luffing => some (tipBandAt r (r.edge ((r.band outRadius).val + 1)))

/-- What stages 1 to 3 find (R53 to R58). -/
structure Envelope where
  gust : Nat
  cwTravel : Nat
  ccwTravel : Nat
  cwStop : Nat
  ccwStop : Nat
  outTravel : Nat
  inTravel : Nat
  outRadius : Nat
  inRadius : Nat
  spanFirst : Sector
  spanCount : Nat
  bandFirst : Band
  bandLast : Band
  reach : Nat
  bands : List Band
  tip : Option Band
  deriving DecidableEq, Repr

/-- Stages 1 to 3 of a computation, for the gust it uses (R53 to R58). -/
def envelope (r : CraneRecord) (gust : Nat) (p : Pose) : Envelope :=
  let cw := slewTravel r gust (forwardPart p.slewRate)
  let ccw := slewTravel r gust (backwardPart p.slewRate)
  let ccwStop := bearingSub p.siteBearing ccw
  let out := radialTravel r (forwardPart p.radialSpeed)
  let inw := radialTravel r (backwardPart p.radialSpeed)
  let outRadius := min (p.radius + out) r.jibLength
  let inRadius := max (p.radius - inw) r.minRadius
  let reach := structureReach r outRadius
  { gust := gust, cwTravel := cw, ccwTravel := ccw
    cwStop := bearingAdd p.siteBearing cw, ccwStop := ccwStop
    outTravel := out, inTravel := inw, outRadius := outRadius, inRadius := inRadius
    spanFirst := sectorOf ccwStop, spanCount := spanSectors ccwStop ccw cw
    bandFirst := r.band inRadius, bandLast := r.band outRadius
    reach := reach, bands := structureBands r reach, tip := tipBand? r outRadius }

/-- The sectors of the angular span (R57). -/
def Envelope.span (e : Envelope) : List Sector := sectorRun e.spanFirst e.spanCount

/-- The bands of the radial span (R58). -/
def Envelope.radial (e : Envelope) : List Band :=
  allBands.filter fun b => decide (e.bandFirst ≤ b) && decide (b ≤ e.bandLast)

/-! ## Stage 4: cell permission -/

/-- What cell permission depends on: the zones held or in the evict set, the recovery flag, whether release is in force,
and whether the load is below the empty-load threshold (R59, R60). -/
structure Permits where
  zones : List ZoneId
  recovery : Bool
  release : Bool
  unloaded : Bool
  deriving DecidableEq, Repr

/-- A cell of a table is permitted (R59). -/
def Permits.allows (m : Permits) (t : CellTable) : Cell → Bool
  | .free => true
  | .slow => true
  | .shared z => m.recovery || m.zones.contains z
  | .forbidden => m.recovery || (m.release && t != .hook)
  | .forbiddenLoaded => m.recovery || m.unloaded

/-- The cells of a list that are not permitted, in its order. -/
def blockers (sl : CraneSlot) (m : Permits) (cells : List CellPos) : List CellPos :=
  cells.filter fun p => !m.allows p.table (sl.cell p)

/-- The zones of the SHARED cells of a list, as a set. -/
def zonesAmong (sl : CraneSlot) (cells : List CellPos) : List ZoneId :=
  let found := cells.filterMap fun p => match sl.cell p with
    | .shared z => some z
    | _ => none
  zoneSet fun z => found.contains z

/-! ## Stage 5: present cells -/

/-- A hook or jib cell. -/
def jibAt (s : Sector) (b : Band) : CellPos := ⟨.jib, s, b⟩
def hookAt (s : Sector) (b : Band) : CellPos := ⟨.hook, s, b⟩
/-- The tail cell opposite a sector (R4, R61). -/
def tailAt (s : Sector) : CellPos := ⟨.tail, opposite s, 0⟩

/-- The present cells of a crane, in the order of R62: jib cells from band 0 outward, tail cell, hook cell (R61). -/
def presentCells (r : CraneRecord) (e : Envelope) (p : Pose) : List CellPos :=
  let s := sectorOf p.siteBearing
  e.bands.map (jibAt s) ++ [tailAt s, hookAt s (r.band p.radius)]

/-- The cells the slew walk examines in a sector (R65). -/
def sectorCells (e : Envelope) (s : Sector) : List CellPos :=
  e.bands.map (jibAt s) ++ (e.tip.toList.map (jibAt s)) ++ [tailAt s] ++ e.radial.map (hookAt s)

/-- The reach set: zones of SHARED cells among those the slew walk would examine over the angular span (R61). -/
def reachSet (sl : CraneSlot) (e : Envelope) : List ZoneId := zonesAmong sl (e.span.flatMap (sectorCells e))

/-! ## Stages 6 and 7: walks and decisions -/

/-- Where a walk ended: its boundary and distance, the cells that block there, and whether the load chart blocks too. -/
structure Ending where
  walk : Walk
  cells : List Cell
  chart : Bool
  deriving DecidableEq, Repr

/-- The first sector of a list that is impassable, with its blocking cells (R65). -/
def firstImpassable (sl : CraneSlot) (m : Permits) (e : Envelope) : List Sector → Option (Sector × List Cell)
  | [] => none
  | s :: rest =>
    match blockers sl m (sectorCells e s) with
    | [] => firstImpassable sl m e rest
    | ps => some (s, ps.map sl.cell)

/-- The sectors the clockwise walk examines, in order (R66). -/
def cwOrder (s : Sector) : List Sector := (List.range 127).map fun i => s + Fin.ofNat 128 (i + 1)

/-- The sectors the counter-clockwise walk examines, in order (R67). -/
def ccwOrder (s : Sector) : List Sector := (List.range 127).map fun i => s - Fin.ofNat 128 (i + 1)

/-- The clockwise walk (R66). -/
def cwWalk (sl : CraneSlot) (m : Permits) (e : Envelope) (bearing : Nat) : Option Ending :=
  (firstImpassable sl m e (cwOrder (sectorOf bearing))).map fun x =>
    let b := x.1.val * 512
    { walk := ⟨b, bearingSub b bearing⟩, cells := x.2, chart := false }

/-- The counter-clockwise walk (R67). -/
def ccwWalk (sl : CraneSlot) (m : Permits) (e : Envelope) (bearing : Nat) : Option Ending :=
  (firstImpassable sl m e (ccwOrder (sectorOf bearing))).map fun x =>
    let b := ((x.1.val + 1) * 512) % 65536
    { walk := ⟨b, bearingSub bearing b⟩, cells := x.2, chart := false }

/-- The clockwise limit bearing: the last before the boundary (R66). -/
def cwLimit (w : Option Ending) : Option Nat := w.map fun x => bearingSub x.walk.boundary 1

/-- The counter-clockwise limit bearing: the boundary itself (R67). -/
def ccwLimit (w : Option Ending) : Option Nat := w.map fun x => x.walk.boundary

/-- A hook cell of the angular span and the radial span is SLOW (R68, R70). -/
def slowInSpan (sl : CraneSlot) (e : Envelope) : Bool :=
  e.span.any fun s => e.radial.any fun b => gridCell sl.hook s b == .slow

/-- The distance of a walk is at or below a bound. -/
def within (w : Option Ending) (bound : Nat) : Bool :=
  match w with
  | some x => decide (x.walk.distance ≤ bound)
  | none => false

/-- The decision of a slew direction (R68). -/
def slewDecision (r : CraneRecord) (slow : Bool) (travel : Nat) (w : Option Ending) : Decision :=
  if travel == unboundedTravel && w.isSome then .stop
  else if within w travel then .stop
  else if within w (travel + r.slowBand) || slow then .slow
  else .clear

/-- The decision of a radial direction; `overloaded` for the outward one when the chart check fails (R70). -/
def radialDecision (r : CraneRecord) (slow overloaded : Bool) (travel : Nat) (w : Option Ending) : Decision :=
  if overloaded || within w travel then .stop
  else if within w (travel + r.radialSlowBand) || slow then .slow
  else .clear

/-- The blocking cells of a band outward (R69). -/
def outwardCells (r : CraneRecord) (e : Envelope) (b : Band) : List CellPos :=
  e.span.flatMap fun s =>
    hookAt s b :: (match r.kind with
      | .flat => []
      | .luffing => [jibAt s (tipBandAt r (r.edge b.val))])

/-- The cells of a band inward (R69). -/
def inwardCells (e : Envelope) (b : Band) : List CellPos := e.span.map fun s => hookAt s b

/-- The outward walk over a list of bands (R69). -/
def outwardWalk (r : CraneRecord) (sl : CraneSlot) (m : Permits) (e : Envelope) (p : Pose) : List Band → Option Ending
  | [] => none
  | b :: rest =>
    let bad := blockers sl m (outwardCells r e b)
    let above := decide (sl.capacity b < p.load)
    if bad.isEmpty && !above then outwardWalk r sl m e p rest
    else some { walk := ⟨r.edge b.val, r.edge b.val - p.radius⟩, cells := bad.map sl.cell, chart := above }

/-- The inward walk over a list of bands (R69). -/
def inwardWalk (r : CraneRecord) (sl : CraneSlot) (m : Permits) (e : Envelope) (p : Pose) : List Band → Option Ending
  | [] => none
  | b :: rest =>
    match blockers sl m (inwardCells e b) with
    | [] => inwardWalk r sl m e p rest
    | bad => some
      { walk := ⟨r.edge (b.val + 1), p.radius - r.edge (b.val + 1)⟩, cells := bad.map sl.cell, chart := false }

/-- The bands the outward walk examines, in order (R69). -/
def bandsOutward (b : Band) : List Band := allBands.filter fun k => decide (b < k)

/-- The bands the inward walk examines, in order (R69). -/
def bandsInward (b : Band) : List Band := (allBands.filter fun k => decide (k < b)).reverse

/-- The outward radius limit (R69). -/
def outwardLimit (r : CraneRecord) (w : Option Ending) : Nat :=
  match w with
  | some x => x.walk.boundary - 1
  | none => r.jibLength

/-- The inward radius limit (R69). -/
def inwardLimit (r : CraneRecord) (w : Option Ending) : Nat :=
  match w with
  | some x => x.walk.boundary
  | none => r.minRadius

/-- What stages 6 and 7 find. -/
structure Walks where
  cw : Option Ending
  ccw : Option Ending
  out : Option Ending
  inw : Option Ending
  cwDecision : Decision
  ccwDecision : Decision
  outDecision : Decision
  inDecision : Decision
  overload : Bool
  deriving DecidableEq, Repr

/-- Stages 6 and 7: walks, decisions and chart check (R65 to R71). -/
def walks (r : CraneRecord) (sl : CraneSlot) (m : Permits) (e : Envelope) (p : Pose) : Walks :=
  let slow := slowInSpan sl e
  let cw := cwWalk sl m e p.siteBearing
  let ccw := ccwWalk sl m e p.siteBearing
  let out := outwardWalk r sl m e p (bandsOutward (r.band p.radius))
  let inw := inwardWalk r sl m e p (bandsInward (r.band p.radius))
  let above := decide (sl.capacity (r.band p.radius) < p.load)
  { cw := cw, ccw := ccw, out := out, inw := inw
    cwDecision := slewDecision r slow e.cwTravel cw
    ccwDecision := slewDecision r slow e.ccwTravel ccw
    outDecision := radialDecision r slow above e.outTravel out
    inDecision := radialDecision r slow false e.inTravel inw
    overload := above }

/-! ## Stage 8: transit assertions -/

/-- The one zone whose SHARED cells alone block a walk's end, if there is one (R72). -/
def soleZone? (w : Ending) : Option ZoneId :=
  match w.chart, w.cells with
  | false, .shared z :: rest => if rest.all (· == .shared z) then some z else none
  | _, _ => none

/-- The assertion of one walk whose distance must be within a bound (R72). -/
def assertion (bound : Nat) (w : Option Ending) : Option ZoneId :=
  match w with
  | some x => if x.walk.distance ≤ bound then soleZone? x else none
  | none => none

/-- The transit assertions of the four walks, as a set (R72, R73). -/
def assertions (r : CraneRecord) (e : Envelope) (w : Walks) : List ZoneId :=
  let found := [assertion (e.cwTravel + r.lookAhead) w.cw, assertion (e.ccwTravel + r.lookAhead) w.ccw,
    assertion (e.outTravel + r.radialSlowBand) w.out, assertion (e.inTravel + r.radialSlowBand) w.inw]
  zoneSet fun z => found.contains (some z)

/-! ## Stage 9: mode and frame -/

/-- The hook is parked (R74). -/
def hookParked (f : SiteProfile) (p : Pose) : Bool := decide (f.parkHeight ≤ p.hookHeight) && decide (p.radius ≤ f.parkRadius)

/-- The crane is storm-ready (R74). `secured` says that every zone of its storm record is GRANTED with substate CLEAR. -/
def State.stormReady (s : State) (c : Slot) (secured : Bool) (p : Pose) : Bool :=
  secured && hookParked s.profile p && decide (p.load < s.profile.emptyLoad) &&
    (s.crane c).state == .inService

/-- The mode of a computed frame (R74), with `secured` as `stormReady` takes it. -/
def State.frameMode (s : State) (c : Slot) (secured : Bool) (evict : List ZoneId) (p : Pose) : FrameMode :=
  let storm := s.effective c == .storm
  if (s.engine c).latch && storm then .stormRelease
  else match (s.crane c).state with
    | .lockout => .lockout
    | .fault => .fault
    | .joining => .holdPosition
    | .inService | .offline =>
      if !evict.isEmpty then .evict
      else if storm && s.stormReady c secured p then .stormRelease
      else if storm then .storm
      else .normal

/-- The speed cap of a decision (R68, R70). -/
def decisionCap (f : SiteProfile) : Decision → Nat
  | .stop => 0
  | .slow => f.slowCap
  | .clear => 100

/-- The caps of a mode over the cap of a decision (R75). -/
def modeCap (f : SiteProfile) (recovery : Bool) (mode : FrameMode) (d : Decision) : Nat :=
  match mode with
  | .normal | .storm => decisionCap f d
  | .evict => min (decisionCap f d) f.creepCap
  | .fault | .lockout => if recovery then min (decisionCap f d) f.creepCap else 0
  | .stormRelease | .holdPosition | .survey => 0

/-- The hoist mode of a frame (R75). -/
def hoistOf (f : SiteProfile) (effective : WindLevel) (load : Nat) : FrameMode → HoistMode
  | .normal => if effective == .hold && decide (f.emptyLoad ≤ load) then .lowerOnly else .free
  | .storm | .stormRelease => .park
  | .evict | .fault | .lockout | .holdPosition | .survey => .lowerOnly

/-- The limit frame of a mode (R75). -/
def buildFrame (f : SiteProfile) (r : CraneRecord) (effective : WindLevel) (recovery : Bool) (mode : FrameMode) (w : Walks)
    (p : Pose) : LimitFrame :=
  let bearings := match mode with
    | .stormRelease | .holdPosition | .survey => false
    | _ => true
  let radii := mode != .holdPosition && mode != .survey
  { mode := mode
    cwLimit := if bearings then cwLimit w.cw else none
    ccwLimit := if bearings then ccwLimit w.ccw else none
    cwCap := modeCap f recovery mode w.cwDecision
    ccwCap := modeCap f recovery mode w.ccwDecision
    outLimit := if radii then outwardLimit r w.out else r.jibLength
    inLimit := if radii then inwardLimit r w.inw else r.minRadius
    outCap := modeCap f recovery mode w.outDecision
    inCap := modeCap f recovery mode w.inDecision
    hoist := hoistOf f effective p.load mode
    brakeRelease := mode == .stormRelease }

/-! ## The computation -/

/-- The release latch at the start of a computation (R60). -/
def latchAfter (storm released latch : Bool) : Bool := storm && (released || latch)

/-- Release is in force: the effective state is STORM and the latch is set or the previous computed frame was
STORM_RELEASE (R60). -/
def State.releaseInForce (s : State) (c : Slot) : Bool :=
  s.effective c == .storm && ((s.engine c).latch || match (s.engine c).record with
    | some k => k.frame.mode == .stormRelease
    | none => false)

/-- Cell permission of a crane with given holdings and recovery flag (R59). -/
def State.permits (s : State) (c : Slot) (recovery : Bool) (p : Pose) : Permits where
  zones := unionZones (s.heldZones c) (s.engine c).evict
  recovery := recovery
  release := s.releaseInForce c
  unloaded := decide (p.load < s.profile.emptyLoad)

/-- The computation record of R52. -/
def makeRecord (p : Pose) (e : Envelope) (w : Walks) (occupancy transit : List ZoneId) (intrusion : Option CellPos)
    (frame : LimitFrame) : Computation where
  sequence := p.sequence
  poseAt := p.acceptedAt
  gustUsed := e.gust
  cwTravel := e.cwTravel
  ccwTravel := e.ccwTravel
  cwStop := e.cwStop
  ccwStop := e.ccwStop
  outTravel := e.outTravel
  inTravel := e.inTravel
  outRadius := e.outRadius
  inRadius := e.inRadius
  spanFirst := e.spanFirst
  spanCount := e.spanCount
  bandFirst := e.bandFirst
  bandLast := e.bandLast
  structureReach := e.reach
  structureBand := lastBand e.bands
  occupancy := occupancy
  intrusion := intrusion
  overload := w.overload
  cwWalk := w.cw.map (·.walk)
  ccwWalk := w.ccw.map (·.walk)
  outWalk := w.out.map (·.walk)
  inWalk := w.inw.map (·.walk)
  cwDecision := w.cwDecision
  ccwDecision := w.ccwDecision
  outDecision := w.outDecision
  inDecision := w.inDecision
  transit := transit
  frame := frame

/-- Stage 9 after the frame is built: the frame is placed, the record replaced, and CRANE(c) marked when the mode, the
occupancy set, the evict set, the latch or the recovery flag differ from those of the previous computation (R76). With no
previous computation the mode counts as changed (DESIGN CHOICE, log 49). -/
def concludeComputation (c : Slot) (before : Engine) (k : Computation) (s : State) : State :=
  let now := s.engine c
  let changed :=
    (before.record.map (·.frame.mode) != some k.frame.mode) || before.occupancy != k.occupancy ||
    before.evictThen != now.evict || before.latchThen != now.latch || before.recoveryThen != now.recovery
  let s1 := placeFrame c true k.frame s
  markIf changed (.crane c) (updEngine c (fun e =>
    { e with
      record := some k, evictThen := e.evict, latchThen := e.latch, recoveryThen := e.recovery }) s1)

/-- A computation of crane c for an accepted pose, stage by stage. The storm record is taken as it stands when the
computation begins (R51). -/
def compute (c : Slot) (r : CraneRecord) (p : Pose) (s : State) : State :=
  let before := s.engine c
  let sl := s.slotOf c
  let storm := s.effective c == .storm
  let s0 := updEngine c (fun e => { e with latch := latchAfter storm p.brakeReleased e.latch }) s
  let e := envelope r ((s.windOf c).gust.getD s.profile.holdGust) p
  -- stage 5
  let cells := presentCells r e p
  let occupancy := zonesAmong sl cells
  let join := (s0.crane c).state == .joining
  let s1 := handOver c join occupancy (reachSet sl e) s0
  let recovery := (s1.engine c).recovery
  let m := s1.permits c recovery p
  let evict := (s1.engine c).evict
  let intrusion := (blockers sl m cells).head?
  let check := if recovery then
      some (match (blockers sl { m with recovery := false } cells).head? with
        | some x => RecoveryCheck.cell x
        | none => .clear)
    else none
  let s2 := judgePresent c join intrusion check s1
  -- stages 6 and 7
  let w := walks r sl { m with recovery := (s2.engine c).recovery } e p
  let s3 := judgeChart c w.overload s2
  -- stage 8
  let asserts := (s3.crane c).state == .inService && (s3.link c).state == .live && !storm
  let transit := if asserts then assertions r e w else []
  let s4 := transitHandOver c transit s3
  -- stage 9
  let frame := buildFrame s.profile r (s.effective c) (s4.engine c).recovery (s4.frameMode c (s.stormSecured c) evict p) w p
  concludeComputation c before (makeRecord p e w occupancy transit intrusion frame) s4

end Sys2Proof.Machine
end

