-- ==== Sys2Proof/Machine/Cab.lean ====
section
/-! DEFINITION. The inbound side of a Cab Link: the sequence window (R25), the validity test (R26, R27), acceptance and the
handing on of a pose (R28, R29), operator messages (R30, R31), bad frames (R24), and the links' STALE and LOST events
(R22). -/

namespace Sys2Proof.Machine

/-! ## The tests of a pose -/

/-- The link takes what arrives on its line: it is not UNUSED and its crane is not excluded (R21). -/
def State.hears (s : State) (c : Slot) : Bool := (s.link c).state != .unused && !(s.slotOf c).excluded

/-- The sequence window: d in 1..127 while LIVE or STALE, and any sequence while WAITING or LOST (R25). -/
def Link.inWindow (l : Link) (sequence : Nat) : Bool :=
  match l.state, l.lastPose with
  | .live, some p | .stale, some p => inRange 1 127 ((sequence + (256 - p.sequence % 256)) % 256)
  | _, _ => true

/-- A signed rate against its maximum: as reported, clamped up to 5/4 of the maximum keeping its sign, or invalid
(R26). -/
def judgeRate (maximum : Nat) (v : Int) : Option Int :=
  if v.natAbs ≤ maximum then some v
  else if 4 * v.natAbs ≤ 5 * maximum then some (if v < 0 then -(maximum : Int) else maximum)
  else none

/-- A radius against minimum radius and jib length: as reported, clamped within 1,000 mm of either end, or invalid
(R26). In SURVEY a record may hold a minimum radius above its jib length. The end at the minimum radius is judged first,
and a radius below it is not held against the jib length (DESIGN CHOICE, log 47). -/
def judgeRadius (least greatest r : Nat) : Option Nat :=
  if r < least then if least ≤ r + 1000 then some least else none
  else if greatest < r then if r ≤ greatest + 1000 then some greatest else none
  else some r

/-- A quantity with an upper end alone (R26). -/
def judgeUpTo (greatest v : Nat) : Option Nat := if v ≤ greatest then some v else none

/-- The outcome of the validity test: a pose record, or the first invalid quantity (R26). -/
inductive Judged where
  | valid (p : Pose)
  | invalid (q : Quantity)
  deriving DecidableEq, Repr

/-- The pose record of a frame whose quantities are valid, with its clamped values (R28). -/
def poseRecord (r : CraneRecord) (now : Ms) (f : PoseFrame) (slew radial : Int) (radius height load : Nat) : Pose where
  sequence := f.sequence.toNat
  cabBearing := f.cabBearing.toNat
  siteBearing := bearingAdd f.cabBearing.toNat r.bearingOffset
  slewRate := slew
  radius := radius
  radialSpeed := radial
  hookHeight := height
  load := load
  windSample := min f.windSample.toNat 600
  windValid := f.flags.getLsbD 4
  emergencyStop := f.flags.getLsbD 0
  brakeReleased := f.flags.getLsbD 1
  operatorPresent := f.flags.getLsbD 2
  sensorFault := f.flags.getLsbD 3
  acceptedAt := now

/-- The validity test of a pose against the crane record, in the order of R26's table. -/
def judgePose (r : CraneRecord) (now : Ms) (f : PoseFrame) : Judged :=
  match judgeRate r.maxSlewRate f.slewRate.toInt with
  | none => .invalid .slewRate
  | some slew =>
    match judgeRate r.maxRadialSpeed f.radialSpeed.toInt with
    | none => .invalid .radialSpeed
    | some radial =>
      match judgeRadius r.minRadius r.jibLength f.radius.toNat with
      | none => .invalid .radius
      | some radius =>
        match judgeUpTo 250000 f.hookHeight.toNat with
        | none => .invalid .hookHeight
        | some height =>
          match judgeUpTo 65000 f.load.toNat with
          | none => .invalid .load
          | some load => .valid (poseRecord r now f slew radial radius height load)

/-- An invalid pose: the streak rises, and at 2 POSE_INVALID is raised (R27). -/
def takeInvalid (c : Slot) (q : Quantity) (s : State) : State :=
  let streak := min 255 ((s.link c).invalidStreak + 1)
  let s1 := updLink c (fun l => { l with invalidStreak := streak, lastInvalid := some q }) s
  if streak == 2 && (s.link c).invalidStreak == 1 then raise c .poseInvalid none s1 else s1

/-! ## Handing a pose on -/

/-- A link after acceptance (R23, R28). -/
def Link.accepts (p : Pose) (l : Link) : Link := { l with state := .live, lastPose := some p, invalidStreak := 0 }

/-- Stage 3 of R29: in OPERATE the engine computes and the channel is offered the computation; in SURVEY the link places
its SURVEY frame (R33, R50, R149, R151). -/
def poseStage3 (c : Slot) (r : CraneRecord) (p : Pose) (s : State) : State :=
  if s.operate then
    if (s.crane c).state == .offline then s
    else judgeAwait c p s (retryAlreadyWaiting c (compute c r p s))
  else placeLinkMade c s

/-- An accepted pose is handed on: Wind Monitor, Crane State, Envelope Engine (R29). Gating for a crane made IN_SERVICE
follows its computation (R165). `flagged`: a flag stood in the fault context before the acceptance. -/
def handOn3 (c : Slot) (r : CraneRecord) (p : Pose) (flagged : Bool) (s : State) : State :=
  let s1 := poseStage3 c r p (craneTakesPose c p flagged (windTakesPose c p s))
  if (s1.crane c).state == .inService && (s.crane c).state != .inService then gateAndRun c s1 else s1

/-- A pose is accepted: the link is LIVE with it, and it is handed on (R23, R28, R29). -/
def acceptPose (c : Slot) (r : CraneRecord) (p : Pose) (s : State) : State :=
  let s1 := updLink c (Link.accepts p) s
  handOn3 c r p (s.flagStands c) (if (s.link c).state == .live then s1 else linkReturns c s1)

/-- A pose report that has passed the frame check (R25 to R29). -/
def takePose (c : Slot) (f : PoseFrame) (s : State) : State :=
  if !s.hears c then s
  else match s.record? c with
    | none => s
    | some r =>
      if !(s.link c).inWindow f.sequence.toNat then s
      else match judgePose r s.now f with
        | .invalid q => takeInvalid c q s
        | .valid p => acceptPose c r p s

/-! ## Messages and bad frames -/

/-- An ESTOP message (R30). -/
def takeEStop (c : Slot) (s : State) : State := if s.hears c then raise c .eStop none s else s

/-- An ACK message: last ACK and count, the CAB_ACK(c) mark, and the offer to the channel (R31). -/
def takeAck (c : Slot) (code : Byte) (s : State) : State :=
  if s.hears c then
    let s1 := updLink c (fun l => { l with lastAck := some (code.toNat, s.now), ackCount := (l.ackCount + 1) % 65536 }) s
    offerAck c code (mark (.cabAck c) s1)
  else s

/-- A frame arrives on a cab line: on a link that hears, the frame check decides between a bad frame, which changes no
field of the link and adds CAB_FRAME(c), and a message (R24). The bytes of one command are one frame (DESIGN CHOICE, log
85). -/
def takeCabBytes (c : Slot) (bytes : List Byte) (s : State) : State :=
  if !s.hears c then s
  else match checkCabFrame bytes with
    | none => addError (.cabFrame c) s
    | some (.pose f) => takePose c f s
    | some (.ack code) => takeAck c code s
    | some .estop => takeEStop c s

/-! ## STALE and LOST -/

/-- Uptime since the last acceptance is at least `ms`. -/
def State.unheardFor (s : State) (c : Slot) (ms : Ms) : Bool :=
  match (s.link c).lastPose with
  | some p => decide (p.acceptedAt + ms ≤ s.now)
  | none => false

/-- The link's STALE event is due (R22). -/
def State.staleDue (s : State) (c : Slot) : Bool := (s.link c).state == .live && s.unheardFor c Config.staleMs

/-- The link becomes STALE: a link-made frame, a LINK_LOST fault's condition ceasing, dwells stopped and lists tested,
wind timers cleared and borrowers re-evaluated (R22, R33, R86, R96, R109, R112, R121, R172). No rule orders the blocks: Crane
State takes the event first, then the arbiter, then the Wind Monitor (DESIGN CHOICE, log 76). -/
def becomeStale (c : Slot) (s : State) : State :=
  if s.staleDue c then
    let s1 := placeLinkMade c (updLink c (fun l => { l with state := .stale }) s)
    windStale c (arbiterStale c (conditionCeases c .linkLost s1))
  else s

/-- The link's LOST event is due (R22). -/
def State.lostDue (s : State) (c : Slot) : Bool := (s.link c).state == .stale && s.unheardFor c Config.lostMs

/-- The link becomes LOST: LINK_LOST is raised and the crane's waiting entries are withdrawn (R22, R99). -/
def becomeLost (c : Slot) (s : State) : State :=
  if s.lostDue c then
    withdrawCrane c (raise c .linkLost none (updLink c (fun l => { l with state := .lost }) s))
  else s

end Sys2Proof.Machine
end

