-- ==== Sys2Proof/Machine/Start.lean ====
section
/-! DEFINITION. Starts of the part and changes of its mode: power-on and site reset (R18, R38, R49, R104, R191), survey
entry (R12), survey exit (R13 to R16), configuration of a slot (R2), removal and admission (R19, R20). -/

namespace Sys2Proof.Machine

/-! ## Power-on and site reset -/

/-- A Geometry Store started from its image (R18). -/
def Geometry.started (image : Option Image) : Geometry :=
  match image with
  | some i =>
    { mode := .operate, slots := i.slots, profile := i.profile, directory := deriveDirectory i.slots, image := some i }
  | none =>
    { mode := .survey, slots := Vector.replicate 12 .unconfigured, profile := SiteProfile.default
      directory := Vector.replicate 48 { kind := .unused, members := [] }, image := none }

/-- The clock at a start (R49). -/
def Clock.started (p : SiteProfile) : Clock where
  uptime := 0
  minute := none
  minutePhase := none
  prescaler := p.prescaler
  tickBegan := 0
  tickLength := (p.prescaler + 1) * 250

/-- The state right after power-on or site reset with a start cause, before the configured links place their frames: every
block but the reset line, which is driven from outside (R18, R38, R49, R79, R104, R124, R142, R145, R163, R177, R191). -/
def State.started (cause : StartCause) (s : State) : State :=
  let geo := Geometry.started s.geo.image
  let configured (c : Slot) : Bool := (geo.slots.get c).record.isSome
  { pending := s.pending
    events := s.events
    power := { s.power with on := true, startCause := cause }
    geo := geo
    links := Vector.ofFn fun c => Link.atReset (configured c)
    clock := Clock.started geo.profile
    engines := Vector.replicate 12 .cleared
    arb := .cleared
    wind := { cranes := Vector.replicate 12 .cleared, declaration := .calm, bucketPhase := 0 }
    bookings := []
    plans := Vector.replicate 32 none
    channels := Vector.replicate 12 .cleared
    status := Vector.ofFn fun c => .fresh (if configured c then .joining else .offline)
    port := .cleared (profileMasks geo.profile) }

/-- Power-on and site reset: every block takes its starting values, and each configured link places its frame (R33). -/
def start (cause : StartCause) (s : State) : State :=
  let s1 := s.started cause
  forEach (allSlots.filter s1.configured) placeLinkMade s1

/-- The image of the present geometry; the excluded flags are not part of it (R17). -/
def State.presentImage (s : State) : Image where
  slots := Vector.ofFn fun c => { s.slotOf c with excluded := false }
  profile := s.profile

/-- A survey exit is in flight: its LEAVE_SURVEY is in hand (R13). -/
def State.exitInFlight (s : State) : Bool := s.port.hand.isSome

/-- The image after a reset or loss of power: an interrupted exit leaves it as it was before its write, invalid during the
write, and valid with the new contents after its CRC-16 (R17). -/
def interruptWrite (moment : WriteMoment) (s : State) : State :=
  if s.exitInFlight then
    { s with
      geo := { s.geo with
        image := match moment with
          | .afterCrc => some s.presentImage
          | .beforeCrc => none
          | .beforeMark => s.geo.image } }
  else s

/-! ## Survey entry -/

/-- The engine's state of a crane at survey entry, survey exit, removal, admission and configuration (R79). -/
def clearEngine (c : Slot) (s : State) : State :=
  let s1 := updEvict c (fun _ => []) (setRecovery c false s)
  s1.putEngine c .cleared

/-- A channel at survey entry: IDLE, its reasons and step-mode flag kept (R163). -/
def Channel.atSurveyEntry (ch : Channel) : Channel := { ch.idled with losses := [] }

/-- A crane's state at survey entry (R12, R177). -/
def CraneStatus.atSurveyEntry (x : CraneStatus) : CraneStatus :=
  { x with
    state := match x.state with
      | .inService | .joining => .joining
      | .offline => .offline
      | .fault => .fault
      | .lockout => .lockout
    check := none }

/-- The slots whose link is not UNUSED. -/
def State.usedLinks (s : State) : List Slot := slotSet fun c => (s.link c).state != .unused

/-- The effects of survey entry (R12, R33, R79, R104, R124, R163, R177). R12 has them take effect together; the order of the
report keys they mark is the model's, block by block (DESIGN CHOICE, log 67). -/
def enterSurvey (s : State) : State :=
  let s1 := { s with geo := { s.geo with mode := .survey } }
  let s2 := forEach allSlots clearEngine (arbiterCleared s1)
  let s3 := forEach allSlots (fun c s =>
    updWind c (fun w => { w with exitPending := false })
      (updCrane c CraneStatus.atSurveyEntry (updChannel c Channel.atSurveyEntry s))) s2
  forEach s3.usedLinks placeLinkMade s3

/-! ## Survey exit -/

/-- The zones a plan step names in a CLAIM. -/
def claimZonesOf : PlanStep → List Nat
  | .claim zs _ _ => zs
  | _ => []

/-- The zones a plan step names (R144). -/
def stepNames : PlanStep → List Nat
  | .claim zs _ _ => zs
  | .release (.named zs) => zs
  | .check (.holding z) _ => [z]
  | _ => []

/-- The zones a plan's CLAIM steps name (R127, R128, R144). -/
def planClaims (steps : List PlanStep) : List ZoneId :=
  let named := steps.flatMap claimZonesOf
  zoneSet fun z => named.contains z.val

/-- The lowest step index that names a zone of a kind told by p. -/
def firstNaming? (p : ZoneId → Bool) (steps : List PlanStep) : Option Nat :=
  (List.range steps.length).find? fun i => match steps[i]? with
    | some st => (zonesOf (stepNames st)).any p
    | none => false

/-- A PENDING or READY booking. -/
def Booking.waits (b : Booking) : Bool := b.state == .pending || b.state == .ready

/-- The crane is a member of the zone and its slot is configured; an unconfigured crane is no member (R8). -/
def State.memberNow (s : State) (c : Slot) (z : ZoneId) : Bool := s.configured c && s.member c z

/-- The lowest step of a VALID plan at which its re-verification fails: one naming an UNUSED zone, and otherwise one
naming a zone of which some waiting booking's crane is no member (R15 step 2, R144). R144 does not say which zone is
concerned when both fail; the model takes the UNUSED one (DESIGN CHOICE, log 78). -/
def State.reverify? (s : State) (n : PlanId) (steps : List PlanStep) : Option Nat :=
  match firstNaming? (fun z => (s.entry z).kind == .unused) steps with
  | some i => some i
  | none =>
    let cranes := (s.bookings.filter fun b => b.plan == n && b.waits).map (·.crane)
    let claimed := planClaims steps
    firstNaming? (fun z => claimed.contains z && cranes.any fun c => !s.memberNow c z) steps

/-- A plan after re-verification (R15 step 2). -/
def State.reverified (s : State) (n : PlanId) : Option Plan :=
  match s.plan? n with
  | none => none
  | some p =>
    match p.failure, s.reverify? n p.steps with
    | none, some i => some { p with failure := some ⟨.zone, i⟩ }
    | _, _ => some p

/-- The plan of a booking is INVALID. -/
def State.planInvalid (s : State) (b : Booking) : Bool :=
  match s.plan? b.plan with
  | some p => p.failure.isSome
  | none => false

/-- A waiting booking that fails at survey exit (R15 step 3): with NOT_CONFIGURED for an unconfigured slot, whatever its
plan (R139), and otherwise with PLAN_INVALID. -/
def failAtExit (n : Nat) (s : State) : State :=
  match s.booking? n with
  | none => s
  | some b =>
    if !b.waits then s
    else if !s.configured b.crane then
      updBooking n (fun b => { b with state := .failed, outcome := some ⟨.notConfigured, none⟩ }) s
    else if s.planInvalid b then
      updBooking n (fun b => { b with state := .failed, outcome := some ⟨.planInvalid, none⟩ }) s
    else s

/-- The three steps of an exit whose validation has passed (R15). Step 3 takes the bookings in ascending number, an order
R15 leaves open (DESIGN CHOICE, log 46). The image stands in the state as it was until its write
ends or is interrupted (R17, log 27). -/
def beginExitWrite (s : State) : State :=
  let s1 := deriveZones s
  let s2 := { s1 with plans := Vector.ofFn s1.reverified }
  forEach s2.bookingNumbers failAtExit s2

/-- A crane made JOINING at a successful exit (R16, R177): an open context ends, reason FAULT leaves its channel, its
held-back bookings go forward. -/
def joinAtExit (c : Slot) (s : State) : State :=
  let s1 := updCrane c (fun x => { x.closeContext .surveyExit s.now with state := .joining, fault := none, check := none }) s
  letForward c (updChannel c (fun ch => { ch with reasons := { ch.reasons with fault := false } }) s1)

/-- The effects of an exit whose image has been written (R16, R33, R79, R104, R117, R124, R131, R142, R163, R177). -/
def completeSurveyExit (s : State) : State :=
  let s1 := { s with geo := { s.geo with mode := .operate, image := some s.presentImage } }
  let s2 := forEach allSlots clearEngine (arbiterCleared s1)
  let s3 := forEach (allSlots.filter s2.supervised) joinAtExit s2
  let s4 := forEach allSlots (fun c s =>
    updWind c (fun w => { w with exitPending := false }) (updChannel c (fun ch => { ch with calmFrom := none }) s)) s3
  let s5 := forEach s4.usedLinks placeLinkMade s4
  let s6 := forEach (allSlots.filter fun c => s5.supervised c && s5.effective c == .storm) buildStorm s5
  forEach allSlots gateAndRun s6

/-! ## Configuration of a slot, removal, admission -/

/-- What configuring and unconfiguring a slot do alike to channel, wind record and engine (R79, R124, R163). -/
def clearForSlot (c : Slot) (s : State) : State :=
  clearEngine c (clearWind c (updChannel c (fun _ => .cleared) s))

/-- A slot becomes configured with a record (R2, R38, R109, R130, R177). -/
def configureSlot (c : Slot) (r : CraneRecord) (s : State) : State :=
  let s1 := s.putSlot c { CraneSlot.unconfigured with record := some r }
  let s2 := updCrane c (fun _ => .fresh .joining) (clearForSlot c s1)
  let s3 := placeLinkMade c (updLink c Link.becomesConfigured (letForward c s2))
  reevaluateBorrowers none (recomputeValues c s3)

/-- A slot becomes unconfigured (R2, R38, R109, R130, R139, R177). -/
def unconfigureSlot (c : Slot) (s : State) : State :=
  let s1 := updCrane c (fun _ => .fresh .offline) (clearForSlot c (s.putSlot c .unconfigured))
  reevaluateBorrowers none (updLink c Link.becomesUnused (holdBack c s1))

/-- The excluded flag of a slot is set. -/
def State.putExcluded (s : State) (c : Slot) (on : Bool) : State := s.putSlot c { s.slotOf c with excluded := on }

/-- A crane is removed (R19, R39, R79, R104, R124, R139, R163, R177). Its e-stop field becomes RELEASED, which clears the
e-stop flags of both contexts, ended or not (R170). -/
def removeCrane (c : Slot) (s : State) : State :=
  let s1 := updChannel c (fun _ => .cleared) (cancelRemoved c (s.putExcluded c true))
  let s2 := releaseEStop c (updCrane c (fun x =>
    { x.closeContext .removal s.now with state := .offline, fault := none, check := none }) s1)
  let s3 := clearEngine c (clearWind c (arbiterRemove c s2))
  reevaluateBorrowers none (placeLinkMade c (updLink c (Link.emptied .waiting) s3))

/-- A channel at its crane's admission: no suspension reason, step mode off, the calm timer stopped (R163). -/
def Channel.atAdmission (ch : Channel) : Channel := { ch with reasons := .empty, stepMode := false, calmFrom := none }

/-- A crane is admitted (R20, R39, R79, R109, R117, R124, R163, R177). -/
def admitCrane (c : Slot) (s : State) : State :=
  let s1 := updCrane c (fun x => { x with state := .joining, fault := none, eStop := false, check := none })
    (s.putExcluded c false)
  let s2 := placeLinkMade c (updLink c (Link.emptied .waiting) (clearEngine c (letForward c (updChannel c Channel.atAdmission s1))))
  let s3 := if s2.operate && s2.effective c == .storm then buildStorm c s2 else s2
  reevaluateBorrowers none (recomputeValues c s3)

end Sys2Proof.Machine
end

