-- ==== Sys2Proof/Machine/Plans.lean ====
section
/-! DEFINITION. The Plan Store: the checks of LOAD_PLAN (R143) and verification (R144). -/

namespace Sys2Proof.Machine

/-- What a step list carried by LOAD_PLAN answers when some step is of an unknown kind or does not fit its kind, the
lowest such step deciding (R143, third check). -/
def badStepField? : List StepField → Option ReplyCode
  | [] => none
  | .step _ :: rest => badStepField? rest
  | .unknownKind _ :: _ => some .badValue
  | .misfit _ :: _ => some .badLength

/-- The steps of a carried list. -/
def stepsOf (fields : List StepField) : List PlanStep :=
  fields.filterMap fun f => match f with
    | .step s => some s
    | _ => none

/-- A zone set of a step: 1 to 4 distinct zones, each 0..47 (section 8.1). -/
def zonesInRange (zs : List Nat) : Bool := inRange 1 4 zs.length && decide zs.Nodup && zs.all (inRange 0 47)

/-- The operands of an AWAIT condition lie in their ranges (section 8.1). -/
def awaitInRange : AwaitCond → Bool
  | .atCell cell t => inRange 0 8 t && (match cell with
    | .cell s b => inRange 0 127 s && inRange 0 7 b
    | .pick | .set => true)
  | .loadOn x | .loadOff x => inRange 0 65000 x
  | .hookAbove h => inRange 0 250000 h

/-- The operands of a CHECK condition lie in their ranges (section 8.1). -/
def checkInRange : CheckCond → Bool
  | .loadBelow x => inRange 0 65000 x
  | .holding z => inRange 0 47 z
  | .windBelowLimit | .stateCalm | .windowOpen => true

/-- Every operand of a step lies within its range in the step table (R144 check 1). Step indices are judged by check
2. -/
def stepInRange : PlanStep → Bool
  | .claim zs limit _ => zonesInRange zs && inRange 1 3600 limit
  | .await cond limit _ => awaitInRange cond && inRange 1 3600 limit
  | .ack code limit _ => inRange 0 255 code && inRange 1 3600 limit
  | .notify code p1 p2 => inRange 0 255 code && inRange 0 65535 p1 && inRange 0 65535 p2
  | .hold n => inRange 1 4095 n
  | .repeatStep n => inRange 1 4095 n
  | .check cond _ => checkInRange cond
  | .release (.named zs) => zonesInRange zs
  | .release .all | .loop | .endStep => true

/-- The step index an on-timeout jumps to. -/
def timeoutTarget : OnTimeout → Option Nat
  | .fail => none
  | .goto n => some n

/-- The jump targets of a step: a GOTO of its on-timeout, or a CHECK's target (R144 check 2). -/
def targetOf? : PlanStep → Option Nat
  | .claim _ _ o | .await _ _ o | .ack _ _ o => timeoutTarget o
  | .check _ t => some t
  | _ => none

/-- AWAIT, ACK and HOLD wait for a later event (R144 check 4). -/
def waitsForEvent : PlanStep → Bool
  | .await .. | .ack .. | .hold _ => true
  | _ => false

/-- A REPEAT step. -/
def isRepeat : Option PlanStep → Bool
  | some (.repeatStep _) => true
  | _ => false

/-- The edges of the step graph from step i (R144). -/
def successors (steps : List PlanStep) (i : Nat) : List Nat :=
  let next := if i + 1 < steps.length then [i + 1] else []
  match steps[i]? with
  | none | some .endStep => []
  | some (.check _ t) => next ++ [t]
  | some .loop =>
    next ++ (List.range steps.length).filter fun (j : Nat) =>
      decide (1 ≤ j) && isRepeat steps[j - 1]?
  | some _ => next

/-- The steps of a plan that do not wait. -/
def isQuick (steps : List PlanStep) (i : Nat) : Bool :=
  match steps[i]? with
  | some st => !waitsForEvent st
  | none => false

/-- The quick steps reached from a set within n edges between quick steps. -/
def reachQuick (steps : List PlanStep) : Nat → List Nat → List Nat
  | 0, seen => seen
  | n + 1, seen =>
    let more := seen.flatMap fun i => (successors steps i).filter (isQuick steps)
    reachQuick steps n ((List.range steps.length).filter fun i => seen.contains i || more.contains i)

/-- Step i lies on a cycle that passes through no AWAIT, ACK or HOLD step (R144 check 4). -/
def onQuickCycle (steps : List PlanStep) (i : Nat) : Bool :=
  isQuick steps i &&
    (reachQuick steps steps.length ((successors steps i).filter (isQuick steps))).contains i

/-- The lowest step index of a plan that fails a check of its own. -/
def firstStep? (steps : List PlanStep) (bad : Nat → PlanStep → Bool) : Option Nat :=
  (List.range steps.length).find? fun i => match steps[i]? with
    | some st => bad i st
    | none => false

/-- The last step is END. -/
def endsWithEnd (steps : List PlanStep) : Bool := steps.getLast? == some .endStep

/-- Verification of a plan: the first failing check, with the lowest failing step index; check 5 is made in OPERATE
(R144). -/
def State.verify (s : State) (steps : List PlanStep) : Option PlanFailure :=
  match firstStep? steps fun _ st => !stepInRange st with
  | some i => some ⟨.range, i⟩
  | none =>
  match firstStep? steps fun _ st => match targetOf? st with
    | some t => decide (steps.length ≤ t)
    | none => false with
  | some i => some ⟨.target, i⟩
  | none =>
  if !endsWithEnd steps then some ⟨.noEnd, steps.length - 1⟩
  else
  match firstStep? steps fun i _ => onQuickCycle steps i with
  | some i => some ⟨.cycle, i⟩
  | none =>
  if s.operate then
    match firstNaming? (fun z => (s.entry z).kind == .unused) steps with
    | some i => some ⟨.zone, i⟩
    | none => none
  else none

/-- A booking in the table refers to the plan (R143). -/
def State.planInUse (s : State) (n : PlanId) : Bool := s.bookings.any fun b => b.plan == n

/-- A plan stored with its verdict (R143). -/
def State.storePlan (s : State) (n : PlanId) (steps : List PlanStep) : State :=
  { s with plans := putAt s.plans n (some { steps := steps, failure := s.verify steps }) }

end Sys2Proof.Machine
end

