-- ==== Sys2Proof/Machine/Readings.lean ====
section
/-! DEFINITION. What the reading requests return and the reports carry: READ_CLOCK (R48), READ_CRANE (R40, R187), READ_ZONE
(R103), READ_BOOKING (R141), READ_CHANNEL (R162), READ_WIND (R122), READ_FAULT (R178) and the snapshots of section 10.4. -/

namespace Sys2Proof.Machine

/-- READ_CLOCK (R48). Taken in the millisecond at which a minute or a tick is due to end, before that event, it shows the
last millisecond of the minute and of the tick (DESIGN CHOICE, log 51). -/
def State.readClock (s : State) : ClockReading where
  uptime := s.now
  minute := s.clock.minute
  intoMinute := s.clock.minutePhase.map fun t => min (Config.minuteMs - 1) (s.now - t)
  prescaler := s.clock.prescaler
  tickLength := s.clock.tickLength
  intoTick := min (s.clock.tickLength - 1) (s.now - s.clock.tickBegan)
  startCause := s.power.startCause

/-- The link's fields of READ_CRANE (R40). -/
def State.readLink (s : State) (c : Slot) : LinkReading :=
  let l := s.link c
  { state := l.state
    sinceAccepted := l.lastPose.map fun p => s.now - p.acceptedAt
    lastPose := l.lastPose
    invalidStreak := l.invalidStreak
    lastInvalid := l.lastInvalid
    lastSentGeneration := l.lastSent.map (·.generation)
    notices := l.notices.length
    stepWaits := s.slotClaimed c
    lastAck := l.lastAck
    ackCount := l.ackCount }

/-- The kind of a claim (R81). -/
def State.claimKind (s : State) : ClaimRef → ClaimKind
  | .pool n => match s.poolKind? n with
    | some .standing => .standing
    | _ => .transit
  | .storm _ => .storm
  | .closure _ => .closure

/-- The zones a crane holds, each with its claim kind (R187). -/
def State.readHolds (s : State) (c : Slot) : List (ZoneId × ClaimKind) :=
  allZones.filterMap fun z => match (s.zone z).holding with
    | .held h ref => if h == c then some (z, s.claimKind ref) else none
    | _ => none

/-- READ_CRANE for a configured slot; none for an unconfigured one (R187). -/
def State.readCrane (s : State) (c : Slot) : Option CraneReading :=
  (s.record? c).map fun r =>
    let e := s.engine c
    { excluded := (s.slotOf c).excluded
      record := r
      state := (s.crane c).state
      link := s.readLink c
      computation := e.record
      modeInForce := (s.link c).inForce
      occupancy := e.occupancy
      reach := e.reach
      evict := e.evict
      transit := e.transit
      recovery := e.recovery
      latch := e.latch
      stormBlocked := s.stormBlocked c
      holds := s.readHolds c }

/-- A claim as READ_ZONE shows it, with the id of R81. -/
def State.readClaim (s : State) (ref : ClaimRef) : ClaimReading where
  id := match ref with
    | .pool n => ((s.poolRec? n).map (·.id)).getD 0
    | .storm c => 96 + c.val
    | .closure z => 108 + z.val
  crane := s.claimCrane? ref
  kind := s.claimKind ref
  booking := match ref with
    | .pool n => (s.poolRec? n).bind (·.booking)
    | _ => none
  rank := (s.key ref).rank
  priority := (s.key ref).priority
  stamp := (s.key ref).stamp

/-- An entry of a waiting list as READ_ZONE shows it (R103). -/
def State.readEntry (s : State) (z : ZoneId) (ref : ClaimRef) : EntryReading where
  claim := s.readClaim ref
  passedOver := match s.claimCrane? ref with
    | some c => (s.link c).state == .stale
    | none => false
  stormBlocked := match ref, (s.zone z).holding with
    | .storm c, .held h (.storm _) => h != c
    | _, _ => false

/-- The storm substate of a zone: whether EVICTING, present while its holder claim is a STORM claim (R80). -/
def ZoneRecord.substate? (r : ZoneRecord) : Option Bool :=
  match r.holding with
  | .held _ (.storm _) => some (!r.evictees.isEmpty)
  | _ => none

/-- READ_ZONE (R103). The co-claims come by ascending stamp: R80 and R103 have them as a set and give no order (DESIGN
CHOICE, log 84). -/
def State.readZone (s : State) (z : ZoneId) : ZoneReading :=
  let r := s.zone z
  { zone := z
    kind := (s.entry z).kind
    members := (s.entry z).members
    closed := r.holding == .closed
    holder := match r.holding with
      | .held c ref => some (c, s.readClaim ref)
      | _ => none
    coClaims := r.coClaims.map fun n => s.readClaim (.pool n)
    conversionPending := match r.holding with
      | .held _ ref => s.pendingIn ref z
      | _ => false
    dwell := match r.holding with
      | .held c (.pool n) =>
        if s.poolKind? n == some .transit then
          (s.poolRec? n).map fun k =>
            ((s.engine c).occupancy.contains z || (s.engine c).reach.contains z, k.dwell)
        else none
      | _ => none
    evicting := r.substate?
    evictees := r.evictees
    reservedFor := r.reservedFor.map fun n => s.readClaim (.pool n)
    waiting := r.waiting.map (s.readEntry z) }

/-- READ_BOOKING (R141). -/
def State.readBooking (s : State) (n : Nat) : Option BookingReading :=
  (s.booking? n).map fun b =>
    { booking := b
      running :=
        if b.state == .running && (s.channel b.crane).booking == some n then
          some ((s.channel b.crane).step, (s.channel b.crane).phase)
        else none }

/-- READ_CHANNEL (R162). -/
def State.readChannel (s : State) (c : Slot) : ChannelReading :=
  let ch := s.channel c
  { state := ch.state
    record := ch
    current := (s.current? c).map fun b => (b.kind, b.plan)
    claimId := match ch.claim with
      | some (.placed n) => (s.poolRec? n).map (·.id)
      | _ => none
    interrupted := do
      let b ← s.current? c
      let x ← b.returnsTo.bind s.booking?
      let saved ← x.saved
      pure (x.number, saved.step, saved.phase) }

/-- A crane's storm record as READ_WIND gives it: each zone of its zone set, ascending as R192 sends a set of zones, with its
status and substate (R122). -/
def State.readStorm (s : State) (c : Slot) : List (ZoneId × ZoneStatus × Option Bool) :=
  allZones.flatMap fun z => ((s.storm c).zones.filter fun cz => cz.zone == z).map fun cz =>
    (z, cz.status, (s.zone z).substate?)

/-- READ_WIND (R122). -/
def State.readWind (s : State) (c : Slot) : WindReading :=
  let w := s.windOf c
  { ring := w.ring
    buckets := w.buckets
    sensor := w.sensor
    missing := w.missing
    recovering := w.recovering
    ownGust := w.ownGust
    ownMean := w.ownMean
    gust := w.gust
    mean := w.mean
    source := w.source
    own := w.own
    declaration := s.wind.declaration
    effective := w.effective
    calmDown := w.calmDown.map fun x => (x.1, s.now - x.2)
    stormAfterHold := w.stormAfterHold.map fun t => s.now - t
    channelCalm := (s.channel c).calmFrom.map fun t => s.now - t
    phase := w.phase
    exitPending := w.exitPending
    record := s.readStorm c
    stormBlocked := s.stormBlocked c
    intoBucket := s.now - s.wind.bucketPhase }

/-- READ_FAULT (R178). With no active cause, none is in the auto-clear set (DESIGN CHOICE, log 65). -/
def State.readFault (s : State) (c : Slot) : FaultReading where
  status := s.crane c
  causeAutoClears := match s.activeCause? c with
    | some k => s.profile.autoClear.contains k
    | none => false
  recovery := (s.engine c).recovery

/-- What the CRANE(c) report of a configured slot carries; none for an unconfigured one, as READ_CRANE has it. To the values
of READ_CRANE (R187) it adds the fault context, in which R178 has a fault raised and cleared before the report appear; that
the lockout context goes with it is the model's choice (DESIGN CHOICE, log 50). -/
def State.reportCrane (s : State) (c : Slot) : Option CraneReport :=
  (s.readCrane c).map fun r => ⟨r, (s.crane c).faultContext, (s.crane c).lockoutContext⟩

/-- The snapshot of a report (section 10.4). A WIND or CHANNEL report whose slot has become unconfigured carries the fields of
the cleared record, where READ_WIND and READ_CHANNEL would answer NOT_CONFIGURED (DESIGN CHOICE, log 82). -/
def State.snapshot (s : State) : ReportKey → Snapshot
  | .crane c => .crane (s.reportCrane c)
  | .wind c => .wind (s.readWind c)
  | .zone z => .zone (s.readZone z)
  | .booking n => .booking (s.readBooking n)
  | .channel c => .channel (s.readChannel c)
  | .cabAck c => .cabAck (s.link c).lastAck (s.link c).ackCount

end Sys2Proof.Machine
end

