-- ==== Sys2Proof/Machine/Encode.lean ====
section
/-! DEFINITION. The bytes of the site frames the part sends (R192, R193): the codes of the values that the chapters list, and
the fields of replies and reports in the order of the reading rule each names. The widths of whole numbers are free values
(log 4), and how the manual's words become fields where R192 leaves it open is log 54 and the entries it names. -/

namespace Sys2Proof.Machine

/-! ## Codes (R192): the place of a value in its chapter's list -/

def StartCause.code : StartCause → Nat
  | .powerOn => 0
  | .resetLine => 1
  | .resetRequest => 2

def PartMode.code : PartMode → Nat
  | .survey => 0
  | .operate => 1

def MissingItem.code : MissingItem → Nat
  | .jibGrid => 0
  | .tailRow => 1
  | .hookGrid => 2
  | .chart => 3

def PlanCheck.code : PlanCheck → Nat
  | .range => 0
  | .target => 1
  | .noEnd => 2
  | .cycle => 3
  | .zone => 4

def ZoneKind.code : ZoneKind → Nat
  | .structural => 0
  | .hook => 1
  | .unused => 2

/-- Numbered as R81 lists the kinds; R83's table has them by rank (DESIGN CHOICE, log 75). -/
def ClaimKind.code : ClaimKind → Nat
  | .transit => 0
  | .standing => 1
  | .storm => 2
  | .closure => 3

def ZoneStatus.code : ZoneStatus → Nat
  | .waiting => 0
  | .granted => 1
  | .deferred => 2

def OpState.code : OpState → Nat
  | .offline => 0
  | .joining => 1
  | .inService => 2
  | .fault => 3
  | .lockout => 4

/-- Numbered as section 9.1 and R166 list the causes; R172's table has another order (DESIGN CHOICE, log 75). -/
def causeCode : FaultCause → Nat
  | .intrusion => 0
  | .overload => 1
  | .poseInvalid => 2
  | .linkLost => 3
  | .eStop => 4

def EndWay.code : EndWay → Nat
  | .auto => 0
  | .clearFault => 1
  | .recovery => 2
  | .escalated => 3
  | .clearLockout => 4
  | .surveyExit => 5
  | .removal => 6

def LinkState.code : LinkState → Nat
  | .unused => 0
  | .waiting => 1
  | .live => 2
  | .stale => 3
  | .lost => 4

def Quantity.code : Quantity → Nat
  | .slewRate => 0
  | .radialSpeed => 1
  | .radius => 2
  | .hookHeight => 3
  | .load => 4

def CraneKind.code : CraneKind → Nat
  | .flat => 0
  | .luffing => 1

def tableCode : CellTable → Nat
  | .jib => 0
  | .tail => 1
  | .hook => 2

def Decision.code : Decision → Nat
  | .stop => 0
  | .slow => 1
  | .clear => 2

def BookingKind.code : BookingKind → Nat
  | .normal => 0
  | .urgent => 1
  | .supersede => 2
  | .service => 3

def BookingState.code : BookingState → Nat
  | .pending => 0
  | .ready => 1
  | .running => 2
  | .interrupted => 3
  | .done => 4
  | .cancelled => 5
  | .expired => 6
  | .failed => 7

def LossCause.code : LossCause → Nat
  | .storm => 0
  | .forced => 1

/-- A code that R125's table lists twice has the place of its first row, and two codes of one row count as two (DESIGN CHOICE,
log 75). -/
def OutcomeCode.code : OutcomeCode → Nat
  | .endReached => 0
  | .waitLimit => 1
  | .windowEnded => 2
  | .claimLost _ => 3
  | .lockout => 4
  | .planInvalid => 5
  | .notConfigured => 6
  | .host => 7
  | .superseded => 8
  | .removed => 9
  | .windowEnd => 10

/-- Numbered as section 8.2 lists the states; R146's table has them in the order in which they are judged (DESIGN CHOICE,
log 75). -/
def ChannelState.code : ChannelState → Nat
  | .idle => 0
  | .active => 1
  | .stepPause => 2
  | .suspended => 3

/-- Numbered as section 8.2 lists the phases; R160's table has WAITING_SLOT before WAITING_ACK (DESIGN CHOICE, log 75). -/
def ChannelPhase.code : ChannelPhase → Nat
  | .starting => 0
  | .waitingClaim => 1
  | .waitingPose => 2
  | .waitingAck => 3
  | .waitingSlot => 4
  | .holding => 5

/-- A claim's request standing: PLACED 0, and the others by the values of their reply codes (section 10.2). -/
def ChannelClaim.code : ChannelClaim → Nat
  | .placed _ => 0
  | .noRecord => ReplyCode.noRecord.value
  | .alreadyWaiting => ReplyCode.alreadyWaiting.value

def WindLevel.code (w : WindLevel) : Nat := w.rank

def SensorState.code : SensorState → Nat
  | .ok => 0
  | .failed => 1

/-- Numbered as section 6.1 lists the phases; R118's table names them in the order in which they are judged (DESIGN CHOICE,
log 75). -/
def StormPhase.code : StormPhase → Nat
  | .none => 0
  | .claiming => 1
  | .claimed => 2
  | .released => 3
  | .exitPending => 4

def SkipReason.code : SkipReason → Nat
  | .queueFull => 0
  | .notLive => 1
  | .offline => 2

/-- The flags of the error summary: a flag is one byte, and CAB_FRAME(c) has the code of its slot after the other four, where
log 54 sends other values with operands as a code and then the operands; R185 gives no encoding (DESIGN CHOICE, log 59). -/
def ErrorFlag.code : ErrorFlag → Nat
  | .frameError => 0
  | .rxOverrun => 1
  | .unknownRequest => 2
  | .nvWrite => 3
  | .cabFrame c => 4 + c.val

/-! ## Fields -/

/-- A whole number of a layout (R192). -/
def numField (l : Config.Layout) (field v : Nat) : List Byte := bytesOf (Config.width l field) v

/-- A signed number of a layout, in two's complement (R192). -/
def intField (l : Config.Layout) (field : Nat) (v : Int) : List Byte :=
  bytesOf (Config.width l field) (v % (256 ^ Config.width l field : Nat)).toNat

/-- A value named from a list, by its code (R192). -/
def codeField (n : Nat) : List Byte := bytesOf 1 n

/-- A value that is yes or no, set or clear, on or off, standing or clear, valid or invalid: 1 for the first (log 54). -/
def flagField (b : Bool) : List Byte := codeField (if b then 1 else 0)

/-- An optional field: a presence byte, and the field when present (R192). -/
def optField {α : Type} (f : α → List Byte) : Option α → List Byte
  | none => [0#8]
  | some a => 1#8 :: f a

/-- A list or a set: a count byte and the items (R192). -/
def listField {α : Type} (f : α → List Byte) (l : List α) : List Byte := codeField l.length ++ l.flatMap f

/-- The layout of a reading rule's values. -/
abbrev ofRule (n : Nat) : Config.Layout := .rule n

/-- A set of zones (R192). -/
def zoneSetField (l : Config.Layout) (field : Nat) (zs : List ZoneId) : List Byte :=
  listField (fun z => numField l field z.val) zs

/-- A cell: table, sector and band (R52, section 9.1), the band of a tail-row cell sent as 0 (DESIGN CHOICE, log 69). -/
def cellField (l : Config.Layout) (field : Nat) (p : CellPos) : List Byte :=
  codeField (tableCode p.table) ++ numField l field p.sector.val ++ numField l (field + 1) p.band.val

/-! ## The records of the reading rules -/

/-- READ_CLOCK (R48). A site minute that is UNSET is sent as an absent optional field is, which neither R48 nor R192 says
(DESIGN CHOICE, log 68). -/
def ClockReading.fields (r : ClockReading) : List Byte :=
  let l := ofRule 48
  numField l 0 r.uptime ++ optField (numField l 1) r.minute ++ optField (numField l 2) r.intoMinute ++
  numField l 3 r.prescaler ++ numField l 4 r.tickLength ++ numField l 5 r.intoTick ++ codeField r.startCause.code

/-- The crane record, in the order of R1's table, the seven band edges without a count byte (log 60). -/
def CraneRecord.fields (r : CraneRecord) : List Byte :=
  let l := ofRule 1
  codeField r.kind.code ++ intField l 1 r.baseEast ++ intField l 2 r.baseNorth ++ numField l 3 r.bearingOffset ++
  numField l 4 r.jibLength ++ numField l 5 r.minRadius ++ r.edges.toList.flatMap (numField l 6) ++
  optField (numField l 7) r.tipOverhang ++ numField l 8 r.maxSlewRate ++ numField l 9 r.slewDecel ++
  numField l 10 r.reactionTime ++ numField l 11 r.slewMargin ++ numField l 12 r.slowBand ++ numField l 13 r.lookAhead ++
  numField l 14 r.driftCoeff ++ numField l 15 r.maxRadialSpeed ++ numField l 16 r.radialDecel ++
  numField l 17 r.radiusMargin ++ numField l 18 r.radialSlowBand

/-- The last accepted pose, in the order of R28's table. -/
def Pose.fields (p : Pose) : List Byte :=
  let l := ofRule 28
  numField l 0 p.sequence ++ numField l 1 p.cabBearing ++ numField l 2 p.siteBearing ++ intField l 3 p.slewRate ++
  numField l 4 p.radius ++ intField l 5 p.radialSpeed ++ numField l 6 p.hookHeight ++ numField l 7 p.load ++
  numField l 8 p.windSample ++ flagField p.windValid ++ flagField p.emergencyStop ++ flagField p.brakeReleased ++
  flagField p.operatorPresent ++ flagField p.sensorFault ++ numField l 9 p.acceptedAt

/-- The last ACK, when there is one, and the ACK count (R31, R40). -/
def ackFields (lastAck : Option (Nat × Ms)) (count : Nat) : List Byte :=
  let l := ofRule 31
  optField (fun a => numField l 0 a.1 ++ numField l 1 a.2) lastAck ++ numField l 2 count

/-- The link's fields of READ_CRANE (R40). -/
def LinkReading.fields (r : LinkReading) : List Byte :=
  let l := ofRule 40
  codeField r.state.code ++ optField (numField l 0) r.sinceAccepted ++ optField Pose.fields r.lastPose ++
  numField l 1 r.invalidStreak ++ optField (fun q => codeField q.code) r.lastInvalid ++
  optField (numField l 2) r.lastSentGeneration ++ numField l 3 r.notices ++ flagField r.stepWaits ++
  ackFields r.lastAck r.ackCount

/-- A travel with its unbounded flag (R52, R54). -/
def travelField (l : Config.Layout) (field travel : Nat) : List Byte :=
  numField l field travel ++ flagField (travel == 32768)

/-- A walk: boundary and distance, or absent (R52). -/
def walkField (l : Config.Layout) (field : Nat) (w : Option Walk) : List Byte :=
  optField (fun w => numField l field w.boundary ++ numField l (field + 1) w.distance) w

/-- The limit frame within a computation record, which R52 has without its generation, in the order of section 2.6. No rule
gives its form there: the model sends each limit bearing as R192 sends an optional field, a presence byte and the bearing
when present, and not R194's one presence byte of bits with a bearing of 0 when absent (DESIGN CHOICE, log 86). -/
def LimitFrame.fields (f : LimitFrame) : List Byte :=
  let l := ofRule 32
  codeField f.mode.code ++ optField (numField l 0) f.cwLimit ++ optField (numField l 1) f.ccwLimit ++
  numField l 2 f.cwCap ++ numField l 3 f.ccwCap ++ numField l 4 f.outLimit ++ numField l 5 f.inLimit ++
  numField l 6 f.outCap ++ numField l 7 f.inCap ++ codeField f.hoist.code ++ flagField f.brakeRelease

/-- The computation record, in the order of R52's table. R55 has the record show the gust used, where R52's table has no row
for it: the model sends it in every record, after the pose (DESIGN CHOICE, log 70). -/
def Computation.fields (k : Computation) : List Byte :=
  let l := ofRule 52
  numField l 0 k.sequence ++ numField l 1 k.poseAt ++ numField l 2 k.gustUsed ++
  travelField l 3 k.cwTravel ++ travelField l 4 k.ccwTravel ++ numField l 5 k.cwStop ++ numField l 6 k.ccwStop ++
  numField l 7 k.outTravel ++ numField l 8 k.inTravel ++ numField l 9 k.outRadius ++ numField l 10 k.inRadius ++
  numField l 11 k.spanFirst.val ++ numField l 12 k.spanCount ++ numField l 13 k.bandFirst.val ++
  numField l 14 k.bandLast.val ++ numField l 15 k.structureReach ++ numField l 16 k.structureBand.val ++
  zoneSetField l 18 k.occupancy ++ optField (cellField l 19) k.intrusion ++ flagField k.overload ++
  walkField l 21 k.cwWalk ++ walkField l 23 k.ccwWalk ++ walkField l 25 k.outWalk ++ walkField l 27 k.inWalk ++
  codeField k.cwDecision.code ++ codeField k.ccwDecision.code ++ codeField k.outDecision.code ++
  codeField k.inDecision.code ++ zoneSetField l 29 k.transit ++ k.frame.fields

/-- The mode of the frame in force, computed 0 or link-made 1 (R187). A configured crane has one (R33). -/
def FrameInForce.fields (f : FrameInForce) : List Byte := codeField f.mode.code ++ codeField (if f.computed then 0 else 1)

/-- READ_CRANE of a configured slot (R187), the configured flag first. -/
def CraneReading.fields (r : CraneReading) : List Byte :=
  let l := ofRule 187
  flagField true ++ flagField r.excluded ++ r.record.fields ++ codeField r.state.code ++ r.link.fields ++
  optField Computation.fields r.computation ++ (r.modeInForce.map FrameInForce.fields).getD [] ++
  zoneSetField l 0 r.occupancy ++ zoneSetField l 1 r.reach ++ zoneSetField l 2 r.evict ++ zoneSetField l 3 r.transit ++
  flagField r.recovery ++ flagField r.latch ++ flagField r.stormBlocked ++
  listField (fun h => numField l 4 h.1.val ++ codeField h.2.code) r.holds

/-- READ_CRANE of an unconfigured slot: configured no and nothing else (R187). -/
def unconfiguredFields : List Byte := flagField false

/-- A claim of READ_ZONE: id, kind, booking and stamp. R103 gives these of the holder's claim; that a co-claim and the
reserved-for claim are sent with the same four fields is the model's choice (DESIGN CHOICE, log 80). -/
def ClaimReading.fields (l : Config.Layout) (field : Nat) (r : ClaimReading) : List Byte :=
  numField l field r.id ++ codeField r.kind.code ++ optField (numField l (field + 1)) r.booking ++
  numField l (field + 2) r.stamp

/-- An entry of a waiting list: claim id, crane or CLOSURE, kind, rank, priority and stamp (R103), and then two marks of one
byte each, passed over and storm-blocked: R103 speaks of a mark and gives no form for it (DESIGN CHOICE, log 80). -/
def EntryReading.fields (l : Config.Layout) (field : Nat) (r : EntryReading) : List Byte :=
  numField l field r.claim.id ++ optField (fun c => numField l (field + 1) c.val) r.claim.crane ++
  codeField r.claim.kind.code ++ numField l (field + 2) r.claim.rank ++ numField l (field + 3) r.claim.priority ++
  numField l (field + 4) r.claim.stamp ++ flagField r.passedOver ++ flagField r.stormBlocked

/-- The status of a zone: FREE, HELD or CLOSED (R80). -/
def ZoneReading.status (r : ZoneReading) : Nat := if r.closed then 2 else if r.holder.isSome then 1 else 0

/-- READ_ZONE (R103). The fields of the co-claims and of the reserved-for claim, and the marks of the entries, are the
model's (DESIGN CHOICE, log 80), and so is the order of the co-claims (DESIGN CHOICE, log 84). -/
def ZoneReading.fields (r : ZoneReading) : List Byte :=
  let l := ofRule 103
  codeField r.kind.code ++ listField (fun c => numField l 0 c.val) r.members ++ codeField r.status ++
  optField (fun h => numField l 1 h.1.val ++ h.2.fields l 2) r.holder ++
  listField (fun k => k.fields l 5) r.coClaims ++ flagField r.conversionPending ++
  optField (fun d => flagField d.1 ++ numField l 8 d.2.elapsed ++ flagField d.2.running) r.dwell ++
  optField flagField r.evicting ++ listField (fun c => numField l 9 c.val) r.evictees ++
  optField (fun k => k.fields l 10) r.reservedFor ++ listField (fun e => e.fields l 13) r.waiting

/-- An outcome: its code, with the cause of CLAIM_LOST, and its step index (R125). -/
def BookingOutcome.fields (l : Config.Layout) (field : Nat) (o : BookingOutcome) : List Byte :=
  codeField o.code.code ++
  (match o.code with
    | .claimLost cause => codeField cause.code
    | _ => []) ++ optField (numField l field) o.step

/-- A saved context (R125). -/
def SavedContext.fields (l : Config.Layout) (field : Nat) (x : SavedContext) : List Byte :=
  numField l field x.step ++ codeField x.phase.code ++ numField l (field + 1) x.repeatCounter ++
  numField l (field + 2) x.loopStart ++ optField (numField l (field + 3)) x.hold ++ optField (numField l (field + 4)) x.wait

/-- READ_BOOKING: the fields of R125 in the order of its table, and the running step index and phase (R141). -/
def BookingReading.fields (r : BookingReading) : List Byte :=
  let l := ofRule 125
  let b := r.booking
  numField l 0 b.number ++ numField l 1 b.crane.val ++ codeField b.kind.code ++ numField l 2 b.start ++
  numField l 3 b.finish ++ numField l 4 b.priority ++ numField l 5 b.mass ++ optField (numField l 6) b.windLimit ++
  numField l 7 b.pick.sector.val ++ numField l 8 b.pick.band.val ++ numField l 9 b.set.sector.val ++
  numField l 10 b.set.band.val ++ numField l 11 b.plan.val ++ optField (numField l 12) b.repeatOverride ++
  flagField b.stepMode ++ codeField b.state.code ++ flagField b.startReached ++ flagField b.windowEnded ++
  optField (fun o => o.fields l 13) b.outcome ++ optField (fun x => x.fields l 14) b.saved ++
  optField (numField l 19) b.returnsTo ++ numField l 20 b.contention ++
  optField (fun x => numField l 21 x.1 ++ codeField x.2.code) r.running

/-- A set of suspension reasons: WIND 0, FAULT 1, OPERATOR 2 (section 8.2). -/
def Reasons.fields (r : Reasons) : List Byte :=
  listField codeField ((if r.wind then [0] else []) ++ (if r.fault then [1] else []) ++ (if r.operator then [2] else []))

/-- READ_CHANNEL: the fields of section 8.2, the current booking with its kind and plan number, and the interrupted booking
with its saved step index and phase (R162). -/
def ChannelReading.fields (r : ChannelReading) : List Byte :=
  let l := ofRule 162
  let ch := r.record
  codeField r.state.code ++
  optField (fun n => numField l 0 n ++
    ((r.current.map fun k => codeField k.1.code ++ numField l 1 k.2.val).getD []) ++
    numField l 2 ch.step ++ codeField ch.phase.code) ch.booking ++
  numField l 3 ch.repeatCounter ++ numField l 4 ch.loopStart ++ optField (numField l 5) ch.hold ++
  optField (numField l 6) ch.wait ++
  optField (fun k => optField (numField l 7) r.claimId ++ codeField k.code) ch.claim ++
  flagField ch.paused ++ ch.reasons.fields ++ flagField ch.stepMode ++ optField (numField l 8) ch.calmFrom ++
  optField (fun x => numField l 9 x.1.val ++ codeField x.2.code) ch.interruptedLoss ++
  optField (fun x => numField l 10 x.1 ++ numField l 11 x.2.1 ++ codeField x.2.2.code) r.interrupted

/-- The lender named for a BORROWED source (R109). -/
def WindSource.lender? : WindSource → Option Slot
  | .borrowed c => some c
  | .own | .unknown => none

/-- READ_WIND (R122). The substate of a zone is CLEAR 0 or EVICTING 1 (R80). The ten buckets go without a count byte
(log 60), and a BORROWED source is its code followed by its lender, without a presence byte (log 54). -/
def WindReading.fields (r : WindReading) : List Byte :=
  let l := ofRule 122
  listField (numField l 0) r.ring ++ r.buckets.flatMap (fun b => numField l 1 b.sum ++ numField l 2 b.count) ++
  codeField r.sensor.code ++ numField l 3 r.missing ++ numField l 4 r.recovering ++
  optField (numField l 5) r.ownGust ++ optField (numField l 6) r.ownMean ++
  optField (numField l 7) r.gust ++ optField (numField l 8) r.mean ++ codeField r.source.kind ++
  ((r.source.lender?.map fun c => numField l 9 c.val).getD []) ++
  codeField r.own.code ++ codeField r.declaration.code ++ codeField r.effective.code ++
  optField (fun t => codeField t.1.code ++ numField l 10 t.2) r.calmDown ++ optField (numField l 11) r.stormAfterHold ++
  optField (numField l 12) r.channelCalm ++ codeField r.phase.code ++ flagField r.exitPending ++
  listField (fun x => numField l 13 x.1.val ++ codeField x.2.1.code ++ optField flagField x.2.2) r.record ++
  flagField r.stormBlocked ++ numField l 14 r.intoBucket

/-- A context record, in the order of section 9.1. Bearing, radius and load have one presence byte together, and so have the
way and the uptime at which the context ended (DESIGN CHOICE, log 66). -/
def FaultContext.fields (x : FaultContext) : List Byte :=
  let l := ofRule 178
  codeField (causeCode x.cause) ++ numField l 0 x.raisedAt ++ codeField x.previous.code ++
  optField (fun p => numField l 1 p.1 ++ numField l 2 p.2.1 ++ numField l 3 p.2.2) x.pose ++
  optField (cellField l 4) x.intrusionCell ++ codeField x.channelState.code ++ optField (numField l 6) x.channelBooking ++
  optField (numField l 7) x.channelStep ++ flagField x.eStopFlag ++ flagField x.linkLostFlag ++
  optField (fun e => codeField e.1.code ++ numField l 8 e.2) x.ended

/-- A recovery check: clear 0, or 1 and the first cell not permitted (R64, R178). -/
def RecoveryCheck.fields : RecoveryCheck → List Byte
  | .clear => codeField 0
  | .cell p => codeField 1 ++ cellField (ofRule 64) 0 p

/-- A CRANE(c) report: READ_CRANE's values, and after them the fault context and the lockout context (R178, R187; their place
is the model's, DESIGN CHOICE, log 50). -/
def CraneReport.fields (r : CraneReport) : List Byte :=
  r.reading.fields ++ optField FaultContext.fields r.faultContext ++ optField FaultContext.fields r.lockoutContext

/-- READ_FAULT (R178). The e-stop field is ENGAGED 0 or RELEASED 1 (section 9.1). -/
def FaultReading.fields (r : FaultReading) : List Byte :=
  codeField r.status.state.code ++ optField (fun f => codeField (causeCode f.cause)) r.status.fault ++
  optField (fun f => flagField f.unjoined) r.status.fault ++ optField (fun f => flagField f.conditionMet) r.status.fault ++
  codeField (if r.status.eStop then 0 else 1) ++ flagField r.causeAutoClears ++ flagField r.recovery ++
  optField RecoveryCheck.fields r.status.check ++ optField FaultContext.fields r.status.faultContext ++
  optField FaultContext.fields r.status.lockoutContext

/-! ## Replies and reports -/

/-- The fields of a reply (section 10.3, and the details of R14, R100, R128, R143). IDENTIFY's capacities go without a count
byte (log 60). -/
def ReplyBody.fields : ReplyBody → List Byte
  | .empty => []
  | .identity vendor part revision cause mode valid capacities =>
    let l := ofRule 184
    numField l 0 vendor ++ numField l 1 part ++ numField l 2 revision ++ codeField cause.code ++ codeField mode.code ++
    flagField valid ++ capacities.flatMap (numField l 3)
  | .clock r => r.fields
  | .missing c item => numField (ofRule 14) 0 c.val ++ codeField item.code
  | .edge c i => numField (ofRule 14) 0 c.val ++ numField (ofRule 14) 1 i
  | .chartBand c b => numField (ofRule 14) 0 c.val ++ numField (ofRule 14) 2 b
  | .zoneNamed z => numField (ofRule 14) 3 z.val
  | .planVerdict failure =>
    codeField (if failure.isSome then 1 else 0) ++
    optField (fun f => codeField f.check.code ++ numField (ofRule 143) 0 f.step) failure
  | .booked n k => numField (ofRule 128) 0 n ++ numField (ofRule 128) 1 k
  | .closure holder =>
    codeField (if holder.isSome then 1 else 0) ++ optField (fun c => numField (ofRule 100) 0 c.val) holder
  | .relayed queued skipped =>
    listField (fun c => numField (ofRule 186) 0 c.val) queued ++
    listField (fun x => numField (ofRule 186) 1 x.1.val ++ codeField x.2.code) skipped
  | .craneUnconfigured => unconfiguredFields
  | .crane r => r.fields
  | .zone r => r.fields
  | .booking r => r.fields
  | .channel r => r.fields
  | .wind r => r.fields
  | .fault r => r.fields
  | .errors flags => listField codeField ((List.range 16).filter fun n => flags.any fun f => f.code == n)

/-- The snapshot of a report (section 10.4). A key of a booking that has left the table does not stand in the list (R188),
so its absent snapshot is not sent. -/
def Snapshot.fields : Snapshot → List Byte
  | .crane r => (r.map CraneReport.fields).getD unconfiguredFields
  | .wind r => r.fields
  | .zone r => r.fields
  | .booking r => (r.map BookingReading.fields).getD []
  | .channel r => r.fields
  | .cabAck lastAck count => ackFields lastAck count

/-- Kind, tag and fields of a frame the site port sends: kind 128 with the request's tag and kind, the code and the reply's
fields; kind 129 with tag 0, the key's kind, its index in two bytes and the snapshot (R193). -/
def PortOutbound.content : PortOutbound → List Byte
  | .reply r => [128#8, r.tag] ++ bytesOf 1 r.kind ++ bytesOf 1 r.code.value ++ r.body.fields
  | .report key snapshot =>
    [129#8, 0#8] ++ bytesOf 1 (keyKindValue key.kind) ++ bytesOf 2 key.index ++ snapshot.fields

/-- The bytes the site transmitter puts on the line for what it sends (R193). -/
def PortOutbound.lineBytes (f : PortOutbound) : List Byte := siteFrame f.content

end Sys2Proof.Machine
end

