-- ==== Sys2Proof/Machine/Requests.lean ====
section
/-! DEFINITION. The checks and effects of each request, as its owning chapter states them: a request takes a state to a
state and an answer. LEAVE_SURVEY and RESET, which stay in progress, are also here; Sys2Proof/Machine/SitePort.lean takes
requests and places their replies. -/

namespace Sys2Proof.Machine

/-- The answer of a request: a reply code and the reply's fields (R182). -/
structure Answer where
  code : ReplyCode
  body : ReplyBody
  deriving DecidableEq, Repr

/-- An answer without fields. -/
def codeOnly (code : ReplyCode) : Answer := ⟨code, .empty⟩

/-- OK with reply fields. -/
def okWith (body : ReplyBody) : Answer := ⟨.ok, body⟩

/-- A request on one slot, configured or not: BAD_VALUE out of range, and otherwise what `f` does (section 10.3). -/
def onSlot (n : Nat) (f : Slot → State → State × Answer) (s : State) : State × Answer :=
  match slotOf? n with
  | none => (s, codeOnly .badValue)
  | some c => f c s

/-- A request on one crane slot whose rule answers NOT_CONFIGURED for an unconfigured slot: BAD_VALUE out of range, and
otherwise what `f` does (section 10.3). -/
def onCrane (n : Nat) (f : Slot → State → State × Answer) : State → State × Answer :=
  onSlot n fun c s => if s.configured c then f c s else (s, codeOnly .notConfigured)

/-- A reading of one configured crane slot. -/
def readingOf (n : Nat) (f : State → Slot → ReplyBody) (s : State) : State × Answer :=
  onCrane n (fun c s => (s, okWith (f s c))) s

/-- A request taken in OPERATE alone (section 10.3). -/
def inOperate (f : State → State × Answer) (s : State) : State × Answer :=
  if s.operate then f s else (s, codeOnly .wrongMode)

/-- A request taken in SURVEY alone (section 10.3). -/
def inSurvey (f : State → State × Answer) (s : State) : State × Answer :=
  if s.operate then (s, codeOnly .wrongMode) else f s

/-! ## Site Port -/

/-- What IDENTIFY returns (R184). -/
def State.identity (s : State) : ReplyBody :=
  .identity Config.vendorCode Config.partCode Config.revision s.power.startCause s.geo.mode s.geo.image.isSome
    Config.capacities

/-- IDENTIFY (R184). -/
def doIdentify (s : State) : State × Answer := (s, okWith s.identity)

/-- RESET: its site reset follows its reply (R183). -/
def doReset (s : State) : State × Answer :=
  ({ s with port := { s.port with resetProgress := .taken } }, codeOnly .ok)

/-- READ_ERRORS: the flags present are returned and the set emptied (R185). -/
def doReadErrors (s : State) : State × Answer :=
  ({ s with port := { s.port with errors := [] } }, okWith (.errors s.port.errors))

/-- The port with masks replaced and the keys of masked kinds removed (R190). -/
def SitePort.masked (kinds : List KeyKind) (p : SitePort) : SitePort :=
  { p with masks := kinds, reports := p.reports.filter fun k => !kinds.contains k.kind }

/-- SET_REPORT_MASK (R190). Masking BOOKING frees every ended booking (R140). -/
def doSetReportMask (kinds : List KeyKind) (s : State) : State × Answer :=
  let masks := allKinds.filter kinds.contains
  let s1 := { s with port := s.port.masked masks }
  let ended := (s1.bookings.filter fun b => b.state.ended).map (·.number)
  (if masks.contains .booking then forEach ended freeBooking s1 else s1, codeOnly .ok)

/-- Why RELAY skips a crane, the first reason that applies (R186). -/
def State.relaySkip? (s : State) (c : Slot) : Option SkipReason :=
  if (s.slotOf c).excluded then some .offline
  else if (s.link c).state != .live then some .notLive
  else if Config.noticeCapacity ≤ (s.link c).notices.length then some .queueFull
  else none

/-- One crane of a RELAY: its notice is queued, or it is skipped (R36, R186). -/
def relayOne (n : CabNotice) (c : Slot) (r : State × List Slot × List (Slot × SkipReason)) :
    State × List Slot × List (Slot × SkipReason) :=
  match r.1.relaySkip? c with
  | some why => (r.1, r.2.1, r.2.2 ++ [(c, why)])
  | none => (kickCab c (updLink c (fun l => { l with notices := l.notices ++ [n] }) r.1), r.2.1 ++ [c], r.2.2)

/-- The cranes of a RELAY, ascending; an answer when the destination is refused (R186). -/
def State.relayCranes (s : State) (dest : RelayDest) : Except Answer (List Slot) :=
  match dest with
  | .one n => match slotOf? n with
    | none => .error (codeOnly .badValue)
    | some c => if s.configured c then .ok [c] else .error (codeOnly .notConfigured)
  | .all => .ok (allSlots.filter s.configured)
  | .allExcept n => match slotOf? n with
    | none => .error (codeOnly .badValue)
    | some c => .ok (allSlots.filter fun o => s.configured o && o != c)

/-- A character a RELAY text may hold (R186). -/
def relayChar (b : Byte) : Bool := inRange 0x20 0x7E b.toNat

/-- RELAY (R186). -/
def doRelay (dest : RelayDest) (code : Byte) (ack : Bool) (text : List Byte) (s : State) : State × Answer :=
  if 40 < text.length then (s, codeOnly .badLength)
  else if !text.all relayChar then (s, codeOnly .badValue)
  else match s.relayCranes dest with
    | .error a => (s, a)
    | .ok cranes =>
      let r := cranes.foldl (fun r c => relayOne (.text code ack text) c r) (s, [], [])
      (r.1, okWith (.relayed r.2.1 r.2.2))

/-! ## Site Clock -/

/-- A minute event reaches the Booking Table, and start gating follows for every crane (R43, R129). -/
def deliverMinute (p : Option Nat) (n : Nat) (s : State) : State :=
  forEach allSlots gateAndRun (minuteToBookings p n s)

/-- The minute operand of SET_CLOCK is not refused by the backward test (R45). -/
def State.minuteAccepted (s : State) (m : Nat) : Bool :=
  match s.clock.minute with
  | none => true
  | some k => decide (k ≤ m + 10)

/-- The minute operand of a taken SET_CLOCK (R45). -/
def setMinute (m : Nat) (s : State) : State :=
  let old := s.clock.minute
  let s1 := { s with clock := { s.clock with minute := some m, minutePhase := some s.now } }
  match old with
  | none => deliverMinute none m s1
  | some k => if k < m then deliverMinute (some k) m s1 else s1

/-- The prescaler operand of a taken SET_CLOCK (R47). -/
def setPrescaler (p : Nat) (s : State) : State := { s with clock := { s.clock with prescaler := p } }

/-- SET_CLOCK (R44). -/
def doSetClock (minute prescaler : Option Nat) (s : State) : State × Answer :=
  let minuteBad := match minute with
    | some m => decide (Config.maxMinute < m) || !s.minuteAccepted m
    | none => false
  if (minute.isNone && prescaler.isNone) || minuteBad || !optionInRange 0 239 prescaler then (s, codeOnly .badValue)
  else
    let s1 := match minute with
      | some m => setMinute m s
      | none => s
    (match prescaler with
      | some p => setPrescaler p s1
      | none => s1, codeOnly .ok)

/-- READ_CLOCK (R48). -/
def doReadClock (s : State) : State × Answer := (s, okWith (.clock s.readClock))

/-! ## Geometry Store -/

/-- ENTER_SURVEY (R12). The cranes whose effective wind state is read are those of configured slots, excluded ones included:
R12 says "any crane", and whether an unconfigured slot, whose effective state follows the declaration (log 43), counts as one
is not said (DESIGN CHOICE, log 81). -/
def doEnterSurvey (s : State) : State × Answer :=
  inOperate (fun s =>
    if (s.bookings.any fun b => b.state == .running || b.state == .interrupted) ||
        allSlots.any fun c => s.configured c && s.effective c == .storm then (s, codeOnly .badState)
    else (enterSurvey s, codeOnly .ok)) s

/-- LEAVE_SURVEY (R13 to R15): an answer when it ends at once, and none when the exit is in flight with its image being
written. -/
def doLeaveSurvey (s : State) : State × Option Answer :=
  if s.operate then (s, some (codeOnly .wrongMode))
  else match validateGeometry s with
    | some (code, body) => (s, some ⟨code, body⟩)
    | none => (beginExitWrite s, none)

/-- LOAD_CRANE (R1, R2). -/
def doLoadCrane (n : Nat) (fields : Option CraneFields) (s : State) : State × Answer :=
  inSurvey (fun s =>
    match slotOf? n with
    | none => (s, codeOnly .badValue)
    | some c =>
      match fields with
      | none => (if s.configured c then unconfigureSlot c s else s, codeOnly .ok)
      | some f =>
        match craneRecordOf? f with
        | none => (s, codeOnly .badValue)
        | some r =>
          (if s.configured c then s.putSlot c { s.slotOf c with record := some r } else configureSlot c r s, codeOnly .ok)) s

/-- LOAD_CELLS (R7). -/
def doLoadCells (n : Nat) (t : CellTable) (first count : Nat) (classes : List Byte) (s : State) : State × Answer :=
  inSurvey (onCrane n fun c s =>
    if !(inRange 0 127 first && inRange 1 128 count && decide (first + count ≤ 128)) then (s, codeOnly .badValue)
    else if classes.length ≠ count * classesPerSector t then (s, codeOnly .badLength)
    else match cellsOf? t classes with
      | none => (s, codeOnly .badValue)
      | some cells => (s.putSlot c ((s.slotOf c).writeCells t first count cells), codeOnly .ok)) s

/-- LOAD_CHART (R5). An unconfigured slot is judged before the capacities, an order R5 leaves open (DESIGN CHOICE,
log 45). -/
def doLoadChart (n : Nat) (capacities : Vector Nat 8) (s : State) : State × Answer :=
  inSurvey (onCrane n fun c s =>
    if capacities.toList.all (inRange 0 65000) then
      (s.putSlot c { s.slotOf c with chart := some capacities }, codeOnly .ok)
    else (s, codeOnly .badValue)) s

/-- LOAD_PROFILE (R9, R114). -/
def doLoadProfile (p : SiteProfile) (s : State) : State × Answer :=
  inSurvey (fun s =>
    if profileInRange p then
      (profileTimers s.profile { s with geo := { s.geo with profile := canonicalProfile p } }, codeOnly .ok)
    else (s, codeOnly .badValue)) s

/-- REMOVE_CRANE (R19). -/
def doRemoveCrane (n : Nat) (s : State) : State × Answer :=
  onCrane n (fun c s => if (s.slotOf c).excluded then (s, codeOnly .badState) else (removeCrane c s, codeOnly .ok)) s

/-- ADMIT_CRANE (R20). -/
def doAdmitCrane (n : Nat) (s : State) : State × Answer :=
  onCrane n (fun c s => if (s.slotOf c).excluded then (admitCrane c s, codeOnly .ok) else (s, codeOnly .badState)) s

/-! ## Plan Store and Booking Table -/

/-- LOAD_PLAN (R143). -/
def doLoadPlan (n : Nat) (fields : List StepField) (s : State) : State × Answer :=
  if h : n < 32 then
    if !inRange 1 24 fields.length then (s, codeOnly .badLength)
    else match badStepField? fields with
      | some code => (s, codeOnly code)
      | none =>
        if s.planInUse ⟨n, h⟩ then (s, codeOnly .inUse)
        else (s.storePlan ⟨n, h⟩ (stepsOf fields), okWith (.planVerdict (s.verify (stepsOf fields))))
  else (s, codeOnly .badValue)

/-- A booking that has not ended. -/
def Booking.open (b : Booking) : Bool := !b.state.ended

/-- Two windows overlap: each starts before the other ends (R127). -/
def windowsOverlap (a b : Booking) : Bool := decide (a.start < b.finish) && decide (b.start < a.finish)

/-- The zones the CLAIM steps of a booking's plan name. -/
def State.claimedBy (s : State) (b : Booking) : List ZoneId :=
  match s.plan? b.plan with
  | some p => planClaims p.steps
  | none => []

/-- The contention count of a new booking (R128). -/
def State.contention (s : State) (b : Booking) : Nat :=
  (s.bookings.filter fun o => o.number != b.number && o.open && windowsOverlap o b &&
    (s.claimedBy o).any fun z => (s.claimedBy b).contains z).length

/-- The kind's combination fails (R126): the reply code. `now` is the site minute. A start after now is judged before the
further condition, between which R126 gives no order (DESIGN CHOICE, log 74). -/
def State.badCombination? (s : State) (b : Booking) (now : Nat) : Option ReplyCode :=
  let mine := s.bookingsOf b.crane
  match b.kind with
  | .normal => none
  | .service => if b.mass = 0 ∧ b.windLimit = none then none else some .badCombination
  | .urgent =>
    if now < b.start then some .badCombination
    else if mine.any fun o => (o.kind == .urgent) &&
        (o.state == .ready || (o.state == .running && o.returnsTo.isSome)) then some .nestDepth
    else none
  | .supersede =>
    if now < b.start then some .badCombination
    else match mine.find? fun o => o.state == .running with
      | none => some .nothingToSupersede
      | some o => if o.returnsTo.isSome then some .nestDepth else none

/-- The mass is above the chart capacity of a band. While the chart is absent, which only SURVEY admits, whether the
check passes is a free value (log 7). -/
def State.overChart (s : State) (b : Booking) (now : Nat) : Bool :=
  match (s.slotOf b.crane).chart with
  | some _ =>
    decide ((s.slotOf b.crane).capacity b.pick.band < b.mass) || decide ((s.slotOf b.crane).capacity b.set.band < b.mass)
  | none => !Config.chartAbsentPasses b.number now

/-- The plan of a booking is loaded and VALID (R127). -/
def State.planValid (s : State) (b : Booking) : Bool :=
  match s.plan? b.plan with
  | some p => p.failure.isNone
  | none => false

/-- Admission checks 3 to 10 of R127 with the site minute: the reply code of the first that fails. -/
def State.refuseBooking? (s : State) (b : Booking) (now : Nat) : Option ReplyCode :=
  if !s.configured b.crane then some .notConfigured
  else if s.heldBack b.crane then some .badState
  else match s.badCombination? b now with
    | some code => some code
    | none =>
      if !(decide (b.start < b.finish) && decide (now < b.finish) && decide (b.finish - b.start ≤ 720)) then
        some .windowInvalid
      else if !s.planValid b then some .planInvalid
      else if s.operate && !(s.claimedBy b).all (s.member b.crane) then some .notMember
      else if s.overChart b now then some .overChart
      else if (b.kind == .normal || b.kind == .service) &&
          (s.bookingsOf b.crane).any (fun o => o.open && windowsOverlap o b) then some .overlap
      else if Config.bookingCapacity ≤ s.bookings.length then some .tableFull
      else none

/-- The record a BOOK stores, before the effects of its kind (R128). -/
def admitted (b : Booking) (now contention : Nat) : Booking :=
  let reached := b.kind == .urgent || b.kind == .supersede || decide (b.start ≤ now)
  { b with state := if reached then .ready else .pending, startReached := reached, contention := contention }

/-- What the kind of an admitted booking does in the same event: gating, urgent start or supersession (R128). -/
def admissionEffect (b : Booking) (s : State) : State :=
  match b.kind with
  | .normal | .service => if b.startReached then gateAndRun b.crane s else s
  | .urgent =>
    if s.operate && (s.crane b.crane).state == .inService then gateAndRun b.crane s else s
  | .supersede => runNew b.crane s (supersede b.crane b.number s)

/-- BOOK (R127, R128). -/
def doBook (f : BookFields) (s : State) : State × Answer :=
  match bookingOf? f with
  | none => (s, codeOnly .badValue)
  | some b =>
    if b.number = 0 then (s, codeOnly .badValue)
    else if (s.booking? b.number).isSome then (s, codeOnly .inUse)
    else match s.clock.minute with
      | none => (s, codeOnly .clockUnset)
      | some now =>
        match s.refuseBooking? b now with
        | some code => (s, codeOnly code)
        | none =>
          let k := s.contention b
          let stored := admitted b now k
          let s1 := mark (.booking b.number) { s with bookings := s.bookings ++ [stored] }
          (admissionEffect stored s1, okWith (.booked b.number k))

/-- CANCEL (R137). -/
def doCancel (n : Nat) (s : State) : State × Answer :=
  match s.booking? n with
  | none => (s, codeOnly .notFound)
  | some b =>
    if b.state.ended then (s, codeOnly .badState) else (runNew b.crane s (cancelBooking b s), codeOnly .ok)

/-! ## Lift Channels -/

/-- SUSPEND_CHANNEL (R158). -/
def doSuspendChannel (n : Nat) (s : State) : State × Answer :=
  onCrane n (fun c s =>
    if (s.channel c).reasons.operator then (s, codeOnly .badState)
    else (addReason c (fun r => { r with operator := true }) s, codeOnly .ok)) s

/-- RESUME_CHANNEL (R158). -/
def doResumeChannel (n : Nat) (s : State) : State × Answer :=
  onCrane n (fun c s =>
    if (s.channel c).reasons.operator then (removeReason c (fun r => { r with operator := false }) s, codeOnly .ok)
    else (s, codeOnly .badState)) s

/-- STEP_MODE (R161). -/
def doStepMode (n : Nat) (on : Bool) (s : State) : State × Answer :=
  onCrane n (fun c s =>
    if (s.channel c).booking.isNone then (s, codeOnly .badState)
    else (updChannel c (fun ch => { ch with stepMode := on }) s, codeOnly .ok)) s

/-- CONTINUE (R161): BAD_STATE on every channel not in STEP_PAUSE, the IDLE one of an unconfigured slot (R163) among them. -/
def doContinue (n : Nat) (s : State) : State × Answer :=
  onSlot n (fun c s =>
    if (s.channel c).state == .stepPause then (liftPause c s, codeOnly .ok) else (s, codeOnly .badState)) s

/-! ## Zone Arbiter -/

/-- A request on one zone in OPERATE. -/
def onZone (n : Nat) (f : ZoneId → State → State × Answer) (s : State) : State × Answer :=
  inOperate (fun s => match zoneOf? n with
    | none => (s, codeOnly .badValue)
    | some z => f z s) s

/-- The status CLOSE_ZONE returns: CLOSED, or WAITING with the holder shown (R100). -/
def State.closureStatus (s : State) (z : ZoneId) : ReplyBody :=
  match (s.zone z).holding with
  | .held c _ => .closure (some c)
  | _ => .closure none

/-- CLOSE_ZONE (R100). -/
def doCloseZone (n : Nat) (s : State) : State × Answer :=
  onZone n (fun z s =>
    match (s.entry z).kind with
    | .unused => (s, codeOnly .notFound)
    | .structural => (s, codeOnly .structuralZone)
    | .hook =>
      if (s.zone z).holding == .closed || s.closureWaits z then (s, codeOnly .badState)
      else
        let s1 := closeTheZone z s
        (s1, okWith (s1.closureStatus z))) s

/-- OPEN_ZONE (R101). -/
def doOpenZone (n : Nat) (s : State) : State × Answer :=
  onZone n (fun z s =>
    if (s.zone z).holding == .closed then (openTheZone z s, codeOnly .ok)
    else if s.closureWaits z then (withdrawClosure z s, codeOnly .ok)
    else (s, codeOnly .badState)) s

/-- FORCE_RELEASE is refused: the zone is not HELD, or it is held by a STORM claim whose crane's release latch is set
(R102). -/
def State.forceRefused (s : State) (z : ZoneId) : Bool :=
  match (s.zone z).holding with
  | .held _ (.storm c) => (s.engine c).latch
  | .held _ _ => false
  | .free | .closed => true

/-- FORCE_RELEASE (R102). -/
def doForceRelease (n : Nat) (s : State) : State × Answer :=
  onZone n (fun z s => if s.forceRefused z then (s, codeOnly .badState) else (forceFree z s, codeOnly .ok)) s

/-- READ_ZONE (R103). -/
def doReadZone (n : Nat) (s : State) : State × Answer :=
  match zoneOf? n with
  | none => (s, codeOnly .badValue)
  | some z => (s, okWith (.zone (s.readZone z)))

/-! ## Wind Monitor -/

/-- DECLARE_WIND (R115). -/
def doDeclareWind (level : Nat) (s : State) : State × Answer :=
  match WindLevel.ofCode? level with
  | none => (s, codeOnly .badValue)
  | some l => (declare l s, codeOnly .ok)

/-! ## Crane State -/

/-- CLEAR_FAULT (R174). In SURVEY it also clears an OVERLOAD or LINK_LOST fault whose condition was met at survey entry,
where R177 would have such a fault stay until the exit (DESIGN CHOICE, log 55). -/
def doClearFault (n : Nat) (s : State) : State × Answer :=
  onCrane n (fun c s =>
    match (s.crane c).fault with
    | none => (s, codeOnly .badState)
    | some f =>
      if f.cause == .intrusion || s.flagStands c || !f.conditionMet then (s, codeOnly .badState)
      else (clearTheFault c .clearFault .outside s, codeOnly .ok)) s

/-- The crane is in a state that RECOVER takes: FAULT(INTRUSION) or LOCKOUT (R175). -/
def State.recoverable (s : State) (c : Slot) : Bool :=
  (s.crane c).state == .lockout || s.activeCause? c == some .intrusion

/-- RECOVER (R175): slot and configuration are judged before the mode. -/
def doRecover (n : Nat) (s : State) : State × Answer :=
  onCrane n (fun c s => inOperate (fun s =>
    if s.recoverable c && !(s.engine c).recovery then (setRecovery c true s, codeOnly .ok) else (s, codeOnly .badState)) s) s

/-- The crane may leave LOCKOUT: its link LIVE with a pose, its stop released, its load below the empty-load threshold and
its motion 0 (R176). -/
def State.mayLeaveLockout (s : State) (c : Slot) : Bool :=
  (s.crane c).state == .lockout && (s.link c).state == .live && !(s.crane c).eStop &&
    match (s.link c).lastPose with
    | some p => decide (p.load < s.profile.emptyLoad) && p.slewRate == 0 && p.radialSpeed == 0
    | none => false

/-- The effects of CLEAR_LOCKOUT, CRANE(c) being marked last, but for the recovery flag's own mark (R78, R176). -/
def leaveLockout (c : Slot) (s : State) : State :=
  let s1 := modCrane c (fun x =>
    { x with
      lockoutContext := x.lockoutContext.map (·.endIn .clearLockout s.now)
      state := .joining }) s
  let s2 := removeReason c (fun r => { r with fault := false }) (setRecovery c false s1)
  mark (.crane c) (placeLinkMade c (letForward c s2))

/-- CLEAR_LOCKOUT (R176): slot and configuration are judged before the mode. -/
def doClearLockout (n : Nat) (s : State) : State × Answer :=
  onCrane n (fun c s => inOperate (fun s =>
    if s.mayLeaveLockout c then (leaveLockout c s, codeOnly .ok) else (s, codeOnly .badState)) s) s

/-! ## Readings -/

/-- READ_CRANE (R187). -/
def doReadCrane (n : Nat) (s : State) : State × Answer :=
  onSlot n (fun c s =>
    match s.readCrane c with
    | some r => (s, okWith (.crane r))
    | none => (s, okWith .craneUnconfigured)) s

/-- READ_BOOKING (R141). -/
def doReadBooking (n : Nat) (s : State) : State × Answer :=
  match s.readBooking n with
  | some r => (s, okWith (.booking r))
  | none => (s, codeOnly .notFound)

/-- READ_CHANNEL (R162). -/
def doReadChannel (n : Nat) (s : State) : State × Answer := readingOf n (fun s c => .channel (s.readChannel c)) s

/-- READ_WIND (R122). -/
def doReadWind (n : Nat) (s : State) : State × Answer := readingOf n (fun s c => .wind (s.readWind c)) s

/-- READ_FAULT (R178). -/
def doReadFault (n : Nat) (s : State) : State × Answer := readingOf n (fun s c => .fault (s.readFault c)) s

end Sys2Proof.Machine
end

