-- ==== Sys2Proof/Machine/Scan.lean ====
section
/-! DEFINITION. Reading the fields of a request frame (R181 step 2, R192): the order of the fields is that of the rule that
owns the request, counts, presence bytes and one-byte values are R192's, and the widths of whole numbers are free values
(log 4). -/

namespace Sys2Proof.Machine

/-! ## Reading fields -/

/-- What is left of a request's fields, and whether a one-byte value outside its list has been read. -/
structure Scan where
  bytes : List Byte
  bad : Bool
  deriving DecidableEq, Repr

/-- A reading of fields; none when they do not fit the layout. -/
abbrev Reader (α : Type) : Type := Scan → Option (α × Scan)

/-- Reads nothing. -/
def Reader.pure {α : Type} (a : α) : Reader α := fun x => some (a, x)

/-- Reads one thing after another. -/
def Reader.bind {α β : Type} (r : Reader α) (f : α → Reader β) : Reader β := fun x =>
  match r x with
  | none => none
  | some (a, x1) => f a x1

/-- Reads a thing and makes another of it. -/
def Reader.map {α β : Type} (f : α → β) (r : Reader α) : Reader β := r.bind fun a => .pure (f a)

/-- The fields do not fit. -/
def Reader.misfit {α : Type} : Reader α := fun _ => none

/-- One byte. -/
def readByte : Reader Byte := fun x =>
  match x.bytes with
  | [] => none
  | b :: bs => some (b, { x with bytes := bs })

/-- So many things in turn. -/
def readMany {α : Type} (r : Reader α) : Nat → Reader (List α)
  | 0 => .pure []
  | n + 1 => r.bind fun a => (readMany r n).map (a :: ·)

/-- A whole number, most significant byte first (R192). -/
def readNum (l : Config.Layout) (field : Nat) : Reader Nat := (readMany readByte (Config.width l field)).map numberOf

/-- The number that a whole number of some bytes stands for in two's complement (R192). -/
def signedOf (bytes n : Nat) : Int := if 2 * n < 256 ^ bytes then n else (n : Int) - (256 ^ bytes : Nat)

/-- A signed number (R192). -/
def readInt (l : Config.Layout) (field : Nat) : Reader Int := (readNum l field).map (signedOf (Config.width l field))

/-- The code of a value named from a list (R192). -/
def readCode : Reader Nat := readByte.map (·.toNat)

/-- A value named from a list, whose codes `f` knows. A code outside the list leaves `other` and is noted. -/
def readNamed {α : Type} (other : α) (f : Nat → Option α) : Reader α :=
  readCode.bind fun n x => match f n with
    | some a => some (a, x)
    | none => some (other, { x with bad := true })

/-- A value that is yes or no, set or clear, on or off: 1 for the first, 0 for the second (DESIGN CHOICE, log 54). -/
def readFlag : Reader Bool :=
  readNamed false fun n => match n with
    | 0 => some false
    | 1 => some true
    | _ => none

/-- A presence byte: 1 or 0; another value does not fit (R181, R192). -/
def readPresence : Reader Bool :=
  readCode.bind fun n => match n with
    | 0 => .pure false
    | 1 => .pure true
    | _ => .misfit

/-- An optional field (R192). -/
def readOpt {α : Type} (r : Reader α) : Reader (Option α) :=
  readPresence.bind fun p => if p then r.map some else .pure none

/-- A list, a set or a text: a count byte and its items (R192). -/
def readList {α : Type} (r : Reader α) : Reader (List α) := readCode.bind (readMany r)

/-- All the bytes that are left. -/
def readRest : Reader (List Byte) := fun x => some (x.bytes, { x with bytes := [] })

/-- A fixed number of like things, read one after another without a count byte: R192 gives lists one, and does not say whether
a group of fixed number is a list (DESIGN CHOICE, log 60). -/
def readVector {α : Type} (other : α) (n : Nat) (r : Reader α) : Reader (Vector α n) :=
  (readMany r n).map fun l => Vector.ofFn fun i => (l[i.val]?).getD other

/-! ## The steps of LOAD_PLAN -/

/-- The set of zone numbers of a CLAIM or RELEASE step. R192 sends a set ascending and names no refusal for one that does
not ascend: the model takes the members as they come (DESIGN CHOICE, log 83). -/
def readZones (l : Config.Layout) (field : Nat) : Reader (List Nat) := readList (readNum l field)

/-- FAIL, or GOTO with a step index (section 8.1). -/
def readTimeout (l : Config.Layout) (field : Nat) : Reader (Option OnTimeout) :=
  readCode.bind fun n => match n with
    | 0 => .pure (some .fail)
    | 1 => (readNum l field).map fun t => some (.goto t)
    | _ => .pure none

/-- The cell of AT_CELL: a cell, PICK or SET (section 8.1). -/
def readCellRef (l : Config.Layout) : Reader (Option CellRef) :=
  readCode.bind fun n => match n with
    | 0 => (readNum l 0).bind fun s => (readNum l 1).map fun b => some (.cell s b)
    | 1 => .pure (some .pick)
    | 2 => .pure (some .set)
    | _ => .pure none

/-- An AWAIT condition (section 8.1). -/
def readAwait (l : Config.Layout) : Reader (Option AwaitCond) :=
  readCode.bind fun n => match n with
    | 0 => (readCellRef l).bind fun c => match c with
      | some c => (readNum l 2).map fun t => some (.atCell c t)
      | none => .pure none
    | 1 => (readNum l 3).map fun x => some (.loadOn x)
    | 2 => (readNum l 4).map fun x => some (.loadOff x)
    | 3 => (readNum l 5).map fun x => some (.hookAbove x)
    | _ => .pure none

/-- A CHECK condition (section 8.1). -/
def readCheck (l : Config.Layout) : Reader (Option CheckCond) :=
  readCode.bind fun n => match n with
    | 0 => .pure (some .windBelowLimit)
    | 1 => .pure (some .stateCalm)
    | 2 => (readNum l 0).map fun x => some (.loadBelow x)
    | 3 => (readNum l 1).map fun z => some (.holding z)
    | 4 => .pure (some .windowOpen)
    | _ => .pure none

/-- The zones of RELEASE: named ones, or ALL (section 8.1). -/
def readRelease (l : Config.Layout) : Reader (Option ReleaseZones) :=
  readCode.bind fun n => match n with
    | 0 => (readZones l 0).map fun zs => some (.named zs)
    | 1 => .pure (some .all)
    | _ => .pure none

/-- A wait limit and an on-timeout, which end the operands of three step kinds (section 8.1). -/
def readWait (l : Config.Layout) (field : Nat) (f : Nat → OnTimeout → PlanStep) : Reader (Option PlanStep) :=
  (readNum l field).bind fun w => (readTimeout l (field + 1)).map fun o => o.map (f w)

/-- The operands of a step of one of the ten kinds, in the order of the step table (section 8.1); none within when a form or
condition they name is not in its list, so that what follows cannot be read. -/
def readStepOf (kind : Nat) : Reader (Option PlanStep) :=
  let l := Config.Layout.step kind
  match kind with
  | 0 => (readZones l 0).bind fun zs => readWait l 1 (.claim zs)
  | 1 => (readAwait l).bind fun c => match c with
    | some c => readWait l 6 (.await c)
    | none => .pure none
  | 2 => (readNum l 0).bind fun k => readWait l 1 (.ack k)
  | 3 => (readNum l 0).bind fun k => (readNum l 1).bind fun p => (readNum l 2).map fun q => some (.notify k p q)
  | 4 => (readNum l 0).map fun n => some (.hold n)
  | 5 => (readNum l 0).map fun n => some (.repeatStep n)
  | 6 => .pure (some .loop)
  | 7 => (readCheck l).bind fun c => match c with
    | some c => (readNum l 2).map fun t => some (.check c t)
    | none => .pure none
  | 8 => (readRelease l).map fun z => z.map .release
  | _ => .pure (some .endStep)

/-- One step of LOAD_PLAN (R143, third check): a step, a step of an unknown kind, or one whose operands do not fit its
kind. -/
def readStep : Reader StepField :=
  readCode.bind fun kind =>
    if kind ≤ 9 then (readStepOf kind).map fun st => match st with
      | some st => .step st
      | none => .misfit kind
    else .pure (.unknownKind kind)

/-- So many steps of LOAD_PLAN. What follows a step that cannot be read cannot be read either: it stands for the rest
(DEDUCED, log 4). -/
def readSteps : Nat → Reader (List StepField)
  | 0 => .pure []
  | n + 1 => readStep.bind fun st => match st with
    | .step _ => (readSteps n).map (st :: ·)
    | _ => readRest.map fun _ => List.replicate (n + 1) st

/-! ## The requests -/

/-- The record of LOAD_CRANE, in the order of R1's table, with the seven band edges as a fixed group (log 60). -/
def readCraneFields : Reader CraneFields :=
  let l := Config.Layout.request 7
  readCode.bind fun kind => (readInt l 1).bind fun east => (readInt l 2).bind fun north =>
  (readNum l 3).bind fun offset => (readNum l 4).bind fun jib => (readNum l 5).bind fun minimum =>
  (readVector 0 7 (readNum l 6)).bind fun edges => (readOpt (readNum l 7)).bind fun tip =>
  (readNum l 8).bind fun maxSlew => (readNum l 9).bind fun slewDecel => (readNum l 10).bind fun reaction =>
  (readNum l 11).bind fun slewMargin => (readNum l 12).bind fun slowBand => (readNum l 13).bind fun lookAhead =>
  (readNum l 14).bind fun drift => (readNum l 15).bind fun maxRadial => (readNum l 16).bind fun radialDecel =>
  (readNum l 17).bind fun radiusMargin => (readNum l 18).map fun radialSlowBand =>
    { kind := kind, baseEast := east, baseNorth := north, bearingOffset := offset, jibLength := jib
      minRadius := minimum, edges := edges, tipOverhang := tip, maxSlewRate := maxSlew, slewDecel := slewDecel
      reactionTime := reaction, slewMargin := slewMargin, slowBand := slowBand, lookAhead := lookAhead
      driftCoeff := drift, maxRadialSpeed := maxRadial, radialDecel := radialDecel, radiusMargin := radiusMargin
      radialSlowBand := radialSlowBand }

/-- A fault cause of the auto-clear set, numbered as section 9.1 lists the causes (DESIGN CHOICE, log 75). -/
def readCause : Reader FaultCause :=
  readNamed .intrusion fun n => match n with
    | 0 => some .intrusion
    | 1 => some .overload
    | 2 => some .poseInvalid
    | 3 => some .linkLost
    | 4 => some .eStop
    | _ => none

/-- The profile of LOAD_PROFILE, in the order of R9's table. The fault auto-clear set is a count byte and so many causes, in
any order and with repeats; R192 says how sets of slots and zones are sent, and not a set of causes (DESIGN CHOICE, log 21).
The report kind mask is a byte as R192's report mask is, with bit i set for a kind that the profile names (log 8), and its
bits 6 and 7 are not read (DESIGN CHOICE, log 10). -/
def readProfile : Reader SiteProfile :=
  let l := Config.Layout.request 10
  (readNum l 0).bind fun slow => (readNum l 1).bind fun creep => (readNum l 2).bind fun empty =>
  (readNum l 3).bind fun parkHeight => (readNum l 4).bind fun parkRadius => (readNum l 5).bind fun watch =>
  (readNum l 6).bind fun hold => (readNum l 7).bind fun holdMean => (readNum l 8).bind fun storm =>
  (readNum l 9).bind fun hysteresis => (readNum l 10).bind fun watchResume => (readNum l 11).bind fun holdResume =>
  (readNum l 12).bind fun stormResume => (readNum l 13).bind fun stormAfter => (readList readCause).bind fun clears =>
  (readNum l 14).bind fun prescaler => readByte.map fun mask =>
    { slowCap := slow, creepCap := creep, emptyLoad := empty, parkHeight := parkHeight, parkRadius := parkRadius
      watchGust := watch, holdGust := hold, holdMean := holdMean, stormGust := storm, hysteresis := hysteresis
      watchResume := watchResume, holdResume := holdResume, stormResume := stormResume, stormAfterHold := stormAfter
      autoClear := clears, prescaler := prescaler, reportKinds := masksOfByte mask }

/-- A cell address of BOOK: sector and band. -/
def readCell (l : Config.Layout) (field : Nat) : Reader CellAddr :=
  (readNum l field).bind fun s => (readNum l (field + 1)).map fun b => ⟨s, b⟩

/-- The operands of BOOK, in the order of R125's table. -/
def readBooking : Reader BookFields :=
  let l := Config.Layout.request 12
  (readNum l 0).bind fun number => (readNum l 1).bind fun crane => readCode.bind fun kind =>
  (readNum l 2).bind fun start => (readNum l 3).bind fun finish => (readNum l 4).bind fun priority =>
  (readNum l 5).bind fun mass => (readOpt (readNum l 6)).bind fun limit => (readCell l 7).bind fun pick =>
  (readCell l 9).bind fun set => (readNum l 11).bind fun plan => (readOpt (readNum l 12)).bind fun again =>
  readFlag.map fun stepMode =>
    { number := number, crane := crane, kind := kind, start := start, finish := finish, priority := priority
      mass := mass, windLimit := limit, pick := pick, set := set, plan := plan, repeatOverride := again
      stepMode := stepMode }

/-- The table of LOAD_CELLS: JIB, TAIL or HOOK (R7). -/
def readTable : Reader CellTable :=
  readNamed .jib fun n => match n with
    | 0 => some .jib
    | 1 => some .tail
    | 2 => some .hook
    | _ => none

/-- The destination of RELAY: ONE(c), ALL or ALL_EXCEPT(c) (R186). A form outside the list does not fit: whether a slot
follows it cannot be told, and what then comes cannot be read (DESIGN CHOICE, log 57). -/
def readDest (l : Config.Layout) : Reader RelayDest :=
  readCode.bind fun n => match n with
    | 0 => (readNum l 0).map .one
    | 1 => .pure .all
    | 2 => (readNum l 1).map .allExcept
    | _ => .misfit

/-- A request of one number. -/
def readOne (kind : Nat) (f : Nat → Request) : Reader Request := (readNum (.request kind) 0).map f

/-- The fields of a request kind, in the order in which its owning rule gives its operands (section 10.3). The classes of
LOAD_CELLS take the rest of the frame, since one count byte cannot count the 1,024 of a whole grid (DEDUCED, log 4). The
configured field of LOAD_CRANE is read as the presence byte of the record that follows it (DESIGN CHOICE, log 58). -/
def requestFields (kind : Nat) : Reader Request :=
  let l := Config.Layout.request kind
  match kind with
  | 1 => .pure .identify
  | 2 => .pure .reset
  | 3 => (readOpt (readNum l 0)).bind fun m => (readOpt (readNum l 1)).map fun p => .setClock m p
  | 4 => .pure .readClock
  | 5 => .pure .enterSurvey
  | 6 => .pure .leaveSurvey
  | 7 => (readNum l 0).bind fun c => (readOpt readCraneFields).map fun f => .loadCrane c f
  | 8 =>
    (readNum l 0).bind fun c => readTable.bind fun t => (readNum l 1).bind fun first => (readNum l 2).bind fun n =>
    readRest.map fun classes => .loadCells c t first n classes
  | 9 => (readNum l 0).bind fun c => (readVector 0 8 (readNum l 1)).map fun v => .loadChart c v
  | 10 => readProfile.map .loadProfile
  | 11 => (readNum l 0).bind fun n => (readCode.bind readSteps).map fun steps => .loadPlan n steps
  | 12 => readBooking.map .book
  | 13 => readOne kind .cancel
  | 14 => readOne kind .suspendChannel
  | 15 => readOne kind .resumeChannel
  | 16 => (readNum l 0).bind fun c => readFlag.map fun on => .stepMode c on
  | 17 => readOne kind .continueStep
  | 18 => readOne kind .closeZone
  | 19 => readOne kind .openZone
  | 20 => readOne kind .forceRelease
  | 21 => readCode.map .declareWind
  | 22 => readOne kind .clearFault
  | 23 => readOne kind .recover
  | 24 => readOne kind .clearLockout
  | 25 => readOne kind .removeCrane
  | 26 => readOne kind .admitCrane
  | 27 =>
    (readDest l).bind fun d => readByte.bind fun code => readFlag.bind fun ack =>
    (readList readByte).map fun text => .relay d code ack text
  | 28 => readOne kind .readCrane
  | 29 => readOne kind .readZone
  | 30 => readOne kind .readBooking
  | 31 => readOne kind .readChannel
  | 32 => readOne kind .readWind
  | 33 => readOne kind .readFault
  | 34 => .pure .readErrors
  | 35 => readByte.map fun b => .setReportMask (masksOfByte b)
  | _ => .misfit

/-- What the fields of a request frame are found to be: a request, fields that do not fit the layout, or fields that fit it
with a one-byte value outside its list, with the request whose other operands they carry. -/
inductive Decoded where
  | request (r : Request)
  | misfit
  | badValue (r : Request)
  deriving DecidableEq, Repr

/-- The request that a frame of kind 1..35 with some fields carries (R181 step 2). Fields that end before their layout does,
or run past it, do not fit (R192). -/
def decodeRequest (kind : Nat) (fields : List Byte) : Decoded :=
  match requestFields kind ⟨fields, false⟩ with
  | some (r, ⟨[], bad⟩) => if bad then .badValue r else .request r
  | _ => .misfit

end Sys2Proof.Machine
end

