-- ==== Sys2Proof/Machine/SitePort.lean ====
section
/-! DEFINITION. The Site Port at work: receiving frames (R179), the input queue (R180), taking requests and placing replies
(R181), the transmitter and its reports (R182, R189), and what ends every event of the part. -/

namespace Sys2Proof.Machine

/-! ## Requests -/

/-- A request answered in the event in which it is taken. -/
def answered (r : State × Answer) : State × Option Answer := (r.1, some r.2)

/-- A request is dispatched to the block that owns it (R181, section 10.3). No answer means that it stays in hand. -/
def dispatch (r : Request) (s : State) : State × Option Answer :=
  match r with
  | .identify => answered (doIdentify s)
  | .reset => answered (doReset s)
  | .setClock m p => answered (doSetClock m p s)
  | .readClock => answered (doReadClock s)
  | .enterSurvey => answered (doEnterSurvey s)
  | .leaveSurvey => doLeaveSurvey s
  | .loadCrane n f => answered (doLoadCrane n f s)
  | .loadCells n t first count classes => answered (doLoadCells n t first count classes s)
  | .loadChart n caps => answered (doLoadChart n caps s)
  | .loadProfile p => answered (doLoadProfile p s)
  | .loadPlan n steps => answered (doLoadPlan n steps s)
  | .book f => answered (doBook f s)
  | .cancel n => answered (doCancel n s)
  | .suspendChannel n => answered (doSuspendChannel n s)
  | .resumeChannel n => answered (doResumeChannel n s)
  | .stepMode n on => answered (doStepMode n on s)
  | .continueStep n => answered (doContinue n s)
  | .closeZone n => answered (doCloseZone n s)
  | .openZone n => answered (doOpenZone n s)
  | .forceRelease n => answered (doForceRelease n s)
  | .declareWind l => answered (doDeclareWind l s)
  | .clearFault n => answered (doClearFault n s)
  | .recover n => answered (doRecover n s)
  | .clearLockout n => answered (doClearLockout n s)
  | .removeCrane n => answered (doRemoveCrane n s)
  | .admitCrane n => answered (doAdmitCrane n s)
  | .relay d code ack text => answered (doRelay d code ack text s)
  | .readCrane n => answered (doReadCrane n s)
  | .readZone n => answered (doReadZone n s)
  | .readBooking n => answered (doReadBooking n s)
  | .readChannel n => answered (doReadChannel n s)
  | .readWind n => answered (doReadWind n s)
  | .readFault n => answered (doReadFault n s)
  | .readErrors => answered (doReadErrors s)
  | .setReportMask ks => answered (doSetReportMask ks s)

/-- The answer to a request one of whose one-byte values is outside its list. It is judged by the block that owns the
request (R181 step 3), as a value out of range: for LOAD_CELLS, STEP_MODE and LOAD_PROFILE after the mode, slot and
configuration that R7, R161 and R9 judge first, and for RELAY after the length of its text (R186); BOOK judges its
operands first (R127). No rule names a table, a flag or a cause outside its list (DESIGN CHOICE, log 56). -/
def answerOutOfList (r : Request) (s : State) : Answer :=
  let refused (s : State) : State × Answer := (s, codeOnly .badValue)
  match r with
  | .loadCells n .. => (inSurvey (onCrane n fun _ => refused) s).2
  | .stepMode n _ => (onCrane n (fun _ => refused) s).2
  | .loadProfile _ => (inSurvey refused s).2
  | .relay _ _ _ text => if 40 < text.length then codeOnly .badLength else codeOnly .badValue
  | _ => codeOnly .badValue

/-! ## Replies -/

/-- The idle transmitter begins the reply of the reply slot, which becomes empty; nothing is begun while the reset line is
low (R182, R195). -/
def beginReply (s : State) : State :=
  match s.port.tx, s.port.slot with
  | none, some r => if s.silent then s else { s with port := { s.port with tx := some (.reply r), slot := none } }
  | _, _ => s

/-- A reply is placed in the reply slot, and the idle transmitter begins it (R181, R182). -/
def placeReply (tag : Byte) (kind : Nat) (a : Answer) (s : State) : State :=
  beginReply { s with port := { s.port with slot := some ⟨tag, kind, a.code, a.body⟩ } }

/-- The reply of a request when it has one; otherwise it stays in hand (R181). -/
def conclude (tag : Byte) (kind : Nat) (r : State × Option Answer) : State :=
  match r.2 with
  | some a => placeReply tag kind a r.1
  | none => { r.1 with port := { r.1.port with hand := some tag } }

/-- A request is taken and judged (R181): its kind, then whether its fields fit, then the block that owns it. A one-byte
value outside its list is judged there too (`answerOutOfList`, log 56). -/
def takeRequest (q : QueuedRequest) (s : State) : State :=
  match q.content with
  | .typed r => conclude q.tag r.kind (dispatch r s)
  | .frame kind fields =>
    if !inRange 1 35 kind.toNat then
      placeReply q.tag kind.toNat (codeOnly .unknownRequest) (addError .unknownRequest s)
    else match decodeRequest kind.toNat fields with
      | .misfit => placeReply q.tag kind.toNat (codeOnly .badLength) s
      | .badValue r => placeReply q.tag kind.toNat (answerOutOfList r s) s
      | .request r => conclude q.tag kind.toNat (dispatch r s)

/-- The storm phases and storm-blocked marks of all cranes are brought up to date (R90, R118). -/
def refreshAll (s : State) : State := forEach allSlots refreshStorm s

/-- The port may take a request: none in hand, the reply slot empty, and no RESET on its way (R181, R183). -/
def State.portReady (s : State) : Bool :=
  s.port.hand.isNone && s.port.slot.isNone && s.port.resetProgress == .none

/-- An event begins: the model's counter of events advances (log 3). -/
def nextEvent (s : State) : State := { s with events := s.events + 1 }

/-- The port takes the heads of its input queue for as long as it may (R181). Each request is an event of its own, so that
what one request loses to a channel is told apart from what another does (R157, log 3). -/
def pump : Nat → State → State
  | 0, s => s
  | n + 1, s =>
    if s.portReady then
      match s.port.queue with
      | [] => s
      | q :: rest => pump n (refreshAll (takeRequest q (nextEvent { s with port := { s.port with queue := rest } })))
    else s

/-! ## Reports and the end of an event -/

/-- The booking of a key has ended. -/
def State.endedKey (s : State) : ReportKey → Option Nat
  | .booking n => match s.booking? n with
    | some b => if b.state.ended then some n else none
    | none => none
  | _ => none

/-- The idle transmitter begins the report of the head key: the key leaves the list, its snapshot is built, and an ended
booking's entry is freed (R140, R182, R189). -/
def beginReport (s : State) : State :=
  match s.port.tx, s.port.slot, s.port.reports with
  | none, none, k :: rest =>
    if s.silent || s.port.resetProgress != .none then s
    else
      let s1 := { s with port := { s.port with tx := some (.report k (s.snapshot k)), reports := rest } }
      match s.endedKey k with
      | some n => freeBooking n s1
      | none => s1
  | _, _, _ => s

/-- What ends every event: storm phases are judged, a waiting reply is begun, requests are taken while the port may take
them, and a report is begun when the line is free (R118, R181, R182; log 15). -/
def finish (s : State) : State := beginReport (pump (Config.inputCapacity + 1) (beginReply (refreshAll s)))

/-- An event of the part: it has no effect without power, and otherwise its work and what ends every event. -/
def event (f : State → State) (s : State) : Host.Outcome State Fault Refusal :=
  if s.power.on then .next (finish (f (nextEvent s))) else .next s

/-- A request frame is offered to the input queue (R180). -/
def offer (q : QueuedRequest) (s : State) : State :=
  if s.port.queue.length < Config.inputCapacity then
    { s with port := { s.port with queue := s.port.queue ++ [q] } }
  else addError .rxOverrun s

/-- A request command: the request joins the input queue, and is taken in this event when the port is ready (R180,
R181). -/
def submit (tag : Byte) (r : Request) (s : State) : Host.Outcome State Fault Refusal :=
  event (offer ⟨tag, .typed r⟩) s

/-! ## Receiving -/

/-- Puts the receiver in a state. -/
def State.putReceiver (s : State) (r : Receiver) : State := { s with port := { s.port with receiver := r } }

/-- A frame is discarded: FRAME_ERROR, and the receiver goes on in a state (R179). -/
def discardFrame (r : Receiver) (s : State) : State := addError .frameError (s.putReceiver r)

/-- The length of a frame's first two unescaped bytes (R179). -/
def frameLength (bytes : List Byte) : Nat := numberOf (bytes.take 2)

/-- A complete frame: its CRC-16 is checked, and it is offered to the input queue (R179). -/
def completeFrame (bytes : List Byte) (s : State) : State :=
  let body := bytes.take (frameLength bytes + 2)
  if bytes.drop (frameLength bytes + 2) = crcBytes body then
    match body.drop 2 with
    | kind :: tag :: fields => offer ⟨tag, .frame kind fields⟩ (s.putReceiver .hunting)
    | _ => discardFrame .hunting s
  else discardFrame .hunting s

/-- An unescaped byte inside a frame (R179). -/
def frameByte (bytes : List Byte) (b : Byte) (s : State) : State :=
  let all := bytes ++ [b]
  if all.length < 2 then s.putReceiver (.inFrame all false s.now)
  else if !inRange 2 1200 (frameLength all) then discardFrame .hunting s
  else if all.length < frameLength all + 4 then s.putReceiver (.inFrame all false s.now)
  else completeFrame all s

/-- A byte arrives on the site line (R179). -/
def receiveByte (b : Byte) (s : State) : State :=
  match s.port.receiver with
  | .hunting => if b == startByte then s.putReceiver (.inFrame [] false s.now) else s
  | .inFrame bytes escaped _ =>
    if b == startByte then discardFrame (.inFrame [] false s.now) s
    else if escaped then frameByte bytes (b ^^^ escapeMask) s
    else if b == escapeByte then s.putReceiver (.inFrame bytes true s.now)
    else frameByte bytes b s

/-- Bytes arrive on the site line; each complete frame is offered, and taken when the port is ready (R179 to R181). -/
def receiveBytes (bytes : List Byte) (s : State) : State :=
  forEach bytes (fun b s => pump (Config.inputCapacity + 1) (receiveByte b s)) s

/-- The receiver has been inside a frame for 100 ms with no byte (R179). -/
def State.rxDue (s : State) : Bool :=
  match s.port.receiver with
  | .inFrame _ _ t => decide (t + Config.rxSilenceMs ≤ s.now)
  | .hunting => false

/-- The frame being received is discarded (R179). -/
def dropFrame (s : State) : State :=
  match s.port.receiver with
  | .inFrame .. => discardFrame .hunting s
  | .hunting => s

/-! ## The transmitter -/

/-- The reply OK of the RESET taken is what the transmitter sends (R183). A refused frame of RESET's kind has a reply of
another code. -/
def State.sendsResetReply (s : State) : Bool :=
  s.port.resetProgress == .taken && match s.port.tx with
    | some (.reply r) => r.kind == 2 && r.code == .ok
    | _ => false

/-- The transmitter finishes its frame; the reply of a RESET sent whole makes its site reset due (R182, R183). Nothing is
sent while the reset line is low (R195). -/
def siteTxFinished (s : State) : State :=
  if s.silent || s.port.tx.isNone then s
  else
    { s with
      port := { s.port with
        tx := none, resetProgress := if s.sendsResetReply then .due else s.port.resetProgress } }

/-! ## The image write -/

/-- The write of the image ends: the survey exit in flight ends with it, and its reply is placed. A failed write leaves the
image invalid (R16, R17). -/
def writeDone (ok : Bool) (s : State) : State :=
  match s.port.hand with
  | none => s
  | some tag =>
    let s1 := { s with port := { s.port with hand := none } }
    if ok then placeReply tag 6 (codeOnly .ok) (completeSurveyExit s1)
    else
      placeReply tag 6 (codeOnly .nvFailed) (addError .nvWrite { s1 with geo := { s1.geo with image := none } })

end Sys2Proof.Machine
end

