-- ==== Sys2Proof/Machine/CabCommands.lean ====
section
/-! DEFINITION. The meanings of the cab-line commands: POSE_REPORT, CAB_BAD_FRAME, ESTOP, ACK_MESSAGE, CAB_TX_DONE,
LIMIT_REPEAT, LINK_STALE and LINK_LOST. -/

namespace Sys2Proof.Machine

/-- POSE_REPORT (R25 to R29). -/
def execPoseReport (c : Slot) (pose : PoseFrame) (s : State) : Host.Outcome State Fault Refusal := event (takePose c pose) s

/-- CAB_BAD_FRAME (R24): bytes arrive on a cab line; a frame that fails the frame check is discarded with CAB_FRAME(c), and
one that passes it is the message it carries (log 18). -/
def execCabBadFrame (c : Slot) (bytes : List Byte) (s : State) : Host.Outcome State Fault Refusal :=
  event (takeCabBytes c bytes) s

/-- ESTOP (R30). -/
def execEstop (c : Slot) (s : State) : Host.Outcome State Fault Refusal := event (takeEStop c) s

/-- ACK_MESSAGE (R31). -/
def execAckMessage (c : Slot) (code : Byte) (s : State) : Host.Outcome State Fault Refusal := event (takeAck c code) s

/-- CAB_TX_DONE (R34). -/
def execCabTxDone (c : Slot) (s : State) : Host.Outcome State Fault Refusal := event (cabTxFinished c) s

/-- LIMIT_REPEAT (R35). -/
def execLimitRepeat (c : Slot) (s : State) : Host.Outcome State Fault Refusal := event (repeatLimit c) s

/-- LINK_STALE (R22). -/
def execLinkStale (c : Slot) (s : State) : Host.Outcome State Fault Refusal := event (becomeStale c) s

/-- LINK_LOST (R22). -/
def execLinkLost (c : Slot) (s : State) : Host.Outcome State Fault Refusal := event (becomeLost c) s

end Sys2Proof.Machine
end

