-- ==== Sys2Proof/Machine/OwnEvents.lean ====
section
/-! DEFINITION. The meanings of the part's own events: the clock's (MINUTE_ADVANCE, HOLD_TICK, HOLD_COMPLETE), the arbiter's
(DWELL_EXPIRY), the Wind Monitor's (BUCKET_CLOSE, CALM_DOWN_EXPIRY, STORM_AFTER_HOLD_EXPIRY, CALM_TIMER_EXPIRY) and the
channels' (WAIT_LIMIT_EXPIRY, CLAIM_LOST, CLAIM_RETRY, NEXT_STEP). An event that is not due has no effect (log 14). -/

namespace Sys2Proof.Machine

/-- 60,000 ms have passed since the minute phase (R42). -/
def State.minuteDue (s : State) : Bool :=
  match s.clock.minute, s.clock.minutePhase with
  | some _, some t => decide (t + Config.minuteMs ≤ s.now)
  | _, _ => false

/-- The minute advances: the phase moves forward by 60,000 ms, and below the greatest minute an event is delivered
(R42, R43). -/
def advanceMinute (s : State) : State :=
  if s.minuteDue then
    match s.clock.minute with
    | none => s
    | some m =>
      let phase := s.clock.minutePhase.map fun t => t + Config.minuteMs
      if m < Config.maxMinute then
        deliverMinute (some m) (m + 1) { s with clock := { s.clock with minute := some (m + 1), minutePhase := phase } }
      else { s with clock := { s.clock with minutePhase := phase } }
  else s

/-- MINUTE_ADVANCE (R42). -/
def execMinuteAdvance (s : State) : Host.Outcome State Fault Refusal := event advanceMinute s

/-- The present tick's length has passed (R46). -/
def State.tickDue (s : State) : Bool := decide (s.clock.tickBegan + s.clock.tickLength ≤ s.now)

/-- The clock after a tick ends: the next begins at that uptime with the working prescaler's length (R46). -/
def Clock.nextTick (k : Clock) : Clock :=
  { k with tickBegan := k.tickBegan + k.tickLength, tickLength := (k.prescaler + 1) * 250 }

/-- A tick ends, and every channel may count it (R46, R153), in ascending slot order, which R46 leaves open (DESIGN
CHOICE, log 48). -/
def endTick (s : State) : State :=
  if s.tickDue then forEach allSlots countTick { s with clock := s.clock.nextTick } else s

/-- HOLD_TICK (R46, R153). -/
def execHoldTick (s : State) : Host.Outcome State Fault Refusal := event endTick s

/-- A channel's HOLD step has one tick to go, and the tick's end is due. -/
def State.holdDue (s : State) (c : Slot) : Bool :=
  s.tickDue && (s.channel c).active && (s.channel c).phase == .holding && (s.channel c).hold == some 1

/-- HOLD_COMPLETE (R153): the remaining ticks of one channel's HOLD step reach 0 at a tick's end (log 12). -/
def execHoldComplete (c : Slot) (s : State) : Host.Outcome State Fault Refusal :=
  event (fun s => if s.holdDue c then countTick c s else s) s

/-- DWELL_EXPIRY (R96). -/
def execDwellExpiry (z : ZoneId) (s : State) : Host.Outcome State Fault Refusal := event (expireDwell z) s

/-- BUCKET_CLOSE (R106). -/
def execBucketClose (s : State) : Host.Outcome State Fault Refusal := event closeBuckets s

/-- CALM_DOWN_EXPIRY (R113). -/
def execCalmDownExpiry (c : Slot) (s : State) : Host.Outcome State Fault Refusal := event (expireCalmDown c) s

/-- STORM_AFTER_HOLD_EXPIRY (R111). -/
def execStormAfterHoldExpiry (c : Slot) (s : State) : Host.Outcome State Fault Refusal := event (expireStormAfterHold c) s

/-- CALM_TIMER_EXPIRY (R121). -/
def execCalmTimerExpiry (c : Slot) (s : State) : Host.Outcome State Fault Refusal := event (expireCalm c) s

/-- WAIT_LIMIT_EXPIRY (R150). -/
def execWaitLimitExpiry (c : Slot) (s : State) : Host.Outcome State Fault Refusal := event (expireWait c) s

/-- CLAIM_LOST (R157). -/
def execClaimLost (c : Slot) (s : State) : Host.Outcome State Fault Refusal := event (takeLosses c) s

/-- CLAIM_RETRY (R149). -/
def execClaimRetry (c : Slot) (s : State) : Host.Outcome State Fault Refusal := event (takeRetry c) s

/-- NEXT_STEP (R147). -/
def execNextStep (c : Slot) (s : State) : Host.Outcome State Fault Refusal := event (takeNextStep c) s

end Sys2Proof.Machine
end

