-- ==== Sys2Proof/Machine/PowerCommands.lean ====
section
/-! DEFINITION. The meanings of the power, reset-line and site-line commands: POWER_ON, LOSS_OF_POWER, RESET_LINE_LOW,
RESET_LINE, SITE_RESET, SITE_FRAME, SITE_RX_TIMEOUT, BAD_STOP_BIT, SITE_TX_DONE and NV_WRITE_DONE. -/

namespace Sys2Proof.Machine

/-- The reset line stands high. -/
def lineHigh (s : State) : State := { s with power := { s.power with lowFor := none } }

/-- POWER_ON: every block takes its power-on values, and the image decides the mode (R18). -/
def execPowerOn (s : State) : Host.Outcome State Fault Refusal :=
  .next (start .powerOn (lineHigh { s with events := s.events + 1 }))

/-- LOSS_OF_POWER: the part stops; an image being written is left valid or invalid by the phase of its write (R17). -/
def execLossOfPower (moment : WriteMoment) (s : State) : Host.Outcome State Fault Refusal :=
  if s.power.on then
    .next { interruptWrite moment s with power := { s.power with on := false }, events := s.events + 1 }
  else .next s

/-- RESET_LINE_LOW: the reset line is driven low; from then on the part sends nothing (R195). -/
def execResetLineLow (s : State) : Host.Outcome State Fault Refusal :=
  event (fun s => { s with power := { s.power with lowFor := some (s.power.lowFor.getD 0) } }) s

/-- The reset line has been low for less than 10 ms (R195). -/
def State.lowTooShort (s : State) : Bool :=
  match s.power.lowFor with
  | some t => decide (t < Config.resetLowMs)
  | none => false

/-- The line returns high after too short a low: every transmitter may begin again (R195). -/
def lineIgnored (s : State) : State := forEach allSlots kickCab (lineHigh s)

/-- RESET_LINE: the reset line returns high. After a low of 10 ms or more, and where none was recorded (log 16), it gives a
site reset, which ends a survey exit in flight (R13, R17, R195); a shorter low is ignored. -/
def execResetLine (moment : WriteMoment) (s : State) : Host.Outcome State Fault Refusal :=
  event (fun s => if s.lowTooShort then lineIgnored s else start .resetLine (lineHigh (interruptWrite moment s))) s

/-- SITE_RESET: the site reset of a RESET whose reply has been sent whole (R183). -/
def execSiteReset (s : State) : Host.Outcome State Fault Refusal :=
  event (fun s => if s.port.resetProgress == .due then start .resetRequest s else s) s

/-- SITE_FRAME: bytes arrive on the site line (R179 to R181). -/
def execSiteFrame (bytes : List Byte) (s : State) : Host.Outcome State Fault Refusal := event (receiveBytes bytes) s

/-- SITE_RX_TIMEOUT: 100 ms without a byte inside a frame (R179). -/
def execSiteRxTimeout (s : State) : Host.Outcome State Fault Refusal :=
  event (fun s => if s.rxDue then dropFrame s else s) s

/-- BAD_STOP_BIT: a character with a bad stop bit; inside a frame it discards the frame (R179). -/
def execBadStopBit (s : State) : Host.Outcome State Fault Refusal := event dropFrame s

/-- SITE_TX_DONE: the site transmitter finishes its frame (R182). -/
def execSiteTxDone (s : State) : Host.Outcome State Fault Refusal := event siteTxFinished s

/-- NV_WRITE_DONE: the write of the image ends, with or without error (R16). -/
def execNvWriteDone (ok : Bool) (s : State) : Host.Outcome State Fault Refusal := event (writeDone ok) s

end Sys2Proof.Machine
end

