-- ==== Sys2Proof/Machine/RequestCommands.lean ====
section
/-! DEFINITION. The meanings of the request commands of section 10.3. Each offers its request to the input queue; when the
port is ready it is taken in the same event by `dispatch`, which names the checks and effects of Requests.lean. -/

namespace Sys2Proof.Machine

/-- UNKNOWN_REQUEST: a frame of a kind outside 1..35 waits or is taken, and is answered UNKNOWN_REQUEST with the flag added
(R181). -/
def execUnknownRequest (tag kind : Byte) (s : State) : Host.Outcome State Fault Refusal :=
  event (offer ⟨tag, .frame kind []⟩) s

/-- IDENTIFY (R184): its identity. -/
def execIdentify (tag : Byte) (s : State) : Host.Outcome State Fault Refusal := submit tag .identify s

/-- RESET (R183): its reply OK; the site reset follows once it is sent. -/
def execReset (tag : Byte) (s : State) : Host.Outcome State Fault Refusal := submit tag .reset s

/-- SET_CLOCK (R44, R45, R47): the site minute, the prescaler, or both. -/
def execSetClock (tag : Byte) (minute prescaler : Option Nat) (s : State) : Host.Outcome State Fault Refusal :=
  submit tag (.setClock minute prescaler) s

/-- READ_CLOCK (R48): the clock's values. -/
def execReadClock (tag : Byte) (s : State) : Host.Outcome State Fault Refusal := submit tag .readClock s

/-- ENTER_SURVEY (R12): the part goes to SURVEY. -/
def execEnterSurvey (tag : Byte) (s : State) : Host.Outcome State Fault Refusal := submit tag .enterSurvey s

/-- LEAVE_SURVEY (R13 to R15): the survey exit begins, or ends with a validation code. -/
def execLeaveSurvey (tag : Byte) (s : State) : Host.Outcome State Fault Refusal := submit tag .leaveSurvey s

/-- LOAD_CRANE (R1, R2): a crane record is replaced, or a slot configured or unconfigured. -/
def execLoadCrane (tag : Byte) (slot : Nat) (fields : Option CraneFields)
    (s : State) : Host.Outcome State Fault Refusal :=
  submit tag (.loadCrane slot fields) s

/-- LOAD_CELLS (R7): a run of sectors of a cell table is written. -/
def execLoadCells (tag : Byte) (slot : Nat) (table : CellTable) (first count : Nat) (classes : List Byte)
    (s : State) : Host.Outcome State Fault Refusal :=
  submit tag (.loadCells slot table first count classes) s

/-- LOAD_CHART (R5): a load chart is replaced. -/
def execLoadChart (tag : Byte) (slot : Nat) (capacities : Vector Nat 8)
    (s : State) : Host.Outcome State Fault Refusal :=
  submit tag (.loadChart slot capacities) s

/-- LOAD_PROFILE (R9, R114): the site profile is replaced. -/
def execLoadProfile (tag : Byte) (profile : SiteProfile) (s : State) : Host.Outcome State Fault Refusal :=
  submit tag (.loadProfile profile) s

/-- LOAD_PLAN (R143, R144): a plan is stored and verified. -/
def execLoadPlan (tag : Byte) (number : Nat) (steps : List StepField)
    (s : State) : Host.Outcome State Fault Refusal :=
  submit tag (.loadPlan number steps) s

/-- BOOK (R127, R128): a booking is admitted. -/
def execBook (tag : Byte) (fields : BookFields) (s : State) : Host.Outcome State Fault Refusal :=
  submit tag (.book fields) s

/-- CANCEL (R137): a booking is cancelled. -/
def execCancel (tag : Byte) (number : Nat) (s : State) : Host.Outcome State Fault Refusal :=
  submit tag (.cancel number) s

/-- SUSPEND_CHANNEL (R158, R159): reason OPERATOR is added. -/
def execSuspendChannel (tag : Byte) (slot : Nat) (s : State) : Host.Outcome State Fault Refusal :=
  submit tag (.suspendChannel slot) s

/-- RESUME_CHANNEL (R158, R160): reason OPERATOR is removed. -/
def execResumeChannel (tag : Byte) (slot : Nat) (s : State) : Host.Outcome State Fault Refusal :=
  submit tag (.resumeChannel slot) s

/-- STEP_MODE (R161): the step-mode flag is set. -/
def execStepMode (tag : Byte) (slot : Nat) (on : Bool) (s : State) : Host.Outcome State Fault Refusal :=
  submit tag (.stepMode slot on) s

/-- CONTINUE (R161): a pause is lifted. -/
def execContinue (tag : Byte) (slot : Nat) (s : State) : Host.Outcome State Fault Refusal :=
  submit tag (.continueStep slot) s

/-- CLOSE_ZONE (R100): a HOOK zone is closed, or its closure waits. -/
def execCloseZone (tag : Byte) (zone : Nat) (s : State) : Host.Outcome State Fault Refusal :=
  submit tag (.closeZone zone) s

/-- OPEN_ZONE (R101): a closure is lifted. -/
def execOpenZone (tag : Byte) (zone : Nat) (s : State) : Host.Outcome State Fault Refusal :=
  submit tag (.openZone zone) s

/-- FORCE_RELEASE (R102): a zone is freed outright. -/
def execForceRelease (tag : Byte) (zone : Nat) (s : State) : Host.Outcome State Fault Refusal :=
  submit tag (.forceRelease zone) s

/-- DECLARE_WIND (R115): the site declaration is set. -/
def execDeclareWind (tag : Byte) (level : Nat) (s : State) : Host.Outcome State Fault Refusal :=
  submit tag (.declareWind level) s

/-- CLEAR_FAULT (R174): a fault whose condition is met clears. -/
def execClearFault (tag : Byte) (slot : Nat) (s : State) : Host.Outcome State Fault Refusal :=
  submit tag (.clearFault slot) s

/-- RECOVER (R175): the recovery flag is set. -/
def execRecover (tag : Byte) (slot : Nat) (s : State) : Host.Outcome State Fault Refusal :=
  submit tag (.recover slot) s

/-- CLEAR_LOCKOUT (R176): a LOCKOUT crane becomes JOINING. -/
def execClearLockout (tag : Byte) (slot : Nat) (s : State) : Host.Outcome State Fault Refusal :=
  submit tag (.clearLockout slot) s

/-- REMOVE_CRANE (R19): a crane is excluded. -/
def execRemoveCrane (tag : Byte) (slot : Nat) (s : State) : Host.Outcome State Fault Refusal :=
  submit tag (.removeCrane slot) s

/-- ADMIT_CRANE (R20): an excluded crane is admitted. -/
def execAdmitCrane (tag : Byte) (slot : Nat) (s : State) : Host.Outcome State Fault Refusal :=
  submit tag (.admitCrane slot) s

/-- RELAY (R186): a text notice is queued to cabs. -/
def execRelay (tag : Byte) (dest : RelayDest) (code : Byte) (ackRequest : Bool) (text : List Byte)
    (s : State) : Host.Outcome State Fault Refusal :=
  submit tag (.relay dest code ackRequest text) s

/-- READ_CRANE (R187): a crane's values. -/
def execReadCrane (tag : Byte) (slot : Nat) (s : State) : Host.Outcome State Fault Refusal :=
  submit tag (.readCrane slot) s

/-- READ_ZONE (R103): a zone's values. -/
def execReadZone (tag : Byte) (zone : Nat) (s : State) : Host.Outcome State Fault Refusal :=
  submit tag (.readZone zone) s

/-- READ_BOOKING (R141): a booking's values. -/
def execReadBooking (tag : Byte) (number : Nat) (s : State) : Host.Outcome State Fault Refusal :=
  submit tag (.readBooking number) s

/-- READ_CHANNEL (R162): a channel's values. -/
def execReadChannel (tag : Byte) (slot : Nat) (s : State) : Host.Outcome State Fault Refusal :=
  submit tag (.readChannel slot) s

/-- READ_WIND (R122): a crane's wind values. -/
def execReadWind (tag : Byte) (slot : Nat) (s : State) : Host.Outcome State Fault Refusal :=
  submit tag (.readWind slot) s

/-- READ_FAULT (R178): a crane's state and contexts. -/
def execReadFault (tag : Byte) (slot : Nat) (s : State) : Host.Outcome State Fault Refusal :=
  submit tag (.readFault slot) s

/-- READ_ERRORS (R185): the error summary, which is emptied. -/
def execReadErrors (tag : Byte) (s : State) : Host.Outcome State Fault Refusal := submit tag .readErrors s

/-- SET_REPORT_MASK (R190): the report masks are replaced. -/
def execSetReportMask (tag : Byte) (masked : List KeyKind) (s : State) : Host.Outcome State Fault Refusal :=
  submit tag (.setReportMask masked) s

end Sys2Proof.Machine
end

