-- ==== Sys2Proof/Machine/Dispatch.lean ====
section
/-! DEFINITION. The dispatch of commands: one arm for each constructor of `Instr`, in the order of
spec/opcode_table.json. -/

namespace Sys2Proof.Machine

def exec (i : Instr) (s : State) : Host.Outcome State Fault Refusal :=
  match i with
  | .powerOn => Sys2Proof.Machine.execPowerOn s
  | .resetLine moment => Sys2Proof.Machine.execResetLine moment s
  | .siteReset => Sys2Proof.Machine.execSiteReset s
  | .siteFrame bytes => Sys2Proof.Machine.execSiteFrame bytes s
  | .siteRxTimeout => Sys2Proof.Machine.execSiteRxTimeout s
  | .siteTxDone => Sys2Proof.Machine.execSiteTxDone s
  | .unknownRequest tag kind => Sys2Proof.Machine.execUnknownRequest tag kind s
  | .identify tag => Sys2Proof.Machine.execIdentify tag s
  | .reset tag => Sys2Proof.Machine.execReset tag s
  | .setClock tag minute prescaler => Sys2Proof.Machine.execSetClock tag minute prescaler s
  | .readClock tag => Sys2Proof.Machine.execReadClock tag s
  | .enterSurvey tag => Sys2Proof.Machine.execEnterSurvey tag s
  | .leaveSurvey tag => Sys2Proof.Machine.execLeaveSurvey tag s
  | .nvWriteDone ok => Sys2Proof.Machine.execNvWriteDone ok s
  | .loadCrane tag slot fields => Sys2Proof.Machine.execLoadCrane tag slot fields s
  | .loadCells tag slot table first count classes => Sys2Proof.Machine.execLoadCells tag slot table first count classes s
  | .loadChart tag slot capacities => Sys2Proof.Machine.execLoadChart tag slot capacities s
  | .loadProfile tag profile => Sys2Proof.Machine.execLoadProfile tag profile s
  | .loadPlan tag number steps => Sys2Proof.Machine.execLoadPlan tag number steps s
  | .book tag fields => Sys2Proof.Machine.execBook tag fields s
  | .cancel tag number => Sys2Proof.Machine.execCancel tag number s
  | .suspendChannel tag slot => Sys2Proof.Machine.execSuspendChannel tag slot s
  | .resumeChannel tag slot => Sys2Proof.Machine.execResumeChannel tag slot s
  | .stepMode tag slot on => Sys2Proof.Machine.execStepMode tag slot on s
  | .continueStep tag slot => Sys2Proof.Machine.execContinue tag slot s
  | .closeZone tag zone => Sys2Proof.Machine.execCloseZone tag zone s
  | .openZone tag zone => Sys2Proof.Machine.execOpenZone tag zone s
  | .forceRelease tag zone => Sys2Proof.Machine.execForceRelease tag zone s
  | .declareWind tag level => Sys2Proof.Machine.execDeclareWind tag level s
  | .clearFault tag slot => Sys2Proof.Machine.execClearFault tag slot s
  | .recover tag slot => Sys2Proof.Machine.execRecover tag slot s
  | .clearLockout tag slot => Sys2Proof.Machine.execClearLockout tag slot s
  | .removeCrane tag slot => Sys2Proof.Machine.execRemoveCrane tag slot s
  | .admitCrane tag slot => Sys2Proof.Machine.execAdmitCrane tag slot s
  | .relay tag dest code ackRequest text => Sys2Proof.Machine.execRelay tag dest code ackRequest text s
  | .readCrane tag slot => Sys2Proof.Machine.execReadCrane tag slot s
  | .readZone tag zone => Sys2Proof.Machine.execReadZone tag zone s
  | .readBooking tag number => Sys2Proof.Machine.execReadBooking tag number s
  | .readChannel tag slot => Sys2Proof.Machine.execReadChannel tag slot s
  | .readWind tag slot => Sys2Proof.Machine.execReadWind tag slot s
  | .readFault tag slot => Sys2Proof.Machine.execReadFault tag slot s
  | .readErrors tag => Sys2Proof.Machine.execReadErrors tag s
  | .setReportMask tag masked => Sys2Proof.Machine.execSetReportMask tag masked s
  | .poseReport c pose => Sys2Proof.Machine.execPoseReport c pose s
  | .cabBadFrame c bytes => Sys2Proof.Machine.execCabBadFrame c bytes s
  | .estop c => Sys2Proof.Machine.execEstop c s
  | .ackMessage c code => Sys2Proof.Machine.execAckMessage c code s
  | .linkStale c => Sys2Proof.Machine.execLinkStale c s
  | .linkLost c => Sys2Proof.Machine.execLinkLost c s
  | .limitRepeat c => Sys2Proof.Machine.execLimitRepeat c s
  | .cabTxDone c => Sys2Proof.Machine.execCabTxDone c s
  | .claimRetry c => Sys2Proof.Machine.execClaimRetry c s
  | .dwellExpiry z => Sys2Proof.Machine.execDwellExpiry z s
  | .minuteAdvance => Sys2Proof.Machine.execMinuteAdvance s
  | .holdTick => Sys2Proof.Machine.execHoldTick s
  | .holdComplete c => Sys2Proof.Machine.execHoldComplete c s
  | .bucketClose => Sys2Proof.Machine.execBucketClose s
  | .calmDownExpiry c => Sys2Proof.Machine.execCalmDownExpiry c s
  | .stormAfterHoldExpiry c => Sys2Proof.Machine.execStormAfterHoldExpiry c s
  | .calmTimerExpiry c => Sys2Proof.Machine.execCalmTimerExpiry c s
  | .waitLimitExpiry c => Sys2Proof.Machine.execWaitLimitExpiry c s
  | .claimLost c => Sys2Proof.Machine.execClaimLost c s
  | .nextStep c => Sys2Proof.Machine.execNextStep c s
  | .lossOfPower moment => Sys2Proof.Machine.execLossOfPower moment s
  | .resetLineLow => Sys2Proof.Machine.execResetLineLow s
  | .badStopBit => Sys2Proof.Machine.execBadStopBit s

end Sys2Proof.Machine
end

