-- ==== Sys2Proof/Machine/Idle.lean ====
section
/-! DEFINITION. What the part does when no command waits (log 2): the events of its own that are due are put in the queue;
when none is due one millisecond of uptime passes. -/

namespace Sys2Proof.Machine

/-- The given command when a condition holds. -/
def due (b : Bool) (i : Instr) : List Instr := if b then [i] else []

/-- The commands due for each slot. -/
def dueSlots (p : Slot → Bool) (i : Slot → Instr) : List Instr := allSlots.flatMap fun c => due (p c) (i c)

/-- The events of the part's own that are due, those that follow another event first and then the timers (log 13). -/
def dueEvents (s : State) : List Instr :=
  due (s.port.resetProgress == .due) .siteReset ++
  due s.rxDue .siteRxTimeout ++
  dueSlots (fun c => !(s.channel c).losses.isEmpty) .claimLost ++
  dueSlots s.nextStepDue .nextStep ++
  dueSlots s.retryDue .claimRetry ++
  dueSlots s.staleDue .linkStale ++
  dueSlots s.lostDue .linkLost ++
  dueSlots s.repeatDue .limitRepeat ++
  due s.minuteDue .minuteAdvance ++
  due s.tickDue .holdTick ++
  due s.bucketDue .bucketClose ++
  dueSlots s.calmDownDue .calmDownExpiry ++
  dueSlots s.stormAfterHoldDue .stormAfterHoldExpiry ++
  dueSlots s.calmTimerDue .calmTimerExpiry ++
  dueSlots s.waitDue .waitLimitExpiry ++
  (allZones.flatMap fun z => due (s.dwellDue? z).isSome (.dwellExpiry z))

/-- A running dwell after one more millisecond; it does not pass 3,000 ms (R81, R96). -/
def Dwell.passMs (d : Dwell) : Dwell :=
  if d.running then { d with elapsed := min Config.dwellMs (d.elapsed + 1) } else d

/-- The channel's wait limit runs: the channel is ACTIVE and its step is in a waiting phase (R150). -/
def Channel.waitRuns (ch : Channel) : Bool :=
  ch.active && (ch.phase == .waitingClaim || ch.phase == .waitingPose || ch.phase == .waitingAck ||
    ch.phase == .waitingSlot)

/-- A channel after one more millisecond (R150). -/
def Channel.passMs (ch : Channel) : Channel :=
  if ch.waitRuns then { ch with wait := ch.wait.map fun t => t - 1 } else ch

/-- Supply and reset line after one more millisecond (R195). -/
def Power.passMs (p : Power) : Power := { p with lowFor := p.lowFor.map (· + 1) }

/-- One millisecond of uptime passes (R41): running dwells and wait limits and the time of a low reset line move with
it. -/
def passMs (s : State) : State :=
  { s with
    power := s.power.passMs
    clock := { s.clock with uptime := s.clock.uptime + 1 }
    arb := { s.arb with pool := s.arb.pool.map fun r => { r with dwell := r.dwell.passMs } }
    channels := Vector.ofFn fun c => (s.channel c).passMs }

/-- The part with no command waiting (log 2). -/
def idle (s : State) : State :=
  if !s.power.on then s
  else match dueEvents s with
    | [] => passMs s
    | cs => { s with pending := cs }

end Sys2Proof.Machine
end

