-- ==== Sys2Proof/Safety.lean ====
section
/-! DEFINITION. What the claims call a well-kept state: the bounds that the rules give the port, the links, the clock and
the declaration, which every step keeps. -/

namespace Sys2Proof.Machine

/-- The Site Port is well kept: the report list holds each key at most once and none of a masked kind (R188, R190), the
input queue holds at most four requests (R180), and the error summary holds each flag at most once (R185). -/
def SitePort.WellKept (p : SitePort) : Prop :=
  p.reports.Nodup ∧ (∀ k ∈ p.reports, k.kind ∉ p.masks) ∧ p.queue.length ≤ Config.inputCapacity ∧ p.errors.Nodup

/-- A link is well kept: at most four notices (R36), a streak of at most 255 (R27), an 8-bit generation (R32) and a 16-bit
ACK count (R31). -/
def Link.WellKept (l : Link) : Prop :=
  l.notices.length ≤ Config.noticeCapacity ∧ l.invalidStreak ≤ 255 ∧ l.generation < 256 ∧ l.ackCount < 65536

/-- Every slot's effective wind state is the higher of its own state and the site declaration (R116). -/
def State.WindWellKept (s : State) : Prop :=
  ∀ c, (s.windOf c).effective = (s.windOf c).own.higher s.wind.declaration

/-! ## The port taking one request -/

/-- The port takes a request in the event that brings it: power is applied, no request waits or is in hand, the reply slot
is empty and no RESET is on its way (R181, R183). -/
def State.Ready (s : State) : Prop :=
  s.power.on = true ∧ s.port.queue = [] ∧ s.port.hand = none ∧ s.port.slot = none ∧ s.port.resetProgress = .none

/-- The state in which a request that is taken at once is judged: its arrival and its taking are counted as events, and the
storm phases and storm-blocked marks are up to date (R90, R118). -/
def State.judging (s : State) : State := nextEvent (refreshAll (nextEvent s))

/-- The state after a request judged in state u is answered. -/
def replied (tag : Byte) (kind : Nat) (a : Answer) (u : State) : State := refreshAll (placeReply tag kind a u)

/-- The reply stands where R182 puts it: begun on an idle line, and otherwise waiting in the reply slot behind the frame
being sent. Nothing is begun while the reset line is low (R195). -/
def Carries (s t : State) (r : Reply) : Prop :=
  (s.port.tx = none ∧ s.power.lowFor = none → t.port.tx = some (.reply r) ∧ t.port.slot = none) ∧
  (¬(s.port.tx = none ∧ s.power.lowFor = none) → t.port.tx = s.port.tx ∧ t.port.slot = some r)

/-- t is u but for the report list, the reply, the model's event counter, and the storm phase and storm-blocked mark of
each crane's wind record, which every event brings up to date. -/
structure SameButReply (u t : State) : Prop where
  pending : t.pending = u.pending
  power : t.power = u.power
  geo : t.geo = u.geo
  links : t.links = u.links
  clock : t.clock = u.clock
  engines : t.engines = u.engines
  arb : t.arb = u.arb
  wind : ∀ c, t.windOf c = { u.windOf c with phase := (t.windOf c).phase, blocked := (t.windOf c).blocked }
  declaration : t.wind.declaration = u.wind.declaration
  bucketPhase : t.wind.bucketPhase = u.wind.bucketPhase
  bookings : t.bookings = u.bookings
  plans : t.plans = u.plans
  channels : t.channels = u.channels
  status : t.status = u.status
  receiver : t.port.receiver = u.port.receiver
  queue : t.port.queue = u.port.queue
  hand : t.port.hand = u.port.hand
  masks : t.port.masks = u.port.masks
  errors : t.port.errors = u.port.errors
  resetProgress : t.port.resetProgress = u.port.resetProgress

/-- A request of tag and kind, taken at once in state s, is answered with code and fields, and the state is then u but for
what `SameButReply` names. -/
def Answered (i : Instr) (s : State) (tag : Byte) (kind : Nat) (code : ReplyCode) (body : ReplyBody) (u : State) : Prop :=
  ∃ t, exec i s = .next t ∧ Carries s t ⟨tag, kind, code, body⟩ ∧ SameButReply u t

/-- A request is answered with a code alone and changes nothing else. -/
def RefusedWith (i : Instr) (s : State) (tag : Byte) (kind : Nat) (code : ReplyCode) : Prop :=
  Answered i s tag kind code .empty s

/-! ## Events that take no request -/

/-- No request is taken in the next event: none waits, or one is in hand, or a RESET is on its way, or a reply waits that
cannot be begun (R181, R183). -/
def State.NoTake (s : State) : Prop :=
  s.port.queue = [] ∨ s.port.hand ≠ none ∨ s.port.resetProgress ≠ .none ∨
    (s.port.slot ≠ none ∧ (s.port.tx ≠ none ∨ s.power.lowFor ≠ none))

/-- t is u but for the report list, reply slot and transmitter of the Site Port, the model's event counter, the storm phase
and storm-blocked mark of each crane's wind record, and an ended booking whose report has begun and which has left the
table (R140). -/
structure SameButPort (u t : State) : Prop where
  pending : t.pending = u.pending
  power : t.power = u.power
  geo : t.geo = u.geo
  links : t.links = u.links
  clock : t.clock = u.clock
  engines : t.engines = u.engines
  arb : t.arb = u.arb
  wind : ∀ c, t.windOf c = { u.windOf c with phase := (t.windOf c).phase, blocked := (t.windOf c).blocked }
  declaration : t.wind.declaration = u.wind.declaration
  bucketPhase : t.wind.bucketPhase = u.wind.bucketPhase
  bookingsFrom : ∀ b ∈ t.bookings, b ∈ u.bookings
  bookingsKept : ∀ b ∈ u.bookings, (∀ e ∈ u.bookings, e.number = b.number → e.state.ended = false) → b ∈ t.bookings
  plans : t.plans = u.plans
  channels : t.channels = u.channels
  status : t.status = u.status
  receiver : t.port.receiver = u.port.receiver
  queue : t.port.queue = u.port.queue
  hand : t.port.hand = u.port.hand
  masks : t.port.masks = u.port.masks
  errors : t.port.errors = u.port.errors
  resetProgress : t.port.resetProgress = u.port.resetProgress

/-- An event leaves the state u but for what `SameButPort` names. -/
def Leaves (i : Instr) (s u : State) : Prop := ∃ t, exec i s = .next t ∧ SameButPort u t

/-! ## Starts -/

/-- The values of every block after a power-on or site reset with a start cause, over an image that is valid or not
(R18, R38, R49, R79, R104, R124, R142, R145, R163, R177, R191). Each configured link has placed its link-made frame as generation 1; it sends it on a line that is high, and keeps
it in its limit slot while the reset line is low (R195). `line` is how long the reset line has been low. That the kinds
masked are those not among the profile's report kinds is the model's reading (log 8). -/
structure StartedWith (cause : StartCause) (line : Option Ms) (image : Option Image) (rest : List Instr) (t : State) :
    Prop where
  pending : t.pending = rest
  power : t.power = { on := true, lowFor := line, startCause := cause }
  imageIs : t.geo.image = image
  restored : ∀ i, image = some i →
    t.geo.mode = .operate ∧ t.geo.slots = i.slots ∧ t.geo.profile = i.profile ∧
      ∀ z, t.entry z = deriveEntry i.slots z
  empty : image = none →
    t.geo.mode = .survey ∧ (∀ c, t.slotOf c = .unconfigured) ∧ t.geo.profile = SiteProfile.default ∧
      ∀ z, t.entry z = { kind := .unused, members := [] }
  clock : t.clock =
    { uptime := 0, minute := none, minutePhase := none, prescaler := t.geo.profile.prescaler, tickBegan := 0
      tickLength := (t.geo.profile.prescaler + 1) * 250 }
  unused : ∀ c, t.record? c = none → t.link c = .unused ∧ t.crane c = .fresh .offline
  waiting : ∀ c r, t.record? c = some r →
    t.crane c = .fresh .joining ∧
    t.link c =
      { Link.unused with
        state := .waiting, generation := 1
        slot := if line = none then none else some ⟨1, linkMadeFrame t.geo.mode r⟩
        tx := if line = none then some (.limit ⟨1, linkMadeFrame t.geo.mode r⟩) else none
        lastSent := if line = none then some ⟨1, linkMadeFrame t.geo.mode r⟩ else none
        repeatFrom := if line = none then some 0 else none
        inForce := some ⟨false, (linkMadeFrame t.geo.mode r).mode⟩ }
  engines : ∀ c, t.engine c = .cleared
  arb : t.arb = .cleared
  wind : (∀ c, t.windOf c = .cleared) ∧ t.wind.declaration = .calm ∧ t.wind.bucketPhase = 0
  bookings : t.bookings = []
  plans : ∀ p, t.plan? p = none
  channels : ∀ c, t.channel c = .cleared
  port : t.port = .cleared (allKinds.filter fun k => !t.geo.profile.reportKinds.contains k)

/-- The image that a reset or loss of power leaves (R17's last table): with no survey exit in flight it is untouched. -/
def State.imageLeft (s : State) (moment : WriteMoment) : Option Image :=
  if s.port.hand = none then s.geo.image
  else match moment with
    | .beforeMark => s.geo.image
    | .beforeCrc => none
    | .afterCrc => some s.presentImage

/-! ## What statements about zones and bookings ask of the rest of the state -/

/-- No claim waits in any zone, and no zone is reserved: the arbiter has no grant test to make. -/
def State.NoWaiting (s : State) : Prop := ∀ z, (s.zone z).waiting = [] ∧ (s.zone z).reservedFor = none

/-- No booking of the crane is READY, so that start gating finds nothing to start. -/
def State.NoneReady (s : State) (c : Slot) : Prop := ∀ b ∈ s.bookings, b.crane = c → b.state ≠ .ready

/-- The booking of a number is in a state with an outcome, or its entry has been freed (R140). -/
def State.EndedAs (s : State) (n : Nat) (st : BookingState) (out : BookingOutcome) : Prop :=
  ∀ b, s.booking? n = some b → b.state = st ∧ b.outcome = some out

/-- t has the site's geometry, clock, plans and operating states of s. -/
def State.KeepsSite (s t : State) : Prop :=
  t.geo = s.geo ∧ t.clock = s.clock ∧ t.plans = s.plans ∧ t.status = s.status

/-- Booking numbers are used once in the table (R125, R127). -/
def State.NumbersUnique (s : State) : Prop := (s.bookings.map (·.number)).Nodup

/-- In SURVEY no crane is IN_SERVICE (R12, R164). -/
def State.SurveyIdle (s : State) : Prop := s.geo.mode = .survey → ∀ c, (s.crane c).state ≠ .inService

/-- The bookings and the channels agree: the RUNNING bookings are those on the channels of their cranes (R125, R145); an
INTERRUPTED one has its saved context and is the one that the RUNNING booking of its crane returns to, so that a crane has at
most one (R134); no booking of a crane in LOCKOUT or OFFLINE is READY or RUNNING (R130); and in SURVEY none is RUNNING or
INTERRUPTED (R12). -/
structure State.BookingsAgree (s : State) : Prop where
  numbers : s.NumbersUnique
  current : ∀ c n, (s.channel c).booking = some n → ∃ b, s.booking? n = some b ∧ b.crane = c ∧ b.state = .running
  running : ∀ b ∈ s.bookings, b.state = .running → (s.channel b.crane).booking = some b.number
  interrupted : ∀ x ∈ s.bookings, x.state = .interrupted → x.saved ≠ none ∧
    ∃ u ∈ s.bookings, u.crane = x.crane ∧ u.state = .running ∧ u.returnsTo = some x.number
  returns : ∀ u ∈ s.bookings, ∀ n, u.returnsTo = some n → u.state = .running ∧
    ∃ x ∈ s.bookings, x.number = n ∧ x.crane = u.crane ∧ x.state = .interrupted
  heldBack : ∀ b ∈ s.bookings, ((s.crane b.crane).state = .lockout ∨ (s.crane b.crane).state = .offline) →
    b.state ≠ .ready ∧ b.state ≠ .running
  survey : s.geo.mode = .survey → ∀ b ∈ s.bookings, b.state ≠ .running ∧ b.state ≠ .interrupted

/-- The arbiter is bounded: at most 96 pool records are in use (R82), a zone that a storm record holds is held by that
record's own crane (R81, R91), and no closure holds a zone (R100). -/
structure State.ArbiterBounded (s : State) : Prop where
  pool : s.arb.pool.length ≤ Config.poolSize
  storm : ∀ z c d, (s.zone z).holding = .held c (.storm d) → d = c
  closure : ∀ z c k, (s.zone z).holding ≠ .held c (.closure k)

end Sys2Proof.Machine
end

