-- ==== Sys2Proof/Certificates/Slice0/Obligations.lean ====
section
/-! DEFINITION. The statements for the provers. -/

open Sys2Proof Sys2Proof.Machine

/-! ## Steps, starts and the site line -/

/-- A step takes the command at the front of the queue: it is `exec` of that command with the queue's rest. -/
def Obligations.StepRunsFront : Prop :=
  ∀ (i : Instr) (rest : List Instr) (s : State),
    s.pending = i :: rest → step s = exec i { s with pending := rest }

/-- With no command waiting and no event of the part's own due, a step lets one millisecond of uptime pass, and changes
besides only dwells and wait limits that run and the time of a low reset line. The step on an empty queue is the model's
choice (log 2). -/
def Obligations.IdleStepPassesTime : Prop :=
  ∀ s : State, s.pending = [] → s.power.on = true → dueEvents s = [] →
    ∃ t, step s = .next t ∧ t.clock = { s.clock with uptime := s.clock.uptime + 1 } ∧ t.pending = [] ∧
      t.power = { s.power with lowFor := s.power.lowFor.map fun low => low + 1 } ∧
      t.geo = s.geo ∧ t.links = s.links ∧ t.engines = s.engines ∧ t.wind = s.wind ∧ t.bookings = s.bookings ∧
      t.plans = s.plans ∧ t.status = s.status ∧ t.port = s.port ∧ t.arb.zones = s.arb.zones ∧
      t.arb.storms = s.arb.storms ∧ t.arb.stamp = s.arb.stamp ∧
      t.arb.pool = s.arb.pool.map (fun r => { r with dwell := r.dwell.passMs }) ∧
      ∀ c, t.channel c = (s.channel c).passMs

/-- The values right after reset, over an invalid image: SURVEY, every slot unconfigured, the profile's defaults, every zone
UNUSED and FREE, uptime 0, the minute UNSET, a first tick of 1,000 ms, nothing claimed, booked, loaded or queued. The
image's invalidity, which kinds the port masks, and that the reset line is high are the model's choices (logs 1, 8 and
16). -/
def Obligations.ResetValues : Prop :=
  StartedWith .powerOn none none [] State.reset ∧ State.reset.clock.prescaler = 3 ∧ State.reset.clock.tickLength = 1000 ∧
    State.reset.profile.holdGust = 200 ∧ (∀ c, (State.reset.crane c).state = .offline) ∧
    (∀ z, (State.reset.zone z).holding = .free ∧ (State.reset.zone z).waiting = [])

/-- POWER_ON starts every block over the image as it stands. That the kinds masked are those not among the profile's report
kinds, that a supply already on makes no difference, and that the reset line is high after it even where a low was recorded
are the model's choices (logs 8, 14 and 16). -/
def Obligations.PowerOnStarts : Prop :=
  ∀ s : State, ∃ t, exec .powerOn s = .next t ∧ StartedWith .powerOn none s.geo.image s.pending t

/-- LOSS_OF_POWER: the supply is off, and the image is left as the phase of an interrupted write says. Everything else of
every block stands until the next POWER_ON, and a loss of power with the supply off does nothing; both, and that the
command carries the phase, are the model's choices (logs 14 and 23). The events field is the model's own (log 3). -/
def Parts.LossOfPowerLeavesImage : Prop :=
  ∀ (m : WriteMoment) (s : State),
    (s.power.on = true → exec (.lossOfPower m) s = .next
      { s with
        power := { s.power with on := false }, geo := { s.geo with image := s.imageLeft m }, events := s.events + 1 }) ∧
    (s.power.on = false → exec (.lossOfPower m) s = .next s)

/-- RESET_LINE_LOW: the reset line is low from now, or on as long as it was already; the part begins nothing on the site
line while it is low. That a frame being sent stays in the transmitter, that a repeated low keeps its count, and that all
else goes on are the model's choices (log 16). -/
def Parts.ResetLineLowIsHeld : Prop :=
  ∀ s : State, s.power.on = true → s.NoTake →
    ∃ t, exec .resetLineLow s = .next t ∧
      SameButPort { s with power := { s.power with lowFor := some (s.power.lowFor.getD 0) } } t ∧
      t.port.tx = s.port.tx

/-- LOSS_OF_POWER and RESET_LINE_LOW: what they leave of the image and of the state. That the state stands through a loss of
power is the model's choice (log 23), and so is what goes on while the reset line is low (log 16). -/
def Obligations.PowerAndLineGoDown : Prop := Parts.LossOfPowerLeavesImage ∧ Parts.ResetLineLowIsHeld

/-- RESET_LINE after a low of 10 ms or more, or with no low recorded (the model's choice, log 16), gives a site reset with
start cause RESET_LINE; an image being written is left as its phase says. -/
def Parts.ResetLineResets : Prop :=
  ∀ (m : WriteMoment) (s : State), s.power.on = true →
    (s.power.lowFor = none ∨ ∃ low, s.power.lowFor = some low ∧ 10 ≤ low) →
    ∃ t, exec (.resetLine m) s = .next t ∧ StartedWith .resetLine none (s.imageLeft m) s.pending t

/-- What an idle cab transmitter of crane c begins between states s and t: the frame of its limit slot, and with none its
head notice; with neither it stays idle. The place a notice leaves goes to the notice of a running NOTIFY step in
WAITING_SLOT, which completes, or of an ACK step, which then waits for its ACK. -/
def Parts.CabBegins (c : Slot) (s t : State) : Prop :=
  (∀ f, (s.link c).slot = some f →
    t.link c = { s.link c with tx := some (.limit f), slot := none, lastSent := some f, repeatFrom := some s.now } ∧
      t.channel c = s.channel c) ∧
  ((s.link c).slot = none →
    ((s.link c).notices = [] → t.link c = s.link c ∧ t.channel c = s.channel c) ∧
    (∀ n rest, (s.link c).notices = n :: rest →
      let sent := { s.link c with tx := some (.notice n), notices := rest }
      ((s.channel c).state ≠ .active ∨ (s.channel c).phase ≠ .waitingSlot →
        t.link c = sent ∧ t.channel c = s.channel c) ∧
      ((s.channel c).state = .active → (s.channel c).phase = .waitingSlot →
        (∀ code p1 p2, s.step? c = some (.notify code p1 p2) →
          t.link c = { sent with notices := rest ++ [.coded code false p1 p2] } ∧
            t.channel c = (s.channel c).completed ((s.channel c).step + 1)) ∧
        (∀ code limit o b, s.step? c = some (.ack code limit o) → (s.channel c).booking = some b →
          t.link c = { sent with notices := rest ++ [.coded code true b (s.channel c).step] } ∧
            t.channel c = { s.channel c with phase := .waitingAck }) ∧
        ((∀ code p1 p2, s.step? c ≠ some (.notify code p1 p2)) → (∀ code limit o, s.step? c ≠ some (.ack code limit o)) →
          t.link c = sent ∧ t.channel c = s.channel c))))

/-- RESET_LINE after a low shorter than 10 ms is ignored: the line is high, and no block's state is reset. An idle cab
transmitter goes on with its limit slot, else with its head notice, whose place a waiting step may take; an idle site
transmitter goes on with a waiting reply. A port that begins its waiting reply then takes the head of its queue in the same
event (log 15). -/
def Parts.ShortLowIsIgnored : Prop :=
  ∀ (m : WriteMoment) (s : State) (low : Ms), s.power.on = true → s.power.lowFor = some low → low < 10 →
    ∃ t, exec (.resetLine m) s = .next t ∧
      (s.port.queue = [] ∨ s.port.hand ≠ none ∨ s.port.resetProgress ≠ .none ∨
          (s.port.slot ≠ none ∧ s.port.tx ≠ none) →
        SameButPort
          { s with power := { s.power with lowFor := none }, links := t.links, channels := t.channels } t ∧
        (∀ c, (s.link c).tx ≠ none → t.link c = s.link c ∧ t.channel c = s.channel c) ∧
        (∀ c, (s.link c).tx = none → Parts.CabBegins c s t) ∧
        (∀ r, s.port.slot = some r →
          (s.port.tx = none → t.port.tx = some (.reply r) ∧ t.port.slot = none) ∧
          (s.port.tx ≠ none → t.port.tx = s.port.tx ∧ t.port.slot = some r))) ∧
      (∀ r q rest, s.port.hand = none → s.port.resetProgress = .none → s.port.tx = none → s.port.slot = some r →
        s.port.queue = q :: rest →
        t.port.tx = some (.reply r) ∧ t.port.queue = rest ∧ t.power = { s.power with lowFor := none } ∧
          (t.port.slot ≠ none ∨ t.port.hand = some q.tag))

/-- RESET_LINE completes in every state and for every phase of an interrupted write: with the supply off it does nothing
(the model's choice, log 14), and with the supply on it leaves the line high, with start cause RESET_LINE and uptime 0 after a
low of 10 ms or more, and with the start cause and the uptime of before after a shorter one. -/
def Parts.ResetLineCompletes : Prop :=
  ∀ (m : WriteMoment) (s : State), ∃ t, exec (.resetLine m) s = .next t ∧
    (s.power.on = false → t = s) ∧
    (s.power.on = true → t.power.on = true ∧ t.power.lowFor = none ∧ t.pending = s.pending ∧
      ∀ low, s.power.lowFor = some low →
        (10 ≤ low → t.power.startCause = .resetLine ∧ t.clock.uptime = 0) ∧
        (low < 10 → t.power.startCause = s.power.startCause ∧ t.clock.uptime = s.clock.uptime))

/-- The two site resets that R195 and R183 give. RESET_LINE completes in every state: a low of 10 ms or more gives a site
reset with start cause RESET_LINE, and a shorter one is ignored. SITE_RESET, once the reply of a RESET has been sent whole,
starts every block with start cause RESET_REQUEST, the reset line standing as it stood. The kinds masked after a reset are
by log 8, that a low not recorded counts as long by log 16, the request taken as a waiting reply begins by log 15, the phase
of an interrupted write by log 23, when a SITE_RESET is due by log 20, and that it does nothing before, or that either does
nothing without power, by log 14. -/
def Obligations.SiteResetStarts : Prop :=
  Parts.ResetLineResets ∧ Parts.ShortLowIsIgnored ∧ Parts.ResetLineCompletes ∧ ∀ s : State, s.power.on = true →
    (s.port.resetProgress = .due →
      ∃ t, exec .siteReset s = .next t ∧ StartedWith .resetRequest s.power.lowFor s.geo.image s.pending t) ∧
    (s.port.resetProgress ≠ .due → s.NoTake → Leaves .siteReset s s)

/-- A site frame as its sender builds it, arriving whole at a hunting receiver, is offered to the input queue as exactly
its kind, tag and fields. That the port then takes requests while it may (R181) in the event of the frame's arrival is the
model's reading (log 15). -/
def Obligations.SiteFrameIsReceived : Prop :=
  ∀ (kind tag : Byte) (fields : List Byte) (s : State), fields.length ≤ 1198 → s.power.on = true →
    s.port.receiver = .hunting → (s.portReady = false ∨ s.port.queue = []) →
    exec (.siteFrame (siteFrame (kind :: tag :: fields))) s =
      .next (finish (pump 5 (offer ⟨tag, .frame kind fields⟩ (nextEvent s))))

/-- A character with a bad stop bit inside a frame, and 100 ms of silence inside a frame, discard the frame with
FRAME_ERROR, and the receiver hunts. Outside a frame neither does anything, nor does a SITE_RX_TIMEOUT before the 100 ms
have passed: a command that is not due (the model's choice, log 14). -/
def Obligations.BrokenFrameIsDiscarded : Prop :=
  ∀ (s : State), s.power.on = true → s.NoTake →
    (∀ bytes e at_, s.port.receiver = .inFrame bytes e at_ →
      Leaves .badStopBit s (addError .frameError { s with port := { s.port with receiver := .hunting } }) ∧
      (at_ + 100 ≤ s.now →
        Leaves .siteRxTimeout s (addError .frameError { s with port := { s.port with receiver := .hunting } })) ∧
      (s.now < at_ + 100 → Leaves .siteRxTimeout s s)) ∧
    (s.port.receiver = .hunting → Leaves .badStopBit s s ∧ Leaves .siteRxTimeout s s)

/-- SITE_TX_DONE with no request to take: of a waiting reply and the report list, the reply is begun first; with no reply
waiting the report of the head key is begun with the state as it stands then, and its key leaves the list; with neither
the transmitter is idle. What a report of an unconfigured slot's WIND or CHANNEL carries is the model's choice (log 82). -/
def Parts.TxDoneBegins : Prop :=
  ∀ (s : State) (f : PortOutbound), s.power.on = true → s.power.lowFor = none → s.port.tx = some f →
    s.port.resetProgress = .none → (s.port.queue = [] ∨ s.port.hand ≠ none) →
    ∃ t, exec .siteTxDone s = .next t ∧ SameButPort s t ∧
      (∀ r, s.port.slot = some r → t.port.tx = some (.reply r) ∧ t.port.slot = none) ∧
      (s.port.slot = none → ∀ u, u = refreshAll { s with port := { s.port with tx := none } } →
        (∀ k rest, u.port.reports = k :: rest →
          t.port.tx = some (.report k (u.snapshot k)) ∧ (∀ x ∈ t.port.reports, x ∈ rest) ∧
          (u.endedKey k = none → t.port.reports = rest ∧ t.bookings = s.bookings) ∧
          (∀ n, u.endedKey k = some n → t.booking? n = none)) ∧
        (u.port.reports = [] → t.port.tx = none ∧ t.port.reports = []))

/-- SITE_TX_DONE with a reply waiting and requests in the queue: the reply is begun, and as the reply slot is empty the head
of the queue is taken in the same event (log 15), with its checks and effects in the state as it then stands. -/
def Parts.TxDoneTakesNext : Prop :=
  ∀ (s : State) (f : PortOutbound) (r : Reply) (q : QueuedRequest) (rest : List QueuedRequest), s.power.on = true →
    s.power.lowFor = none → s.port.tx = some f → s.port.resetProgress = .none → s.port.hand = none →
    s.port.slot = some r → s.port.queue = q :: rest →
    ∀ u v, u = refreshAll (nextEvent { s with port := { s.port with tx := none } }) →
      v = nextEvent { u with port := { u.port with tx := some (.reply r), slot := none, queue := rest } } →
      ∃ t, exec .siteTxDone s = .next t ∧ t = refreshAll (takeRequest q v) ∧ t.port.tx = some (.reply r) ∧
        t.port.queue = rest ∧
        ∀ k a, q.content = .typed k → (dispatch k v).2 = some a → t.port.slot = some ⟨q.tag, k.kind, a.code, a.body⟩

/-- SITE_TX_DONE while a RESET is on its way: the end of the RESET's own reply makes the site reset due, and nothing more is
begun; the end of another frame begins the reply that waits. That no request is taken and no report begun before the site
reset is the model's reading (log 20). -/
def Parts.TxDoneDuringReset : Prop :=
  ∀ (s : State) (f : PortOutbound), s.power.on = true → s.power.lowFor = none → s.port.tx = some f →
    s.port.resetProgress = .taken →
    (∀ tag body, f = .reply ⟨tag, 2, .ok, body⟩ → s.port.slot = none →
      ∃ t, exec .siteTxDone s = .next t ∧ t.port.tx = none ∧ t.port.slot = none ∧
        SameButPort { s with port := { s.port with resetProgress := .due } } t) ∧
    (∀ r, (∀ tag body, f ≠ .reply ⟨tag, 2, .ok, body⟩) → s.port.slot = some r →
      ∃ t, exec .siteTxDone s = .next t ∧ t.port.tx = some (.reply r) ∧ t.port.slot = none ∧ SameButPort s t)

/-- SITE_TX_DONE: what the transmitter begins next, the request that is taken when the reply slot empties (log 15), and the
end of RESET's reply, after which nothing is taken or begun before the site reset (log 20); the report of an unconfigured slot
is by log 82. With nothing being sent (a
command not due, log 14) it changes nothing of its own, and while the reset line is low (log 16) it leaves the transmitter
and the reply slot too as they are. -/
def Obligations.SiteTxDoneChooses : Prop :=
  Parts.TxDoneBegins ∧ Parts.TxDoneTakesNext ∧ Parts.TxDoneDuringReset ∧
    ∀ s : State, s.power.on = true → s.NoTake →
      ((s.port.tx = none ∨ s.power.lowFor ≠ none) → Leaves .siteTxDone s s) ∧
      (s.power.lowFor ≠ none → ∃ t, exec .siteTxDone s = .next t ∧ SameButPort s t ∧ t.port.tx = s.port.tx ∧
        t.port.slot = s.port.slot)

/-! ## Requests at the port -/

/-- A request that arrives at a port ready to take it is taken in the same event: its checks and effects are those that
`dispatch` gives it in the state as it stands, and its reply is placed with its tag and kind. That it is taken in the
event of its own arrival is the model's choice (logs 15 and 17). -/
def Obligations.ReadyPortAnswers : Prop :=
  ∀ (i : Instr) (tag : Byte) (r : Request) (s : State) (a : Answer), i.request? = some (tag, r) → s.Ready →
    (dispatch r s.judging).2 = some a →
    exec i s = .next (replied tag r.kind a (dispatch r s.judging).1) ∧
      Carries s (replied tag r.kind a (dispatch r s.judging).1) ⟨tag, r.kind, a.code, a.body⟩

/-- Between s and t no reply is placed: an empty reply slot stays empty, with no other reply on the line than before; a
reply that waits behind a frame being sent, or for the reset line, goes on waiting behind the same frame; and on an idle
line that is high the reply that waits is begun. -/
def Parts.RepliesNothing (s t : State) : Prop :=
  (s.port.slot = none → t.port.slot = none ∧ ∀ r, t.port.tx = some (.reply r) → s.port.tx = some (.reply r)) ∧
  (s.port.tx ≠ none ∨ s.power.lowFor ≠ none → t.port.tx = s.port.tx ∧ t.port.slot = s.port.slot) ∧
  (∀ r, s.port.slot = some r → s.port.tx = none → s.power.lowFor = none →
    t.port.tx = some (.reply r) ∧ t.port.slot = none)

/-- A request that arrives while none can be taken joins the tail of the input queue when it holds fewer than four, and
otherwise is discarded with RX_OVERRUN. Nothing is replied to it. That none is taken between a RESET and its site reset is
the model's reading (log 20). -/
def Obligations.BusyPortQueues : Prop :=
  ∀ (i : Instr) (tag : Byte) (r : Request) (s : State), i.request? = some (tag, r) → s.power.on = true →
    (s.port.hand ≠ none ∨ s.port.resetProgress ≠ .none ∨
      (s.port.slot ≠ none ∧ (s.port.tx ≠ none ∨ s.power.lowFor ≠ none))) →
    (s.port.queue.length < 4 → ∃ t, exec i s = .next t ∧ Parts.RepliesNothing s t ∧
      SameButPort { s with port := { s.port with queue := s.port.queue ++ [⟨tag, .typed r⟩] } } t) ∧
    (4 ≤ s.port.queue.length → ∃ t, exec i s = .next t ∧ Parts.RepliesNothing s t ∧
      SameButPort (addError .rxOverrun s) t)

/-- UNKNOWN_REQUEST: a frame of a kind outside 1..35 is answered UNKNOWN_REQUEST with its own tag and kind, and the flag is
added. -/
def Parts.UnknownKindIsAnswered : Prop :=
  ∀ (tag kind : Byte) (s : State), s.Ready → (kind.toNat = 0 ∨ 35 < kind.toNat) →
    Answered (.unknownRequest tag kind) s tag kind.toNat .unknownRequest .empty (addError .unknownRequest s)

/-- What READ_CLOCK shows. At the instant at which a minute or a tick is due to end, the last millisecond of it (the model's
choice, log 51). -/
def Parts.ClockReading : Prop :=
  ∀ s : State,
    s.readClock.uptime = s.clock.uptime.toNat ∧ s.readClock.minute = s.clock.minute ∧
      (s.clock.minutePhase = none → s.readClock.intoMinute = none) ∧
      (∀ t, s.clock.minutePhase = some t →
        s.readClock.intoMinute = some (if s.now - t < 60000 then s.now - t else 59999)) ∧
      s.readClock.prescaler = s.clock.prescaler ∧ s.readClock.tickLength = s.clock.tickLength ∧
      s.readClock.intoTick =
        (if s.now - s.clock.tickBegan < s.clock.tickLength then s.now - s.clock.tickBegan else s.clock.tickLength - 1) ∧
      s.readClock.startCause = s.power.startCause

/-- Crane c is storm-blocked: its storm record waits in a zone HELD by another crane's STORM claim. -/
def Parts.StormBlocked (s : State) (c : Slot) : Prop :=
  ∃ cz ∈ (s.storm c).zones, cz.status = .waiting ∧ ∃ d e, (s.zone cz.zone).holding = .held d (.storm e) ∧ d ≠ c

/-- What READ_CRANE shows of the link, and whether the crane is storm-blocked. -/
def Parts.LinkReading : Prop :=
  ∀ (s : State) (c : Slot) k, s.readCrane c = some k →
    (k.stormBlocked = true ↔ Parts.StormBlocked s c) ∧ k.link.invalidStreak = (s.link c).invalidStreak ∧
      k.link.lastInvalid = (s.link c).lastInvalid ∧ k.link.lastAck = (s.link c).lastAck ∧
      k.link.ackCount = (s.link c).ackCount ∧ ((s.link c).lastSent = none → k.link.lastSentGeneration = none) ∧
      (∀ f, (s.link c).lastSent = some f → k.link.lastSentGeneration = some f.generation) ∧
      ((s.link c).lastPose = none → k.link.sinceAccepted = none) ∧
      (∀ p, (s.link c).lastPose = some p → k.link.sinceAccepted = some (s.now - p.acceptedAt)) ∧
      (k.link.stepWaits = true ↔ (s.channel c).state = .active ∧ (s.channel c).phase = .waitingSlot)

/-- What READ_ZONE shows of the claims: id, booking and stamp of the holder claim, its conversion-pending mark, the
engagement and dwell of a TRANSIT holder, the substate of a STORM holder, the reserved-for claim, and of each entry of the
list its key, whether it is passed over and whether it is storm-blocked. That the reserved-for claim shows its id, booking and
stamp, and an entry two marks, is the model's choice (log 80). -/
def Parts.ZoneClaimReadings : Prop :=
  ∀ (s : State) (z : ZoneId),
    (∀ c ref, (s.zone z).holding = .held c ref →
      ((s.readZone z).conversionPending = true ↔ ∃ cz ∈ s.claimZones ref, cz.zone = z ∧ cz.pending ≠ none)) ∧
    (∀ c n r, (s.zone z).holding = .held c (.pool n) → s.poolRec? n = some r →
      (∃ x, (s.readZone z).holder = some (c, x) ∧ x.id = r.id ∧ x.booking = r.booking ∧ x.stamp = n) ∧
      (s.readZone z).evicting = none ∧
      (r.kind = .standing → (s.readZone z).dwell = none) ∧
      (r.kind = .transit → ∃ engaged, (s.readZone z).dwell = some (engaged, r.dwell) ∧
        (engaged = true ↔ z ∈ (s.engine c).occupancy ∨ z ∈ (s.engine c).reach))) ∧
    (∀ c d, (s.zone z).holding = .held c (.storm d) →
      (∃ x, (s.readZone z).holder = some (c, x) ∧ x.id = 96 + d.val ∧ x.booking = none ∧ x.stamp = (s.storm d).stamp) ∧
      (s.readZone z).evicting = some (decide ((s.zone z).evictees ≠ [])) ∧ (s.readZone z).dwell = none) ∧
    ((s.zone z).reservedFor = none → (s.readZone z).reservedFor = none) ∧
    (∀ n r, (s.zone z).reservedFor = some n → s.poolRec? n = some r →
      ∃ x, (s.readZone z).reservedFor = some x ∧ x.id = r.id ∧ x.booking = r.booking ∧ x.stamp = n) ∧
    ∀ (i : Nat) (x : ClaimRef) e, (s.zone z).waiting[i]? = some x → (s.readZone z).waiting[i]? = some e →
      e.claim.rank = (s.key x).rank ∧ e.claim.priority = (s.key x).priority ∧ e.claim.stamp = (s.key x).stamp ∧
        (e.passedOver = true ↔ ∃ c, s.claimCrane? x = some c ∧ (s.link c).state = .stale) ∧
        (e.stormBlocked = true ↔ ∃ c d f, x = .storm c ∧ (s.zone z).holding = .held d (.storm f) ∧ d ≠ c)

/-- What READ_WIND shows of samples, streaks, own values, source, timers and the bucket phase, and whether the crane is
storm-blocked; and the interrupted booking in READ_CHANNEL. -/
def Parts.WindAndChannelReadings : Prop :=
  ∀ (s : State) (c : Slot),
    (s.readWind c).buckets = (s.windOf c).buckets ∧ (s.readWind c).missing = (s.windOf c).missing ∧
      (s.readWind c).recovering = (s.windOf c).recovering ∧ (s.readWind c).source = (s.windOf c).source ∧
      (s.readWind c).ownGust = (s.windOf c).ownGust ∧ (s.readWind c).ownMean = (s.windOf c).ownMean ∧
      (s.readWind c).calmDown = ((s.windOf c).calmDown.map fun x => (x.1, s.now - x.2)) ∧
      (s.readWind c).stormAfterHold = ((s.windOf c).stormAfterHold.map fun t => s.now - t) ∧
      (s.readWind c).channelCalm = ((s.channel c).calmFrom.map fun t => s.now - t) ∧
      (s.readWind c).intoBucket = s.now - s.wind.bucketPhase ∧
      ((s.readWind c).stormBlocked = true ↔ Parts.StormBlocked s c) ∧
      ∀ b n x saved, s.current? c = some b → b.returnsTo = some n → s.booking? n = some x → x.saved = some saved →
        (s.readChannel c).interrupted = some (x.number, saved.step, saved.phase)

/-- What READ_CRANE and READ_ZONE show: the record, operating state, link, computation, sets, flags and holdings of a
configured crane; kind, members, status, holder, evictees, co-claims and the order of the waiting list of a zone. -/
def Parts.CraneAndZoneReadings : Prop :=
  ∀ s : State,
    (∀ d, s.claimKind (.storm d) = .storm) ∧
    (∀ n r, s.poolRec? n = some r → s.claimKind (.pool n) = if r.kind = .standing then .standing else .transit) ∧
    (∀ c, s.readCrane c = none ↔ s.configured c = false) ∧
    (∀ c k, s.readCrane c = some k →
      s.record? c = some k.record ∧ k.excluded = (s.slotOf c).excluded ∧ k.state = (s.crane c).state ∧
      k.link.state = (s.link c).state ∧ k.link.lastPose = (s.link c).lastPose ∧
      k.link.notices = (s.link c).notices.length ∧ k.computation = (s.engine c).record ∧
      k.modeInForce = (s.link c).inForce ∧ k.occupancy = (s.engine c).occupancy ∧ k.reach = (s.engine c).reach ∧
      k.evict = (s.engine c).evict ∧ k.transit = (s.engine c).transit ∧ k.recovery = (s.engine c).recovery ∧
      k.latch = (s.engine c).latch ∧
      ∀ z kind, (z, kind) ∈ k.holds ↔ ∃ ref, (s.zone z).holding = .held c ref ∧ kind = s.claimKind ref) ∧
    (∀ z, (s.readZone z).kind = (s.entry z).kind ∧ (s.readZone z).members = (s.entry z).members ∧
      ((s.readZone z).closed = true ↔ (s.zone z).holding = .closed) ∧
      ((s.readZone z).holder = none ↔ ∀ c ref, (s.zone z).holding ≠ .held c ref) ∧
      (∀ c ref, (s.zone z).holding = .held c ref →
        ∃ x, (s.readZone z).holder = some (c, x) ∧ x.kind = s.claimKind ref) ∧
      (s.readZone z).evictees = (s.zone z).evictees ∧
      (s.readZone z).coClaims.length = (s.zone z).coClaims.length ∧
      (s.readZone z).waiting.map (fun e => e.claim.crane) = (s.zone z).waiting.map s.claimCrane? ∧
      (s.readZone z).waiting.map (fun e => e.claim.kind) = (s.zone z).waiting.map s.claimKind)

/-- What READ_BOOKING, READ_CHANNEL, READ_WIND and READ_FAULT show: the records with what goes with them, the storm record's
zones ascending with their status. That a crane with no active cause has none in the auto-clear set is the model's choice
(log 65). -/
def Parts.RecordReadings : Prop :=
  ∀ s : State,
    (∀ n, s.readBooking n = none ↔ s.booking? n = none) ∧
    (∀ n k, s.readBooking n = some k → s.booking? n = some k.booking ∧
      (k.booking.state = .running → (s.channel k.booking.crane).booking = some n →
        k.running = some ((s.channel k.booking.crane).step, (s.channel k.booking.crane).phase)) ∧
      (k.booking.state ≠ .running → k.running = none)) ∧
    (∀ c, (s.readChannel c).record = s.channel c ∧ (s.readChannel c).state = (s.channel c).state ∧
      (∀ b, s.current? c = some b → (s.readChannel c).current = some (b.kind, b.plan)) ∧
      (∀ n r, (s.channel c).claim = some (.placed n) → s.poolRec? n = some r →
        (s.readChannel c).claimId = some r.id)) ∧
    (∀ c, (s.readWind c).ring = (s.windOf c).ring ∧ (s.readWind c).sensor = (s.windOf c).sensor ∧
      (s.readWind c).own = (s.windOf c).own ∧ (s.readWind c).effective = (s.windOf c).effective ∧
      (s.readWind c).declaration = s.wind.declaration ∧ (s.readWind c).gust = (s.windOf c).gust ∧
      (s.readWind c).mean = (s.windOf c).mean ∧ (s.readWind c).phase = (s.windOf c).phase ∧
      (s.readWind c).exitPending = (s.windOf c).exitPending ∧
      (s.readWind c).record.Pairwise (fun a b => a.1 ≤ b.1) ∧
      ∀ z st sub, (z, st, sub) ∈ (s.readWind c).record ↔
        (∃ cz ∈ (s.storm c).zones, cz.zone = z ∧ cz.status = st) ∧ sub = (s.zone z).substate?) ∧
    (∀ c, (s.readFault c).status = s.crane c ∧ (s.readFault c).recovery = (s.engine c).recovery ∧
      ((s.readFault c).causeAutoClears = true ↔
        ∃ f, (s.crane c).fault = some f ∧ f.cause ∈ s.profile.autoClear))

/-- A CRANE(c) report carries the values of READ_CRANE and the crane's contexts as they stand when it is begun, so that a
context that has ended shows its end; of an unconfigured slot it carries configured no. That the lockout context goes with
the fault context is the model's choice (log 50). -/
def Parts.CraneReportShowsContexts : Prop :=
  ∀ (s : State) (c : Slot),
    (s.configured c = false → s.snapshot (.crane c) = .crane none) ∧
    ∀ k, s.readCrane c = some k → ∃ r, s.snapshot (.crane c) = .crane (some r) ∧ r.reading = k ∧
      r.faultContext = (s.crane c).faultContext ∧ r.lockoutContext = (s.crane c).lockoutContext

/-- The reading requests answer with the values as they stand and change nothing: IDENTIFY, READ_CLOCK, READ_CRANE,
READ_ZONE, READ_BOOKING, READ_CHANNEL, READ_WIND and READ_FAULT. A configured slot is asked of the last three. What
READ_CLOCK shows at the instant an expiry is due is the model's choice (log 51), and so are a crane with no active cause and
the claims and marks of READ_ZONE (logs 65 and 80). A CRANE(c) report adds the contexts (log 50). -/
def Obligations.ReadingsAnswer : Prop :=
  Parts.ClockReading ∧ Parts.LinkReading ∧ Parts.ZoneClaimReadings ∧ Parts.WindAndChannelReadings ∧
  Parts.CraneAndZoneReadings ∧ Parts.RecordReadings ∧ Parts.CraneReportShowsContexts ∧ ∀ (tag : Byte) (s : State), s.Ready →
    Answered (.identify tag) s tag 1 .ok (.identity Config.vendorCode Config.partCode Config.revision s.power.startCause
      s.geo.mode s.geo.image.isSome
      Config.capacities) s ∧
    Answered (.readClock tag) s tag 4 .ok (.clock s.readClock) s ∧
    (∀ c : Slot, ∀ k, s.readCrane c = some k → Answered (.readCrane tag c.val) s tag 28 .ok (.crane k) s) ∧
    (∀ c : Slot, s.readCrane c = none → Answered (.readCrane tag c.val) s tag 28 .ok .craneUnconfigured s) ∧
    (∀ z : ZoneId, Answered (.readZone tag z.val) s tag 29 .ok (.zone (s.readZone z)) s) ∧
    (∀ n k, s.readBooking n = some k → Answered (.readBooking tag n) s tag 30 .ok (.booking k) s) ∧
    (∀ n, s.readBooking n = none → RefusedWith (.readBooking tag n) s tag 30 .notFound) ∧
    (∀ c : Slot, s.configured c = true →
      Answered (.readChannel tag c.val) s tag 31 .ok (.channel (s.readChannel c)) s ∧
      Answered (.readWind tag c.val) s tag 32 .ok (.wind (s.judging.readWind c)) s ∧
      Answered (.readFault tag c.val) s tag 33 .ok (.fault (s.readFault c)) s) ∧
    (∀ c : Slot, s.configured c = false →
      RefusedWith (.readChannel tag c.val) s tag 31 .notConfigured ∧
      RefusedWith (.readWind tag c.val) s tag 32 .notConfigured ∧
      RefusedWith (.readFault tag c.val) s tag 33 .notConfigured) ∧
    (∀ n, 12 ≤ n → RefusedWith (.readCrane tag n) s tag 28 .badValue ∧ RefusedWith (.readChannel tag n) s tag 31 .badValue ∧
      RefusedWith (.readWind tag n) s tag 32 .badValue ∧ RefusedWith (.readFault tag n) s tag 33 .badValue) ∧
    (∀ n, 48 ≤ n → RefusedWith (.readZone tag n) s tag 29 .badValue)

/-- READ_ERRORS returns the flags present and empties the set, both in the event in which it is taken. -/
def Parts.ReadErrorsEmpties : Prop :=
  ∀ (tag : Byte) (s : State), s.Ready →
    Answered (.readErrors tag) s tag 34 .ok (.errors s.port.errors) { s with port := { s.port with errors := [] } }

/-- RESET is taken in both modes with reply OK, and changes nothing else until its reply is sent. -/
def Parts.ResetIsAnswered : Prop :=
  ∀ (tag : Byte) (s : State), s.Ready →
    Answered (.reset tag) s tag 2 .ok .empty { s with port := { s.port with resetProgress := .taken } }

/-- A frame of a request kind whose fields do not fit its layout is answered BAD_LENGTH, and changes nothing: a kind that
carries no fields given some, a kind that carries fields given none, and a kind of one byte given another count. A whole
number takes at least one byte (log 4). -/
def Parts.MisfitIsAnswered : Prop :=
  (∀ (tag kind : Byte) (fields : List Byte) (s : State), s.Ready → s.port.receiver = .hunting → fields.length ≤ 1198 →
    1 ≤ kind.toNat → kind.toNat ≤ 35 → decodeRequest kind.toNat fields = .misfit →
    RefusedWith (.siteFrame (siteFrame (kind :: tag :: fields))) s tag kind.toNat .badLength) ∧
  ∀ (kind : Nat) (fields : List Byte), 1 ≤ kind → kind ≤ 35 →
    (kind ∈ [1, 2, 4, 5, 6, 34] → (decodeRequest kind fields = .misfit ↔ fields ≠ [])) ∧
    (kind ∉ [1, 2, 4, 5, 6, 34] → decodeRequest kind [] = .misfit) ∧
    (kind = 21 ∨ kind = 35 → (decodeRequest kind fields = .misfit ↔ fields.length ≠ 1))

/-- A frame whose fields fit their layout with a one-byte value outside its list is answered by the block that owns it, and
changes nothing: a RELAY with BAD_LENGTH when its text is longer than 40 and BAD_VALUE else, and a LOAD_CELLS with WRONG_MODE
in OPERATE, BAD_VALUE for a slot out of range, NOT_CONFIGURED for an unconfigured one and BAD_VALUE else. Where such a value
is judged is the model's choice (log 56). -/
def Parts.OutOfListIsJudged : Prop :=
  (∀ (tag kind : Byte) (fields : List Byte) (r : Request) (s : State), s.Ready → s.port.receiver = .hunting →
    fields.length ≤ 1198 → 1 ≤ kind.toNat → kind.toNat ≤ 35 → decodeRequest kind.toNat fields = .badValue r →
    RefusedWith (.siteFrame (siteFrame (kind :: tag :: fields))) s tag kind.toNat (answerOutOfList r s).code) ∧
  (∀ d code ack text s, (answerOutOfList (.relay d code ack text) s).code =
    if 40 < text.length then .badLength else .badValue) ∧
  ∀ n table first count classes s, (answerOutOfList (.loadCells n table first count classes) s).code =
    if s.geo.mode = .operate then .wrongMode
    else if 12 ≤ n then .badValue
    else if ∃ c : Slot, c.val = n ∧ s.configured c = false then .notConfigured
    else .badValue

/-- The bytes of a reply on the line: a site frame of kind 128 with the request's tag and kind, the code and the reply's
fields; a reply of a code alone has no fields. A report is of kind 129 with tag 0, the key's kind and its index in two
bytes. -/
def Parts.OutboundIsFramed : Prop :=
  (∀ r : Reply, (PortOutbound.reply r).lineBytes =
    siteFrame (128#8 :: r.tag :: BitVec.ofNat 8 r.kind :: BitVec.ofNat 8 r.code.value :: r.body.fields)) ∧
    ReplyBody.empty.fields = [] ∧
    ∀ (key : ReportKey) (x : Snapshot), (PortOutbound.report key x).lineBytes =
      siteFrame (129#8 :: 0#8 :: BitVec.ofNat 8 (keyKindValue key.kind) :: BitVec.ofNat 8 (key.index / 256) ::
        BitVec.ofNat 8 key.index :: x.fields)

/-- The requests of the port itself: a kind outside 1..35 is answered UNKNOWN_REQUEST with the flag added, READ_ERRORS
returns the flags and empties the set, RESET is answered OK in both modes, a frame whose fields do not fit is answered
BAD_LENGTH, and one with a value outside its list by its owner; and how what the port sends is framed. -/
def Obligations.PortRequestsAnswer : Prop :=
  Parts.UnknownKindIsAnswered ∧ Parts.ReadErrorsEmpties ∧ Parts.ResetIsAnswered ∧ Parts.MisfitIsAnswered ∧
    Parts.OutOfListIsJudged ∧ Parts.OutboundIsFramed

/-- SET_REPORT_MASK replaces the masks, and the report list is the list as it stood when the request was taken without the
keys of masked kinds, the others in their order. It writes no profile, and frees every ended booking when BOOKING becomes
masked. -/
def Parts.MaskIsReplaced : Prop :=
  ∀ (tag : Byte) (kinds : List KeyKind) (s : State), s.Ready →
    ∃ t, exec (.setReportMask tag kinds) s = .next t ∧ Carries s t ⟨tag, 35, .ok, .empty⟩ ∧
      (∀ k, k ∈ t.port.masks ↔ k ∈ kinds) ∧ t.geo = s.geo ∧ t.channels = s.channels ∧ t.arb = s.arb ∧
      t.links = s.links ∧ t.status = s.status ∧ t.clock = s.clock ∧
      t.port.reports = (s.judging.port.reports.filter fun k => !kinds.contains k.kind) ∧
      (.booking ∉ kinds → t.bookings = s.bookings) ∧
      (.booking ∈ kinds → t.bookings = s.bookings.filter fun b => !s.bookings.any fun e => e.state.ended && e.number == b.number)

/-- A key that is marked is not added when its kind is masked or it stands in the list, and else joins the tail; nothing
else changes. -/
def Parts.KeysAreMarked : Prop :=
  ∀ (k : ReportKey) (s : State),
    (k.kind ∈ s.port.masks ∨ k ∈ s.port.reports → mark k s = s) ∧
    (k.kind ∉ s.port.masks → k ∉ s.port.reports →
      mark k s = { s with port := { s.port with reports := s.port.reports ++ [k] } })

/-- Which changes of a record mark its key: of a zone its holding, co-claims, evictees, reservation or list; of a channel its
state, booking, step, phase, pause, reasons, step-mode flag or interrupted loss; of a crane's state anything but its latest
recovery check; of a configured crane's wind record the sensor state, the source, the own or effective state, the storm
phase or the pending exit; of a booking its state, start reached, end-of-window flag, returns-to or outcome; of a link its
state. Another change marks nothing. -/
def Parts.ChangesMarkKeys : Prop :=
  ∀ s : State,
    (∀ z f, let a := s.zone z; let b := f a
      (updZone z f s).port = if a.holding = b.holding ∧ a.coClaims = b.coClaims ∧ a.evictees = b.evictees ∧
        a.reservedFor = b.reservedFor ∧ a.waiting = b.waiting then s.port else (mark (.zone z) s).port) ∧
    (∀ c f, let a := s.channel c; let b := f a
      (updChannel c f s).port = if a.state = b.state ∧ a.booking = b.booking ∧ a.step = b.step ∧ a.phase = b.phase ∧
        a.paused = b.paused ∧ a.reasons = b.reasons ∧ a.stepMode = b.stepMode ∧ a.interruptedLoss = b.interruptedLoss
        then s.port else (mark (.channel c) s).port) ∧
    (∀ c f, let a := s.crane c; let b := f a
      (updCrane c f s).port = if { a with check := b.check } = b then s.port else (mark (.crane c) s).port) ∧
    (∀ c f, let a := s.windOf c; let b := f a
      (updWind c f s).port = if s.configured c = false ∨ (a.sensor = b.sensor ∧ a.source.kind = b.source.kind ∧
        a.own = b.own ∧ a.effective = b.effective ∧ a.phase = b.phase ∧ a.exitPending = b.exitPending)
        then s.port else (mark (.wind c) s).port) ∧
    (∀ n f a, s.booking? n = some a → let b := f a
      (a.state.ended = true ∨ b.state.ended = false ∨ .booking ∉ s.port.masks) →
      (updBooking n f s).port = if a.state = b.state ∧ a.startReached = b.startReached ∧ a.windowEnded = b.windowEnded ∧
        a.returnsTo = b.returnsTo ∧ a.outcome = b.outcome then s.port else (mark (.booking n) s).port) ∧
    (∀ c f, (updLink c f s).port = if (f (s.link c)).state = (s.link c).state then s.port else (mark (.crane c) s).port)

/-- Which commands mark which keys, with the line busy so that no report is begun: CLOSE_ZONE its ZONE, a changed
DECLARE_WIND the WIND of every configured crane, SUSPEND_CHANNEL and a changed STEP_MODE their CHANNEL, a BOOK that is
stored and a CANCEL their BOOKING, ESTOP in service the CRANE, an ACK the CAB_ACK; the readings mark nothing of their own. A
masked kind is left out. -/
def Parts.CommandsMarkKeys : Prop :=
  ∀ (tag : Byte) (s : State), s.port.tx ≠ none →
    (s.Ready →
      (∀ z : ZoneId, s.geo.mode = .operate → (s.entry z).kind = .hook → (s.zone z).holding ≠ .closed →
        .closure z ∉ (s.zone z).waiting → .zone ∉ s.port.masks →
        ∃ t, exec (.closeZone tag z.val) s = .next t ∧ .zone z ∈ t.port.reports) ∧
      (∀ (n : Nat) (l : WindLevel), (n, l) ∈ [(0, WindLevel.calm), (1, .watch), (2, .hold), (3, .storm)] →
        s.wind.declaration ≠ l → .wind ∉ s.port.masks →
        ∃ t, exec (.declareWind tag n) s = .next t ∧ ∀ c, s.configured c = true → .wind c ∈ t.port.reports) ∧
      (∀ c : Slot, s.configured c = true → .channel ∉ s.port.masks →
        ((s.channel c).reasons.operator = false →
          ∃ t, exec (.suspendChannel tag c.val) s = .next t ∧ .channel c ∈ t.port.reports) ∧
        (∀ on, (s.channel c).booking ≠ none → on ≠ (s.channel c).stepMode →
          ∃ t, exec (.stepMode tag c.val on) s = .next t ∧ .channel c ∈ t.port.reports)) ∧
      (.booking ∉ s.port.masks →
        (∀ f b now, bookingOf? f = some b → b.number ≠ 0 → s.booking? b.number = none → s.clock.minute = some now →
          s.refuseBooking? b now = none →
          ∃ t, exec (.book tag f) s = .next t ∧ .booking b.number ∈ t.port.reports) ∧
        (∀ n b, s.booking? n = some b → b.state = .pending ∨ b.state = .ready →
          ∃ t, exec (.cancel tag n) s = .next t ∧ .booking n ∈ t.port.reports)) ∧
      (∀ i ∈ [Instr.identify tag, .readClock tag, .readErrors tag],
        ∃ t, exec i s = .next t ∧ t.port.reports = s.judging.port.reports)) ∧
    (s.power.on = true → s.NoTake → ∀ c : Slot, (s.link c).state ≠ .unused → (s.slotOf c).excluded = false →
      ((s.crane c).state = .inService → .crane ∉ s.port.masks →
        ∃ t, exec (.estop c) s = .next t ∧ .crane c ∈ t.port.reports) ∧
      (∀ code, .cabAck ∉ s.port.masks →
        ∃ t, exec (.ackMessage c code) s = .next t ∧ .cabAck c ∈ t.port.reports))

/-- SET_REPORT_MASK, and which keys are marked by which changes and commands. -/
def Obligations.ReportMaskIsSet : Prop :=
  Parts.MaskIsReplaced ∧ Parts.KeysAreMarked ∧ Parts.ChangesMarkKeys ∧ Parts.CommandsMarkKeys

/-- The configured cranes a RELAY names, ascending. -/
def Parts.relayed (s : State) : RelayDest → List Slot
  | .one n => allSlots.filter fun c => c.val == n && s.configured c
  | .all => allSlots.filter s.configured
  | .allExcept n => allSlots.filter fun c => c.val != n && s.configured c

/-- RELAY that is taken: each crane of its destination, judged as the link, queue and exclusion stand, is queued or skipped
with the first reason that applies, in ascending order; a queued notice stands at the tail of a queue behind a busy line,
and is begun at once on an idle one with nothing before it. -/
def Parts.RelayIsTaken : Prop :=
  ∀ (tag code : Byte) (ack : Bool) (text : List Byte) (dest : RelayDest) (s : State), s.Ready → text.length ≤ 40 →
    (∀ b ∈ text, 0x20 ≤ b.toNat ∧ b.toNat ≤ 0x7E) →
    (∀ n, dest = .one n → ∃ c : Slot, c.val = n ∧ s.configured c = true) → (∀ n, dest = .allExcept n → n < 12) →
    ∃ t, exec (.relay tag dest code ack text) s = .next t ∧
      Carries s t ⟨tag, 27, .ok, .relayed
        ((Parts.relayed s dest).filter fun c => (s.relaySkip? c).isNone)
        ((Parts.relayed s dest).filterMap fun c => (s.relaySkip? c).map fun why => (c, why))⟩ ∧
      (∀ c ∈ Parts.relayed s dest, s.relaySkip? c = none →
        ((s.link c).tx ≠ none → t.link c =
          { s.link c with notices := (s.link c).notices ++ [.text code ack text] }) ∧
        ((s.link c).tx = none → s.power.lowFor = none → (s.link c).slot = none → (s.link c).notices = [] →
          (s.channel c).phase ≠ .waitingSlot → t.link c = { s.link c with tx := some (.notice (.text code ack text)) })) ∧
      (∀ c, c ∉ Parts.relayed s dest ∨ s.relaySkip? c ≠ none → t.link c = s.link c) ∧
      (∀ c, (s.channel c).phase ≠ .waitingSlot → t.channel c = s.channel c) ∧
      t.geo = s.geo ∧ t.clock = s.clock ∧ t.arb = s.arb ∧ t.status = s.status ∧ t.engines = s.engines ∧
      t.bookings = s.bookings ∧ t.plans = s.plans

/-- RELAY that is refused queues nothing: a text longer than 40 is BAD_LENGTH, a character outside 0x20..0x7E or a slot out
of range BAD_VALUE, and ONE of an unconfigured slot NOT_CONFIGURED. -/
def Parts.RelayIsRefused : Prop :=
  ∀ (tag code : Byte) (ack : Bool) (text : List Byte) (s : State), s.Ready →
    (40 < text.length → ∀ dest, RefusedWith (.relay tag dest code ack text) s tag 27 .badLength) ∧
    (text.length ≤ 40 →
      ((∃ b ∈ text, b.toNat < 0x20 ∨ 0x7E < b.toNat) →
        ∀ dest, RefusedWith (.relay tag dest code ack text) s tag 27 .badValue) ∧
      (∀ n, 12 ≤ n → RefusedWith (.relay tag (.one n) code ack text) s tag 27 .badValue ∧
        RefusedWith (.relay tag (.allExcept n) code ack text) s tag 27 .badValue) ∧
      ((∀ b ∈ text, 0x20 ≤ b.toNat ∧ b.toNat ≤ 0x7E) → ∀ c : Slot, s.configured c = false →
        RefusedWith (.relay tag (.one c.val) code ack text) s tag 27 .notConfigured))

/-- Why a crane of a RELAY is skipped: excluded, then its link not LIVE, then four notices in its queue. -/
def Parts.SkipReasons : Prop :=
  ∀ (c : Slot) (s : State), s.relaySkip? c =
    if (s.slotOf c).excluded = true then some .offline
    else if (s.link c).state ≠ .live then some .notLive
    else if 4 ≤ (s.link c).notices.length then some .queueFull
    else none

/-- RELAY to ONE crane, to ALL and to ALL_EXCEPT one, and what refuses it. -/
def Obligations.RelayReachesCranes : Prop := Parts.RelayIsTaken ∧ Parts.RelayIsRefused ∧ Parts.SkipReasons

/-! ## Site Clock -/

/-- SET_CLOCK is refused with BAD_VALUE, and neither minute nor prescaler changes, when it carries neither operand, a minute
above 16,777,215, a prescaler above 239, or a minute more than 10 below the present one. -/
def Parts.SetClockIsRefused : Prop :=
  ∀ (tag : Byte) (m p : Option Nat) (s : State), s.Ready →
    ((m = none ∧ p = none) ∨ (∃ k, m = some k ∧ 16777215 < k) ∨ (∃ k, p = some k ∧ 239 < k) ∨
      (∃ k now, m = some k ∧ s.clock.minute = some now ∧ k + 10 < now)) →
    RefusedWith (.setClock tag m p) s tag 3 .badValue

/-- SET_CLOCK, when it is taken, sets the minute with its phase at the present uptime, or the working prescaler, or both;
uptime and the tick now running are as they were. -/
def Parts.SetClockSets : Prop :=
  ∀ (tag : Byte) (m p : Option Nat) (s : State), s.Ready → (m ≠ none ∨ p ≠ none) →
    (∀ k, m = some k → k ≤ 16777215 ∧ ∀ now, s.clock.minute = some now → now ≤ k + 10) → (∀ k, p = some k → k ≤ 239) →
    ∃ t, exec (.setClock tag m p) s = .next t ∧ Carries s t ⟨tag, 3, .ok, .empty⟩ ∧
      t.clock =
        { s.clock with
          minute := if m = none then s.clock.minute else m
          minutePhase := if m = none then s.clock.minutePhase else some s.now
          prescaler := p.getD s.clock.prescaler } ∧
      t.geo = s.geo ∧ t.plans = s.plans ∧
      (m = none ∨ m = s.clock.minute → t.bookings = s.bookings ∧ t.channels = s.channels ∧ t.arb = s.arb)

/-- SET_CLOCK is checked whole before it changes anything, and when it is taken sets minute, prescaler or both. -/
def Obligations.ClockIsSet : Prop := Parts.SetClockIsRefused ∧ Parts.SetClockSets

/-- MINUTE_ADVANCE, when 60,000 ms have passed since the phase: the minute advances by one with its phase moved forward by
exactly 60,000 ms; at 16,777,215 the minute and the bookings stay and only the phase moves. -/
def Parts.MinuteAdvances : Prop :=
  ∀ (s : State) (m : Nat) (phase : Ms), s.power.on = true → s.NoTake → s.clock.minute = some m →
    s.clock.minutePhase = some phase → phase + 60000 ≤ s.now →
    (m < 16777215 → ∃ t, exec .minuteAdvance s = .next t ∧
      t.clock = { s.clock with minute := some (m + 1), minutePhase := some (phase + 60000) } ∧ t.geo = s.geo ∧
      t.plans = s.plans) ∧
    (16777215 ≤ m → Leaves .minuteAdvance s { s with clock := { s.clock with minutePhase := some (phase + 60000) } })

/-- A minute event of a PENDING booking whose start it reaches makes it READY, unless its crane is LOCKOUT or OFFLINE; one
whose end it reaches as PENDING or READY makes it EXPIRED with WINDOW_END; a RUNNING or INTERRUPTED one gets its
end-of-window flag. -/
def Parts.MinuteEventOnBooking : Prop :=
  ∀ (p : Option Nat) (n : Nat) (held : Bool) (b : Booking), (∀ k, p = some k → k < n) → b.start < b.finish →
    (b.state = .pending → b.start ≤ n → (∀ k, p = some k → k < b.start) → n < b.finish →
      b.atMinute p n held = { b with startReached := true, state := if held then .pending else .ready }) ∧
    ((b.state = .pending ∨ b.state = .ready) → b.finish ≤ n → (∀ k, p = some k → k < b.finish) →
      (b.atMinute p n held).state = .expired ∧ (b.atMinute p n held).outcome = some ⟨.windowEnd, none⟩) ∧
    ((b.state = .running ∨ b.state = .interrupted) → b.finish ≤ n → (∀ k, p = some k → k < b.finish) →
      b.atMinute p n held = { b with windowEnded := true }) ∧
    (n < b.start → b.atMinute p n held = b)

/-- The bookings of a table after a minute event of previous minute p and new minute n: each as `Booking.atMinute` gives it,
without those it ends while BOOKING is masked. -/
def Parts.afterMinute (p : Option Nat) (n : Nat) (s : State) : List Booking :=
  s.bookings.filterMap fun b =>
    let x := b.atMinute p n (s.heldBack b.crane)
    if s.port.masks.contains .booking && !b.state.ended && x.state.ended then none else some x

/-- Every minute event reaches every entry of the booking table. MINUTE_ADVANCE below 16,777,215 delivers the step from the
minute to the next, and SET_CLOCK with an unset minute or a minute below the new one delivers the step to it; start gating
for every crane follows. In SURVEY, where gating starts nothing, the table is then exactly as the event leaves it. -/
def Parts.MinuteReachesTable : Prop :=
  (∀ (p : Option Nat) (n : Nat) (s : State), s.NumbersUnique →
    (minuteToBookings p n s).bookings = Parts.afterMinute p n s) ∧
  (∀ (s : State) (m : Nat) (phase : Ms), s.power.on = true → s.clock.minute = some m →
    s.clock.minutePhase = some phase → phase + 60000 ≤ s.now → m < 16777215 →
    exec .minuteAdvance s = .next (finish (forEach allSlots gateAndRun (minuteToBookings (some m) (m + 1)
      { s with
        events := s.events + 1
        clock := { s.clock with minute := some (m + 1), minutePhase := some (phase + 60000) } }))) ∧
    (s.NoTake → s.NumbersUnique → s.geo.mode = .survey → Leaves .minuteAdvance s
      { s with
        clock := { s.clock with minute := some (m + 1), minutePhase := some (phase + 60000) }
        bookings := Parts.afterMinute (some m) (m + 1) s })) ∧
  ∀ (tag : Byte) (n : Nat) (s : State), s.Ready → n ≤ 16777215 →
    (∀ now, s.clock.minute = some now → now < n) →
    (dispatch (.setClock (some n) none) s).1 = forEach allSlots gateAndRun (minuteToBookings s.clock.minute n
      { s with clock := { s.clock with minute := some n, minutePhase := some s.now } }) ∧
    (s.NumbersUnique → s.geo.mode = .survey → Answered (.setClock tag (some n) none) s tag 3 .ok .empty
      { s with
        clock := { s.clock with minute := some n, minutePhase := some s.now }
        bookings := Parts.afterMinute s.clock.minute n s })

/-- MINUTE_ADVANCE, what a minute event does to one booking, and that MINUTE_ADVANCE and SET_CLOCK deliver it to every entry
of the booking table. The counter of events is the model's own (log 3). -/
def Obligations.MinuteIsDelivered : Prop :=
  Parts.MinuteAdvances ∧ Parts.MinuteEventOnBooking ∧ Parts.MinuteReachesTable

/-- HOLD_TICK, when the present tick's length has passed: the next tick begins at that end with the working prescaler's
length, and each channel that runs in a HOLD step with more than one tick to go has one less. -/
def Parts.HoldTickCounts : Prop :=
  ∀ (s : State), s.power.on = true → s.NoTake → s.clock.tickBegan + s.clock.tickLength ≤ s.now →
    ∃ t, exec .holdTick s = .next t ∧
      t.clock =
        { s.clock with
          tickBegan := s.clock.tickBegan + s.clock.tickLength, tickLength := (s.clock.prescaler + 1) * 250 } ∧
      t.geo = s.geo ∧ t.arb = s.arb ∧ t.links = s.links ∧ t.status = s.status ∧
      (∀ c n, (s.channel c).state = .active → (s.channel c).phase = .holding → (s.channel c).hold = some n → 1 < n →
        t.channel c = { s.channel c with hold := some (n - 1) }) ∧
      (∀ c, (s.channel c).state = .active → (s.channel c).phase = .holding → (s.channel c).hold = some 1 →
        t.channel c = (s.channel c).completed ((s.channel c).step + 1)) ∧
      (∀ c, (s.channel c).state ≠ .active ∨ (s.channel c).phase ≠ .holding → t.channel c = s.channel c)

/-- HOLD_COMPLETE: the HOLD step of a running channel whose last tick has ended is complete, and the channel goes to its
next step; other channels are as they were. That one event completes one channel is the model's reading (log 12). -/
def Parts.HoldCompletes : Prop :=
  ∀ (s : State) (c : Slot), s.power.on = true → s.NoTake → s.clock.tickBegan + s.clock.tickLength ≤ s.now →
    (s.channel c).state = .active → (s.channel c).phase = .holding → (s.channel c).hold = some 1 →
    ∃ t, exec (.holdComplete c) s = .next t ∧ t.channel c = (s.channel c).completed ((s.channel c).step + 1) ∧
      (∀ d, d ≠ c → t.channel d = s.channel d) ∧ t.clock = s.clock ∧ t.geo = s.geo ∧ t.arb = s.arb ∧
      t.links = s.links ∧ t.status = s.status ∧ t.plans = s.plans

/-- HOLD_TICK and HOLD_COMPLETE: what a tick's end does to the clock and to the channels that hold. -/
def Obligations.HoldTicksCount : Prop := Parts.HoldTickCounts ∧ Parts.HoldCompletes

/-- No command but the starts of the part sets or adjusts uptime. -/
def Obligations.OnlyStartsSetUptime : Prop :=
  ∀ (i : Instr) (s t : State), i ≠ .powerOn → i ≠ .siteReset → (∀ m, i ≠ .resetLine m) → exec i s = .next t →
    t.clock.uptime = s.clock.uptime

/-! ## Geometry Store -/

/-- Edge 0 is the minimum radius, edges 1..7 are the record's, and edge 8 is the jib length. The band of a radius from edge 0
to edge 8 is the highest whose inner edge is at or below it; with ascending edges the jib length itself lies in band 7. -/
def Obligations.BandIsHighestEdgeBelow : Prop :=
  ∀ (r : CraneRecord), r.edge 0 = r.minRadius ∧ (∀ i : Fin 7, r.edge (i.val + 1) = r.edges.get i) ∧
    r.edge 8 = r.jibLength ∧
    ∀ radius, r.minRadius ≤ radius → radius ≤ r.jibLength →
      r.edge (r.band radius).val ≤ radius ∧ (∀ b : Band, r.edge b.val ≤ radius → b ≤ r.band radius) ∧
        ((∀ i, i < 8 → r.edge i < r.edge (i + 1)) →
          r.band r.jibLength = 7 ∧ (radius < r.jibLength → radius < r.edge ((r.band radius).val + 1)))

/-- LOAD_CRANE with every field in range stores the record whole. On a configured slot its tables, chart and excluded flag
are kept; an unconfigured slot becomes configured with no tables and no chart, its crane JOINING and its link WAITING. -/
def Parts.LoadCraneStores : Prop :=
  ∀ (tag : Byte) (c : Slot) (f : CraneFields) (r : CraneRecord) (s : State), s.Ready → s.geo.mode = .survey →
    craneRecordOf? f = some r →
    (s.configured c = true →
      Answered (.loadCrane tag c.val (some f)) s tag 7 .ok .empty (s.putSlot c { s.slotOf c with record := some r })) ∧
    (s.configured c = false → ∃ t, exec (.loadCrane tag c.val (some f)) s = .next t ∧ Carries s t ⟨tag, 7, .ok, .empty⟩ ∧
      t.geo = { s.geo with slots := putAt s.geo.slots c { CraneSlot.unconfigured with record := some r } } ∧
      (t.crane c).state = .joining ∧ (t.link c).state = .waiting ∧ (t.link c).notices = [] ∧ (t.link c).lastPose = none ∧
      t.clock = s.clock ∧ t.plans = s.plans)

/-- LOAD_CRANE with configured no discards the slot's record, tables and chart: its link is UNUSED and its crane OFFLINE; on
an unconfigured slot it changes nothing. -/
def Parts.LoadCraneUnconfigures : Prop :=
  ∀ (tag : Byte) (c : Slot) (s : State), s.Ready → s.geo.mode = .survey →
    (s.configured c = false → Answered (.loadCrane tag c.val none) s tag 7 .ok .empty s) ∧
    (s.configured c = true → ∃ t, exec (.loadCrane tag c.val none) s = .next t ∧ Carries s t ⟨tag, 7, .ok, .empty⟩ ∧
      t.geo = { s.geo with slots := putAt s.geo.slots c .unconfigured } ∧ t.crane c = .fresh .offline ∧
      (t.link c).state = .unused ∧ (t.link c).slot = none ∧ (t.link c).notices = [] ∧ (t.link c).lastPose = none ∧
      t.clock = s.clock ∧ t.plans = s.plans)

/-- LOAD_PROFILE replaces the whole profile, and changes neither the working prescaler nor the report masks. -/
def Parts.LoadProfileStores : Prop :=
  ∀ (tag : Byte) (p : SiteProfile) (s : State), s.Ready → s.geo.mode = .survey → profileInRange p = true →
    ∃ t, exec (.loadProfile tag p) s = .next t ∧ Carries s t ⟨tag, 10, .ok, .empty⟩ ∧
      t.geo.slots = s.geo.slots ∧ t.geo.mode = .survey ∧ t.geo.directory = s.geo.directory ∧ t.geo.image = s.geo.image ∧
      { t.geo.profile with autoClear := p.autoClear, reportKinds := p.reportKinds } = p ∧
      (∀ x, x ∈ t.geo.profile.autoClear ↔ x ∈ p.autoClear) ∧ (∀ x, x ∈ t.geo.profile.reportKinds ↔ x ∈ p.reportKinds) ∧
      t.clock = s.clock ∧ t.port.masks = s.port.masks

/-- The ranges of R1's table, with tip overhang for a LUFFING crane (code 1) alone. -/
def Parts.CraneInRange (f : CraneFields) : Prop :=
  (f.kind = 0 ∨ f.kind = 1) ∧ -500000 ≤ f.baseEast ∧ f.baseEast ≤ 500000 ∧ -500000 ≤ f.baseNorth ∧ f.baseNorth ≤ 500000 ∧
    f.bearingOffset ≤ 65535 ∧ 10000 ≤ f.jibLength ∧ f.jibLength ≤ 100000 ∧ f.minRadius ≤ 100000 ∧
    (∀ i : Fin 7, f.edges.get i ≤ 100000) ∧ (∀ t, f.tipOverhang = some t → f.kind = 1 ∧ t ≤ 10000) ∧
    1 ≤ f.maxSlewRate ∧ f.maxSlewRate ≤ 2048 ∧ 16 ≤ f.slewDecel ∧ f.slewDecel ≤ 2048 ∧ f.reactionTime ≤ 2000 ∧
    f.slewMargin ≤ 4096 ∧ f.slowBand ≤ 8192 ∧ f.lookAhead ≤ 16384 ∧ f.driftCoeff ≤ 255 ∧ 1 ≤ f.maxRadialSpeed ∧
    f.maxRadialSpeed ≤ 2000 ∧ 50 ≤ f.radialDecel ∧ f.radialDecel ≤ 2000 ∧ f.radiusMargin ≤ 5000 ∧ f.radialSlowBand ≤ 10000

/-- The ranges of R9's table; the auto-clear set is any of OVERLOAD, POSE_INVALID and LINK_LOST. -/
def Parts.ProfileInRange (p : SiteProfile) : Prop :=
  p.slowCap ≤ 100 ∧ p.creepCap ≤ 100 ∧ p.emptyLoad ≤ 65000 ∧ p.parkHeight ≤ 250000 ∧ p.parkRadius ≤ 100000 ∧
    p.watchGust ≤ 600 ∧ p.holdGust ≤ 600 ∧ p.holdMean ≤ 600 ∧ p.stormGust ≤ 600 ∧ p.hysteresis ≤ 100 ∧
    1 ≤ p.watchResume ∧ p.watchResume ≤ 60 ∧ 1 ≤ p.holdResume ∧ p.holdResume ≤ 60 ∧ 1 ≤ p.stormResume ∧
    p.stormResume ≤ 60 ∧ p.stormAfterHold ≤ 240 ∧ p.prescaler ≤ 239 ∧
    ∀ x ∈ p.autoClear, x = .overload ∨ x = .poseInvalid ∨ x = .linkLost

/-- A record and a profile pass their checks exactly when every field is in its range, and the record stored has the fields
given. -/
def Parts.RangesAreJudged : Prop :=
  (∀ f : CraneFields, (∃ r, craneRecordOf? f = some r) ↔ Parts.CraneInRange f) ∧
    (∀ (f : CraneFields) (r : CraneRecord), craneRecordOf? f = some r →
      r.toCraneDims = f.toCraneDims ∧ r.kind = if f.kind = 0 then .flat else .luffing) ∧
    ∀ p : SiteProfile, profileInRange p = true ↔ Parts.ProfileInRange p

/-- LOAD_PROFILE and the wind timers. With the new storm-after-hold 0 its timer is stopped; from 0 to another it starts for a
crane whose own state is HOLD. A calm-down timer at or beyond its new length expires at once, by one level and started
afresh for it; a storm-after-hold timer at or beyond its new length makes the own state STORM; a timer short of its length
runs on, and with neither expired the own state stands. -/
def Parts.ProfileMovesTimers : Prop :=
  ∀ (tag : Byte) (p : SiteProfile) (s : State), s.Ready → s.geo.mode = .survey → profileInRange p = true →
    ∃ t, exec (.loadProfile tag p) s = .next t ∧ ∀ c hold, hold =
        (if p.stormAfterHold = 0 then none
        else if s.profile.stormAfterHold = 0 ∧ (s.windOf c).own = .hold then some s.now
        else (s.windOf c).stormAfterHold) →
      (∀ l m t0, (s.windOf c).calmDown = some (l, t0) →
        (l, m) ∈ [(WindLevel.calm, 0), (.watch, p.watchResume), (.hold, p.holdResume), (.storm, p.stormResume)] →
        t0 + m * 60000 ≤ s.now →
        (t.windOf c).own = (s.windOf c).own.below ∧
          (t.windOf c).calmDown =
            (if (s.windOf c).own.below = .calm then none else some ((s.windOf c).own.below, s.now)) ∧
          (t.windOf c).stormAfterHold =
            (if (s.windOf c).own.below = .hold ∧ p.stormAfterHold ≠ 0 then some s.now else none) ∧
          t.effective c = (s.windOf c).own.below.higher s.wind.declaration) ∧
      ((∀ l m t0, (s.windOf c).calmDown = some (l, t0) →
          (l, m) ∈ [(WindLevel.calm, 0), (.watch, p.watchResume), (.hold, p.holdResume), (.storm, p.stormResume)] →
          s.now < t0 + m * 60000) →
        (∀ t0, hold = some t0 → t0 + p.stormAfterHold * 60000 ≤ s.now →
          (t.windOf c).own = .storm ∧ (t.windOf c).calmDown = none ∧ (t.windOf c).stormAfterHold = none ∧
            t.effective c = .storm) ∧
        ((∀ t0, hold = some t0 → s.now < t0 + p.stormAfterHold * 60000) →
          (t.windOf c).own = (s.windOf c).own ∧ (t.windOf c).calmDown = (s.windOf c).calmDown ∧
            (t.windOf c).stormAfterHold = hold ∧ t.effective c = s.effective c))

/-- LOAD_CRANE and LOAD_PROFILE in SURVEY: the effects of R1 and R2 by the slot's state before it, and of R9 and R114; and the
ranges of R1 and R9. -/
def Obligations.CraneAndProfileAreLoaded : Prop :=
  Parts.LoadCraneStores ∧ Parts.LoadCraneUnconfigures ∧ Parts.LoadProfileStores ∧ Parts.ProfileMovesTimers ∧
    Parts.RangesAreJudged

/-- The bytes that name a class which a table admits: FREE, FORBIDDEN and SHARED of a zone in 0..47 for each table, and SLOW
and FORBIDDEN_LOADED for the hook grid. -/
def Parts.Admitted (tb : CellTable) (b : Byte) : Prop :=
  b.toNat = 0 ∨ b.toNat = 2 ∨ (64 ≤ b.toNat ∧ b.toNat ≤ 111) ∨ (tb = .hook ∧ (b.toNat = 1 ∨ b.toNat = 3))

/-- LOAD_CRANE, LOAD_CELLS and LOAD_PROFILE are refused with WRONG_MODE in OPERATE. In SURVEY a slot or field out of range
is BAD_VALUE and an unconfigured slot NOT_CONFIGURED; a run out of range is BAD_VALUE, a number of classes that does not
match BAD_LENGTH, and a class or zone number that the table does not admit BAD_VALUE. Nothing is stored. -/
def Obligations.LoadsAreRefused : Prop :=
  ∀ (tag : Byte) (s : State), s.Ready →
    (s.geo.mode = .operate →
      (∀ n f, RefusedWith (.loadCrane tag n f) s tag 7 .wrongMode) ∧
      (∀ n tb first count cl, RefusedWith (.loadCells tag n tb first count cl) s tag 8 .wrongMode) ∧
      (∀ p, RefusedWith (.loadProfile tag p) s tag 10 .wrongMode)) ∧
    (s.geo.mode = .survey →
      (∀ n f, 12 ≤ n → RefusedWith (.loadCrane tag n f) s tag 7 .badValue) ∧
      (∀ n f, craneRecordOf? f = none → RefusedWith (.loadCrane tag n (some f)) s tag 7 .badValue) ∧
      (∀ n f, ¬ Parts.CraneInRange f → RefusedWith (.loadCrane tag n (some f)) s tag 7 .badValue) ∧
      (∀ p, ¬ Parts.ProfileInRange p → RefusedWith (.loadProfile tag p) s tag 10 .badValue) ∧
      (∀ n tb first count cl, 12 ≤ n → RefusedWith (.loadCells tag n tb first count cl) s tag 8 .badValue) ∧
      (∀ (c : Slot) tb first count cl, s.configured c = false →
        RefusedWith (.loadCells tag c.val tb first count cl) s tag 8 .notConfigured) ∧
      (∀ (c : Slot) tb first count cl, s.configured c = true → (count = 0 ∨ 128 < first + count) →
        RefusedWith (.loadCells tag c.val tb first count cl) s tag 8 .badValue) ∧
      (∀ (c : Slot) tb first count cl, s.configured c = true → 1 ≤ count → first + count ≤ 128 →
        cl.length ≠ count * (if tb = .tail then 1 else 8) →
        RefusedWith (.loadCells tag c.val tb first count cl) s tag 8 .badLength) ∧
      (∀ (c : Slot) tb first count cl, s.configured c = true → 1 ≤ count → first + count ≤ 128 →
        cl.length = count * (if tb = .tail then 1 else 8) → (∃ b ∈ cl, ¬ Parts.Admitted tb b) →
        RefusedWith (.loadCells tag c.val tb first count cl) s tag 8 .badValue) ∧
      (∀ p, profileInRange p = false → RefusedWith (.loadProfile tag p) s tag 10 .badValue))

/-- LOAD_CELLS of a tail row, and of a grid, writes exactly the sectors of its run with the classes its bytes code, marks
them loaded, and leaves every other sector and table. -/
def Obligations.LoadCellsWritesRun : Prop :=
  ∀ (tag : Byte) (c : Slot) (first count : Nat) (cl : List Byte) (cells : List Cell) (s : State), s.Ready →
    s.geo.mode = .survey → s.configured c = true → 1 ≤ count → first + count ≤ 128 →
    (cl.length = count → cellsOf? .tail cl = some cells →
      ∃ t, exec (.loadCells tag c.val .tail first count cl) s = .next t ∧ Carries s t ⟨tag, 8, .ok, .empty⟩ ∧
        SameButReply (s.putSlot c { s.slotOf c with tail := (t.slotOf c).tail }) t ∧
        ∀ sec : Sector, (t.slotOf c).tail.get sec =
          if first ≤ sec.val ∧ sec.val < first + count then cells[sec.val - first]? else (s.slotOf c).tail.get sec) ∧
    (cl.length = 8 * count → cellsOf? .hook cl = some cells →
      ∃ t, exec (.loadCells tag c.val .hook first count cl) s = .next t ∧ Carries s t ⟨tag, 8, .ok, .empty⟩ ∧
        SameButReply (s.putSlot c { s.slotOf c with hook := (t.slotOf c).hook }) t ∧
        ∀ sec : Sector, ((t.slotOf c).hook.get sec).map Vector.toList =
          if first ≤ sec.val ∧ sec.val < first + count then some ((cells.drop (8 * (sec.val - first))).take 8)
          else ((s.slotOf c).hook.get sec).map Vector.toList) ∧
    (cl.length = 8 * count → cellsOf? .jib cl = some cells →
      ∃ t, exec (.loadCells tag c.val .jib first count cl) s = .next t ∧ Carries s t ⟨tag, 8, .ok, .empty⟩ ∧
        SameButReply (s.putSlot c { s.slotOf c with jib := (t.slotOf c).jib }) t ∧
        ∀ sec : Sector, ((t.slotOf c).jib.get sec).map Vector.toList =
          if first ≤ sec.val ∧ sec.val < first + count then some ((cells.drop (8 * (sec.val - first))).take 8)
          else ((s.slotOf c).jib.get sec).map Vector.toList)

/-- LOAD_CHART stores the chart of a configured crane whole, in place of any earlier one and whatever the order of its
capacities; in OPERATE it is WRONG_MODE, a slot or capacity out of range is BAD_VALUE, and an unconfigured slot
NOT_CONFIGURED, with nothing stored. That an unconfigured slot with a capacity out of range is NOT_CONFIGURED is the
model's choice (log 45). -/
def Obligations.ChartIsLoaded : Prop :=
  ∀ (tag : Byte) (s : State), s.Ready →
    (s.geo.mode = .operate → ∀ n caps, RefusedWith (.loadChart tag n caps) s tag 9 .wrongMode) ∧
    (s.geo.mode = .survey →
      (∀ n caps, 12 ≤ n → RefusedWith (.loadChart tag n caps) s tag 9 .badValue) ∧
      ∀ (c : Slot) (caps : Vector Nat 8),
        (s.configured c = false → RefusedWith (.loadChart tag c.val caps) s tag 9 .notConfigured) ∧
        (s.configured c = true →
          ((∃ b : Band, 65000 < caps.get b) → RefusedWith (.loadChart tag c.val caps) s tag 9 .badValue) ∧
          ((∀ b : Band, caps.get b ≤ 65000) →
            Answered (.loadChart tag c.val caps) s tag 9 .ok .empty (s.putSlot c { s.slotOf c with chart := some caps }) ∧
            ∀ b : Band, ((s.putSlot c { s.slotOf c with chart := some caps }).slotOf c).capacity b = caps.get b)))

/-- While the part is in OPERATE no request changes a crane record, a table, a chart or the profile. -/
def Obligations.OperateKeepsGeometry : Prop :=
  ∀ (r : Request) (s : State), s.geo.mode = .operate →
    (dispatch r s).1.geo.profile = s.geo.profile ∧
      ∀ c, { (dispatch r s).1.slotOf c with excluded := false } = { s.slotOf c with excluded := false }

/-- What survey entry, from s to t, keeps of wind records, port, supply and crane states, what it clears of engines, and the
link-made frame of mode SURVEY that each configured link places: begun on an idle line that is high, and otherwise in the
limit slot. That losses told to a channel and not yet taken are dropped is read from the spec by inference (log 40). -/
def Parts.SurveyKeepsAndClears (s t : State) : Prop :=
  (∀ c, t.windOf c =
    { s.windOf c with exitPending := false, phase := (t.windOf c).phase, blocked := (t.windOf c).blocked }) ∧
  t.wind.declaration = s.wind.declaration ∧ t.wind.bucketPhase = s.wind.bucketPhase ∧ t.power = s.power ∧
  t.port.masks = s.port.masks ∧ t.port.errors = s.port.errors ∧ t.port.receiver = s.port.receiver ∧
  (∀ c, (t.engine c).reach = [] ∧ (t.engine c).record = none ∧ (t.engine c).recovery = false ∧
    (t.engine c).latch = false ∧ (t.channel c).stepMode = (s.channel c).stepMode ∧ (t.channel c).losses = []) ∧
  (∀ c, t.crane c = { s.crane c with state := (t.crane c).state, check := none }) ∧
  (∀ c, (s.link c).state = .unused ∨ s.record? c = none → t.link c = s.link c) ∧
  ∀ c r, (s.link c).state ≠ .unused → s.record? c = some r →
    let g := ((s.link c).generation + 1) % 256
    let f : StampedFrame := ⟨g, linkMadeFrame .survey r⟩
    t.link c =
      if (s.link c).tx = none ∧ s.power.lowFor = none then
        { s.link c with
          generation := g, inForce := some ⟨false, .survey⟩, slot := none, tx := some (.limit f), lastSent := some f
          repeatFrom := some s.now }
      else { s.link c with generation := g, inForce := some ⟨false, .survey⟩, slot := some f }

/-- ENTER_SURVEY is refused with WRONG_MODE in SURVEY, and with BAD_STATE while a booking is RUNNING or INTERRUPTED or a
configured crane's effective wind state is STORM. Otherwise the mode is SURVEY, every zone is FREE with an empty list, every
engine's sets, record, flag and latch are cleared, every channel is IDLE with its reasons and step mode kept, IN_SERVICE
cranes are JOINING, and each configured link places a link-made frame of mode SURVEY; geometry, image, bookings, plans,
wind records but for a pending exit, masks and errors are kept. Losses not yet taken are dropped, by inference (log 40); that
the wind states of unconfigured slots do not refuse the request is the model's choice (log 81). -/
def Obligations.SurveyIsEntered : Prop :=
  ∀ (tag : Byte) (s : State), s.Ready →
    (s.geo.mode = .survey → RefusedWith (.enterSurvey tag) s tag 5 .wrongMode) ∧
    (s.geo.mode = .operate →
      ((∃ b ∈ s.bookings, b.state = .running ∨ b.state = .interrupted) ∨
        (∃ c, s.configured c = true ∧ s.effective c = .storm)) →
      RefusedWith (.enterSurvey tag) s tag 5 .badState) ∧
    (s.geo.mode = .operate → (∀ b ∈ s.bookings, b.state ≠ .running ∧ b.state ≠ .interrupted) →
      (∀ c, s.configured c = true → s.effective c ≠ .storm) →
      ∃ t, exec (.enterSurvey tag) s = .next t ∧ Carries s t ⟨tag, 5, .ok, .empty⟩ ∧
        t.geo = { s.geo with mode := .survey } ∧ t.bookings = s.bookings ∧ t.plans = s.plans ∧ t.clock = s.clock ∧
        (∀ z, t.zone z = .free) ∧ t.arb.pool = [] ∧ (∀ c, (t.storm c).zones = []) ∧ t.arb.stamp = s.arb.stamp ∧
        (∀ c, (t.engine c).occupancy = [] ∧ (t.engine c).evict = [] ∧ (t.engine c).transit = []) ∧
        (∀ c, (t.channel c).state = .idle ∧ (t.channel c).reasons = (s.channel c).reasons) ∧
        (∀ c, (t.crane c).state =
          if (s.crane c).state = .inService then .joining else (s.crane c).state) ∧
        (∀ c, (t.link c).state = (s.link c).state ∧ (t.link c).lastPose = (s.link c).lastPose) ∧
        Parts.SurveyKeepsAndClears s t)

/-- The first missing item of a slot, in the order jib grid, tail row, hook grid, chart. -/
def Parts.FirstMissing (sl : CraneSlot) : MissingItem → Prop
  | .jibGrid => ∃ sec, sl.jib.get sec = none
  | .tailRow => (∀ sec, sl.jib.get sec ≠ none) ∧ ∃ sec, sl.tail.get sec = none
  | .hookGrid => (∀ sec, sl.jib.get sec ≠ none) ∧ (∀ sec, sl.tail.get sec ≠ none) ∧ ∃ sec, sl.hook.get sec = none
  | .chart =>
    (∀ sec, sl.jib.get sec ≠ none) ∧ (∀ sec, sl.tail.get sec ≠ none) ∧ (∀ sec, sl.hook.get sec ≠ none) ∧ sl.chart = none

/-- Edge i of a record is not above edge i - 1. -/
def Parts.EdgeFails (s : State) (c : Slot) (i : Nat) : Prop :=
  ∃ r, s.record? c = some r ∧ 1 ≤ i ∧ i ≤ 8 ∧ r.edge i ≤ r.edge (i - 1)

/-- The capacity of band b of a configured crane's chart is above that of band b - 1. -/
def Parts.ChartFails (s : State) (c : Slot) (b : Nat) : Prop :=
  s.configured c = true ∧ ∃ chart, (s.slotOf c).chart = some chart ∧ 1 ≤ b ∧ b ≤ 7 ∧
    ∃ x y, chart.toList[b - 1]? = some x ∧ chart.toList[b]? = some y ∧ x < y

/-- The five checks of the validation, each over every configured slot or every zone, ascending, before the next begins:
the first failure gives the code, and the lowest slot or zone that fails it the detail. -/
def Parts.ValidationChecks : Prop :=
  ∀ s : State,
    (∀ c item, s.configured c = true → Parts.FirstMissing (s.slotOf c) item →
      (∀ d, d < c → s.configured d = true → ∀ i, ¬ Parts.FirstMissing (s.slotOf d) i) →
      validateGeometry s = some (.geometryIncomplete, .missing c item)) ∧
    ((∀ c item, s.configured c = true → ¬ Parts.FirstMissing (s.slotOf c) item) →
      (∀ c i, Parts.EdgeFails s c i → (∀ j, j < i → ¬ Parts.EdgeFails s c j) →
        (∀ d, d < c → ∀ j, ¬ Parts.EdgeFails s d j) →
        validateGeometry s = some (.edgesNotAscending, .edge c i)) ∧
      ((∀ c i, ¬ Parts.EdgeFails s c i) →
        (∀ c b, Parts.ChartFails s c b → (∀ j, j < b → ¬ Parts.ChartFails s c j) →
          (∀ d, d < c → ∀ j, ¬ Parts.ChartFails s d j) →
          validateGeometry s = some (.chartIncreases, .chartBand c b)) ∧
        ((∀ c b, ¬ Parts.ChartFails s c b) →
          (∀ z : ZoneId, (deriveEntry s.geo.slots z).members.length = 1 →
            (∀ k : ZoneId, k < z → (deriveEntry s.geo.slots k).members.length ≠ 1) →
            validateGeometry s = some (.singleMemberZone, .zoneNamed z)) ∧
          ((∀ z : ZoneId, (deriveEntry s.geo.slots z).members.length ≠ 1) →
            (s.profile.watchGust < s.profile.holdGust → s.profile.holdGust < s.profile.stormGust →
              s.profile.holdMean ≤ s.profile.holdGust → validateGeometry s = none) ∧
            (s.profile.holdGust ≤ s.profile.watchGust ∨ s.profile.stormGust ≤ s.profile.holdGust ∨
              s.profile.holdGust < s.profile.holdMean →
              validateGeometry s = some (.profileOrder, .empty))))))

/-- Steps 2 and 3 of an exit whose validation passes. A VALID plan that names a zone without members becomes INVALID at the
lowest step that names one, whatever its bookings (the model's choice where both fail, log 78); so does one of which a PENDING or READY booking belongs to a crane that is no member of a zone its
CLAIM steps name; every other plan stays as it is. A PENDING or READY booking of an unconfigured crane is FAILED with
NOT_CONFIGURED, another one whose plan is now INVALID with PLAN_INVALID, and every other booking stays. -/
def Parts.ExitJudgesPlans : Prop :=
  ∀ (tag : Byte) (s : State), s.Ready → s.NumbersUnique → s.geo.mode = .survey → validateGeometry s = none →
    ∃ t, exec (.leaveSurvey tag) s = .next t ∧
      (∀ p, s.plan? p = none → t.plan? p = none) ∧
      (∀ p pl, s.plan? p = some pl → pl.failure ≠ none → t.plan? p = some pl) ∧
      (∀ p pl, s.plan? p = some pl → pl.failure = none →
        ((∃ st ∈ pl.steps, ∃ z : ZoneId, z.val ∈ stepNames st ∧ (deriveEntry s.geo.slots z).members = []) →
          ∃ i st, pl.steps[i]? = some st ∧
            (∃ z : ZoneId, z.val ∈ stepNames st ∧ (deriveEntry s.geo.slots z).members = []) ∧
            (∀ j x, j < i → pl.steps[j]? = some x →
              ∀ z : ZoneId, z.val ∈ stepNames x → (deriveEntry s.geo.slots z).members ≠ []) ∧
            t.plan? p = some { pl with failure := some ⟨.zone, i⟩ }) ∧
        ((∃ b ∈ s.bookings, b.plan = p ∧ (b.state = .pending ∨ b.state = .ready) ∧
            ∃ st ∈ pl.steps, ∃ z : ZoneId, z.val ∈ claimZonesOf st ∧ b.crane ∉ (deriveEntry s.geo.slots z).members) →
          ∃ i, t.plan? p = some { pl with failure := some ⟨.zone, i⟩ }) ∧
        ((∀ st ∈ pl.steps, ∀ z : ZoneId, z.val ∈ stepNames st → (deriveEntry s.geo.slots z).members ≠ []) →
          (∀ b ∈ s.bookings, b.plan = p → b.state = .pending ∨ b.state = .ready →
            ∀ st ∈ pl.steps, ∀ z : ZoneId, z.val ∈ claimZonesOf st → b.crane ∈ (deriveEntry s.geo.slots z).members) →
          t.plan? p = some pl)) ∧
      (∀ b ∈ s.bookings, b.state = .pending ∨ b.state = .ready →
        (s.configured b.crane = false → t.EndedAs b.number .failed ⟨.notConfigured, none⟩) ∧
        (s.configured b.crane = true →
          ((∃ pl, t.plan? b.plan = some pl ∧ pl.failure ≠ none) → t.EndedAs b.number .failed ⟨.planInvalid, none⟩) ∧
          ((∀ pl, t.plan? b.plan = some pl → pl.failure = none) → t.booking? b.number = some b))) ∧
      ∀ b ∈ s.bookings, b.state = .running ∨ b.state = .interrupted → t.booking? b.number = some b

/-- How LEAVE_SURVEY is answered: refused with WRONG_MODE in OPERATE; a failed validation gives its code and detail and
changes nothing; a validation passed derives the directory, and the request stays in hand with the part in SURVEY while
the image is written. -/
def Parts.ExitBegins : Prop :=
  ∀ (tag : Byte) (s : State), s.Ready →
    (s.geo.mode = .operate → RefusedWith (.leaveSurvey tag) s tag 6 .wrongMode) ∧
    (s.geo.mode = .survey → ∀ code body, validateGeometry s = some (code, body) →
      Answered (.leaveSurvey tag) s tag 6 code body s) ∧
    (s.geo.mode = .survey → validateGeometry s = none →
      ∃ t, exec (.leaveSurvey tag) s = .next t ∧ t.port.hand = some tag ∧ t.geo.mode = .survey ∧
        t.geo.slots = s.geo.slots ∧ t.geo.profile = s.geo.profile ∧ (∀ z, t.entry z = deriveEntry s.geo.slots z) ∧
        t.port.slot = none ∧ t.clock = s.clock ∧ t.links = s.links ∧ t.status = s.status ∧ t.channels = s.channels ∧
        t.geo.image = s.geo.image)

/-- LEAVE_SURVEY: its answer, the five checks of the validation, and what the exit does to plans and bookings. That the
image stands as it was until its write ends is the model's way of holding it (log 27), and which step a plan records that
fails in both ways is its choice (log 78). -/
def Obligations.SurveyExitBegins : Prop := Parts.ExitBegins ∧ Parts.ValidationChecks ∧ Parts.ExitJudgesPlans

/-- NV_WRITE_DONE of a write without error ends the exit: the mode is OPERATE, the image holds the present geometry and
profile, every configured crane that is not excluded is JOINING, and the reply is OK. With an error the mode stays
SURVEY, the image is invalid, the reply is NV_FAILED and NV_WRITE is added. With no exit in flight nothing happens: a
command that is not due (the model's choice, log 14). With requests queued, the head is taken in the event that begins the
exit's reply, where R13 says once it has been sent (the model's reading, log 15). -/
def Obligations.SurveyExitEnds : Prop :=
  (∀ (s : State) (tag : Byte) (f : PortOutbound), s.power.on = true → s.port.slot = none → s.port.tx = some f →
    s.port.hand = some tag → ∀ ok, ∃ t, exec (.nvWriteDone ok) s = .next t ∧ t.port.queue = s.port.queue ∧
      t.port.tx = some f ∧ t.port.slot = some ⟨tag, 6, if ok = true then .ok else .nvFailed, .empty⟩) ∧
  (∀ (s : State) (tag : Byte) (q : QueuedRequest) (rest : List QueuedRequest), s.power.on = true →
    s.power.lowFor = none → s.port.slot = none → s.port.tx = none → s.port.hand = some tag → s.port.resetProgress = .none →
    s.port.queue = q :: rest → ∀ ok, ∃ t, exec (.nvWriteDone ok) s = .next t ∧ t.port.queue = rest ∧
      t.port.tx = some (.reply ⟨tag, 6, if ok = true then .ok else .nvFailed, .empty⟩) ∧
      (t.port.slot ≠ none ∨ t.port.hand = some q.tag)) ∧
  (∀ s : State, s.power.on = true → s.NoTake → s.port.hand = none → ∀ ok, Leaves (.nvWriteDone ok) s s) ∧
  ∀ (s : State) (tag : Byte), s.power.on = true → s.port.slot = none → s.port.queue = [] →
    s.port.resetProgress = .none → (∀ c, (s.crane c).state ≠ .inService) →
    (s.port.hand = some tag → ∃ t, exec (.nvWriteDone true) s = .next t ∧ Carries s t ⟨tag, 6, .ok, .empty⟩ ∧
      t.port.hand = none ∧ t.geo = { s.geo with mode := .operate, image := some s.presentImage } ∧
      (∀ c, s.supervised c = true → (t.crane c).state = .joining ∧ (t.crane c).fault = none) ∧
      (∀ c, s.supervised c = false → (t.crane c).state = (s.crane c).state) ∧
      (∀ z, (t.zone z).holding = .free) ∧ t.arb.pool = [] ∧ t.plans = s.plans ∧ t.clock = s.clock) ∧
    (s.port.hand = some tag → Answered (.nvWriteDone false) s tag 6 .nvFailed .empty
      (addError .nvWrite
        { s with geo := { s.geo with image := none }, port := { s.port with hand := none } }))

/-- REMOVE_CRANE: NOT_CONFIGURED for an unconfigured slot, BAD_STATE for an excluded one; otherwise the excluded flag is
yes with record, tables, chart and directory kept, the crane is OFFLINE, holds no zone and has no claim of any kind, its
engine sets are empty and it is an evictee of no zone, its channel is IDLE and its link WAITING with an empty notice
queue. -/
def Obligations.CraneIsRemoved : Prop :=
  ∀ (tag : Byte) (c : Slot) (s : State), s.Ready → (s.bookings.map (·.number)).Nodup →
    (s.configured c = false → RefusedWith (.removeCrane tag c.val) s tag 25 .notConfigured) ∧
    (s.configured c = true → (s.slotOf c).excluded = true → RefusedWith (.removeCrane tag c.val) s tag 25 .badState) ∧
    (s.configured c = true → (s.slotOf c).excluded = false →
      ∃ t, exec (.removeCrane tag c.val) s = .next t ∧ Carries s t ⟨tag, 25, .ok, .empty⟩ ∧
        t.geo = { s.geo with slots := putAt s.geo.slots c { s.slotOf c with excluded := true } } ∧
        (t.crane c).state = .offline ∧ (t.crane c).fault = none ∧ (t.crane c).eStop = false ∧
        (t.channel c).state = .idle ∧ (t.link c).state = .waiting ∧ (t.link c).lastPose = none ∧
        (t.link c).notices = [] ∧ (t.link c).invalidStreak = 0 ∧ (t.link c).ackCount = 0 ∧
        (∀ z ref, (t.zone z).holding ≠ .held c ref) ∧ (∀ r ∈ t.arb.pool, r.crane ≠ c) ∧ (t.storm c).zones = [] ∧
        (∀ z, t.entryOf? c z = none ∧ c ∉ (t.zone z).evictees) ∧ (t.engine c).occupancy = [] ∧
        (t.engine c).evict = [] ∧ (t.engine c).transit = [] ∧
        (∀ b ∈ t.bookings, b.crane = c → b.state.ended = true) ∧ t.clock = s.clock ∧ t.plans = s.plans)

/-- ADMIT_CRANE: NOT_CONFIGURED for an unconfigured slot, BAD_STATE for one not excluded; otherwise the excluded flag is
no, the crane is JOINING and its link WAITING. -/
def Obligations.CraneIsAdmitted : Prop :=
  ∀ (tag : Byte) (c : Slot) (s : State), s.Ready →
    (s.configured c = false → RefusedWith (.admitCrane tag c.val) s tag 26 .notConfigured) ∧
    (s.configured c = true → (s.slotOf c).excluded = false → RefusedWith (.admitCrane tag c.val) s tag 26 .badState) ∧
    (s.configured c = true → (s.slotOf c).excluded = true →
      ∃ t, exec (.admitCrane tag c.val) s = .next t ∧ Carries s t ⟨tag, 26, .ok, .empty⟩ ∧
        t.geo = { s.geo with slots := putAt s.geo.slots c { s.slotOf c with excluded := false } } ∧
        (t.crane c).state = .joining ∧ (t.link c).state = .waiting ∧ (t.link c).lastPose = none ∧ t.clock = s.clock ∧
        t.plans = s.plans)

/-! ## Plan Store and Booking Table -/

/-- LOAD_PLAN is checked in order: the plan number, the number of steps, the lowest step that is of no kind or does not fit
its kind, and a plan in use; otherwise the steps replace the plan whole, with the verdict, and the reply carries it. That the
lowest unreadable step gives the reply, whatever follows it in the frame, is the model's reading (log 4, DEDUCED: what follows
such a step cannot be read; R143 says no order among steps). -/
def Obligations.PlanIsLoaded : Prop :=
  ∀ (tag : Byte) (s : State), s.Ready →
    (∀ n fields, 32 ≤ n → RefusedWith (.loadPlan tag n fields) s tag 11 .badValue) ∧
    (∀ (p : PlanId) fields, fields.length = 0 ∨ 24 < fields.length →
      RefusedWith (.loadPlan tag p.val fields) s tag 11 .badLength) ∧
    (∀ (p : PlanId) (before : List PlanStep) (code : Nat) (rest : List StepField), before.length + rest.length < 24 →
      RefusedWith (.loadPlan tag p.val (before.map .step ++ .unknownKind code :: rest)) s tag 11 .badValue ∧
      RefusedWith (.loadPlan tag p.val (before.map .step ++ .misfit code :: rest)) s tag 11 .badLength) ∧
    (∀ (p : PlanId) (steps : List PlanStep), 1 ≤ steps.length → steps.length ≤ 24 →
      ((∃ b ∈ s.bookings, b.plan = p) → RefusedWith (.loadPlan tag p.val (steps.map .step)) s tag 11 .inUse) ∧
      ((∀ b ∈ s.bookings, b.plan ≠ p) →
        Answered (.loadPlan tag p.val (steps.map .step)) s tag 11 .ok (.planVerdict (s.verify steps))
          { s with plans := putAt s.plans p (some { steps := steps, failure := s.verify steps }) }))

/-- The edges of R144's step graph: from each step other than END to the step after it, from each CHECK to its target, and
from each LOOP to the step after each REPEAT. -/
def Parts.PlanEdge (steps : List PlanStep) (i j : Nat) : Prop :=
  j < steps.length ∧ ∃ st, steps[i]? = some st ∧
    ((st ≠ .endStep ∧ j = i + 1) ∨ (∃ cond, st = .check cond j) ∨
      (st = .loop ∧ ∃ k n, steps[k]? = some (.repeatStep n) ∧ j = k + 1))

/-- An AWAIT, ACK or HOLD step. -/
def Parts.Waits : PlanStep → Prop
  | .await .. | .ack .. | .hold _ => True
  | .claim .. | .notify .. | .repeatStep _ | .loop | .check .. | .release _ | .endStep => False

/-- Every operand of a step lies in its range in the step table of section 8.1; a zone set has one to four distinct zones. A
step index has no range there: check 2 judges it (DEDUCED, log 36). -/
def Parts.StepInRange : PlanStep → Prop
  | .claim zs limit _ => 1 ≤ zs.length ∧ zs.length ≤ 4 ∧ zs.Nodup ∧ (∀ z ∈ zs, z ≤ 47) ∧ 1 ≤ limit ∧ limit ≤ 3600
  | .await cond limit _ => 1 ≤ limit ∧ limit ≤ 3600 ∧
    (∀ cell tolerance, cond = .atCell cell tolerance →
      tolerance ≤ 8 ∧ ∀ sector band, cell = .cell sector band → sector ≤ 127 ∧ band ≤ 7) ∧
    (∀ load, cond = .loadOn load ∨ cond = .loadOff load → load ≤ 65000) ∧
    ∀ height, cond = .hookAbove height → height ≤ 250000
  | .ack code limit _ => code ≤ 255 ∧ 1 ≤ limit ∧ limit ≤ 3600
  | .notify code p1 p2 => code ≤ 255 ∧ p1 ≤ 65535 ∧ p2 ≤ 65535
  | .hold n | .repeatStep n => 1 ≤ n ∧ n ≤ 4095
  | .check cond _ => (∀ load, cond = .loadBelow load → load ≤ 65000) ∧ ∀ z, cond = .holding z → z ≤ 47
  | .release zones => ∀ zs, zones = .named zs → 1 ≤ zs.length ∧ zs.length ≤ 4 ∧ zs.Nodup ∧ ∀ z ∈ zs, z ≤ 47
  | .loop | .endStep => True

/-- A step jumps to a step index: by the GOTO of its on-timeout, or as the target of a CHECK. -/
def Parts.JumpsTo (st : PlanStep) (n : Nat) : Prop :=
  (∃ zs limit, st = .claim zs limit (.goto n)) ∨ (∃ cond limit, st = .await cond limit (.goto n)) ∨
    (∃ code limit, st = .ack code limit (.goto n)) ∨ ∃ cond, st = .check cond n

/-- A step names a zone: by its CLAIM, RELEASE or CHECK HOLDING operand. -/
def Parts.NamesZone (st : PlanStep) (z : ZoneId) : Prop :=
  (∃ zs limit o, st = .claim zs limit o ∧ z.val ∈ zs) ∨ (∃ zs, st = .release (.named zs) ∧ z.val ∈ zs) ∨
    ∃ target, st = .check (.holding z.val) target

/-- Step i lies on a cycle of the step graph that passes through no AWAIT, ACK or HOLD step. -/
def Parts.OnQuickCycle (steps : List PlanStep) (i : Nat) : Prop :=
  Relation.TransGen
    (fun a b => Parts.PlanEdge steps a b ∧ (∀ st, steps[a]? = some st → ¬ Parts.Waits st) ∧
      (∀ st, steps[b]? = some st → ¬ Parts.Waits st)) i i

/-- The step at an index fails a check of the verification: 1 RANGE, 2 TARGET, 4 CYCLE or, in OPERATE, 5 ZONE. -/
def Parts.StepFails (s : State) (steps : List PlanStep) (check : PlanCheck) (i : Nat) : Prop :=
  ∃ st, steps[i]? = some st ∧
    ((check = .range ∧ ¬ Parts.StepInRange st) ∨ (check = .target ∧ ∃ n, Parts.JumpsTo st n ∧ steps.length ≤ n) ∨
      (check = .cycle ∧ Parts.OnQuickCycle steps i) ∨
      (check = .zone ∧ s.geo.mode = .operate ∧ ∃ z, Parts.NamesZone st z ∧ (s.entry z).kind = .unused))

/-- A plan is VALID exactly when every operand is in range, every jump target is a step of the plan, its last step is END,
no cycle of its step graph avoids AWAIT, ACK and HOLD, and in OPERATE it names no UNUSED zone. -/
def Parts.VerdictIsValid : Prop :=
  ∀ (steps : List PlanStep) (s : State),
    s.verify steps = none ↔
      (∀ st ∈ steps, Parts.StepInRange st) ∧
      (∀ st ∈ steps, ∀ n, Parts.JumpsTo st n → n < steps.length) ∧
      steps.getLast? = some .endStep ∧
      (∀ i, ¬ Parts.OnQuickCycle steps i) ∧
      (s.geo.mode = .operate → ∀ st ∈ steps, ∀ z : ZoneId, Parts.NamesZone st z → (s.entry z).kind ≠ .unused)

/-- The failure of a plan that is not VALID: the first of the five checks that some step fails, at the lowest step that fails
it; and for a plan whose last step is not END, NO_END at that step. -/
def Parts.FailureIsRecorded : Prop :=
  ∀ (steps : List PlanStep) (s : State),
    let fails := Parts.StepFails s steps
    let records (check : PlanCheck) : Prop :=
      ∀ i, fails check i → (∀ j, j < i → ¬ fails check j) → s.verify steps = some ⟨check, i⟩
    records .range ∧
    ((∀ i, ¬ fails .range i) → records .target ∧
      ((∀ i, ¬ fails .target i) →
        (steps.getLast? ≠ some .endStep → s.verify steps = some ⟨.noEnd, steps.length - 1⟩) ∧
        (steps.getLast? = some .endStep → records .cycle ∧ ((∀ i, ¬ fails .cycle i) → records .zone))))

/-- The verdict of a plan, with the operand ranges of section 8.1, and the failure recorded for one that is not VALID: the first
failing check with its lowest failing step. That no range but check 2 bounds a step index is the model's reading (DEDUCED, log
36). -/
def Obligations.PlanIsValidExactly : Prop := Parts.VerdictIsValid ∧ Parts.FailureIsRecorded

/-- The kind's combination holds: R126's table. -/
def Parts.CombinationHolds (s : State) (b : Booking) (now : Nat) : Prop :=
  match b.kind with
  | .normal => True
  | .service => b.mass = 0 ∧ b.windLimit = none
  | .urgent => b.start ≤ now ∧ ∀ o ∈ s.bookings, o.crane = b.crane → o.kind = .urgent →
      o.state ≠ .ready ∧ (o.state = .running → o.returnsTo = none)
  | .supersede => b.start ≤ now ∧ (∃ o ∈ s.bookings, o.crane = b.crane ∧ o.state = .running) ∧
      ∀ o ∈ s.bookings, o.crane = b.crane → o.state = .running → o.returnsTo = none

/-- Checks 5 to 10 of R127, each with those before it passed: the window, the plan, membership of the zones the plan claims
(in OPERATE), the chart, an overlap for NORMAL and SERVICE, and the table's room. With all passed nothing refuses. -/
def Parts.LaterChecks (s : State) (b : Booking) (now : Nat) (refuses : ReplyCode → Prop) (passes : Prop) : Prop :=
  ((b.finish ≤ b.start ∨ b.finish ≤ now ∨ b.start + 720 < b.finish) → refuses .windowInvalid) ∧
  (b.start < b.finish → now < b.finish → b.finish ≤ b.start + 720 →
    ((∀ p, s.plan? b.plan = some p → p.failure ≠ none) → refuses .planInvalid) ∧
    (∀ p, s.plan? b.plan = some p → p.failure = none →
      (s.geo.mode = .operate → (∃ st ∈ p.steps, ∃ z : ZoneId, z.val ∈ claimZonesOf st ∧ b.crane ∉ (s.entry z).members) →
        refuses .notMember) ∧
      ((s.geo.mode = .operate → ∀ st ∈ p.steps, ∀ z : ZoneId, z.val ∈ claimZonesOf st →
          b.crane ∈ (s.entry z).members) →
        ∀ chart, (s.slotOf b.crane).chart = some chart →
          ((chart.get b.pick.band < b.mass ∨ chart.get b.set.band < b.mass) → refuses .overChart) ∧
          (b.mass ≤ chart.get b.pick.band → b.mass ≤ chart.get b.set.band →
            ((b.kind = .normal ∨ b.kind = .service) → (∃ o ∈ s.bookings, o.crane = b.crane ∧ o.state.ended = false ∧
                o.start < b.finish ∧ b.start < o.finish) → refuses .overlap) ∧
            ((b.kind = .normal ∨ b.kind = .service → ∀ o ∈ s.bookings, o.crane = b.crane → o.state.ended = false →
                b.finish ≤ o.start ∨ o.finish ≤ b.start) →
              (64 ≤ s.bookings.length → refuses .tableFull) ∧
              (s.bookings.length < 64 → passes))))))

/-- BOOK is refused by the first of R127's checks that fails: an operand out of range or number 0, a number in the table,
an unset minute, an unconfigured slot, a crane in LOCKOUT or OFFLINE, the kind's combination (BAD_COMBINATION, NEST_DEPTH
or NOTHING_TO_SUPERSEDE), and then, for every kind, checks 5 to 10. With all passed it is not refused. A start after now is
judged before the further condition of the kind, which is the model's choice (log 74). -/
def Parts.BookIsRefused : Prop :=
  ∀ (tag : Byte) (f : BookFields) (s : State), s.Ready →
    (bookingOf? f = none → RefusedWith (.book tag f) s tag 12 .badValue) ∧
    ∀ b, bookingOf? f = some b →
      (b.number = 0 → RefusedWith (.book tag f) s tag 12 .badValue) ∧
      (b.number ≠ 0 →
        ((∃ o ∈ s.bookings, o.number = b.number) → RefusedWith (.book tag f) s tag 12 .inUse) ∧
        ((∀ o ∈ s.bookings, o.number ≠ b.number) →
          (s.clock.minute = none → RefusedWith (.book tag f) s tag 12 .clockUnset) ∧
          ∀ now, s.clock.minute = some now →
            (s.configured b.crane = false → RefusedWith (.book tag f) s tag 12 .notConfigured) ∧
            (s.configured b.crane = true →
              ((s.crane b.crane).state = .lockout ∨ (s.crane b.crane).state = .offline →
                RefusedWith (.book tag f) s tag 12 .badState) ∧
              ((s.crane b.crane).state ≠ .lockout → (s.crane b.crane).state ≠ .offline →
                ((b.kind = .urgent ∨ b.kind = .supersede) → now < b.start →
                  RefusedWith (.book tag f) s tag 12 .badCombination) ∧
                (b.kind = .service → (b.mass ≠ 0 ∨ b.windLimit ≠ none) →
                  RefusedWith (.book tag f) s tag 12 .badCombination) ∧
                (b.kind = .urgent → b.start ≤ now → (∃ o ∈ s.bookings, o.crane = b.crane ∧ o.kind = .urgent ∧
                    (o.state = .ready ∨ (o.state = .running ∧ o.returnsTo ≠ none))) →
                  RefusedWith (.book tag f) s tag 12 .nestDepth) ∧
                (b.kind = .supersede → b.start ≤ now →
                  ((∀ o ∈ s.bookings, o.crane = b.crane → o.state ≠ .running) →
                    RefusedWith (.book tag f) s tag 12 .nothingToSupersede) ∧
                  ((∃ o ∈ s.bookings, o.crane = b.crane ∧ o.state = .running) →
                    (∀ o ∈ s.bookings, o.crane = b.crane → o.state = .running → o.returnsTo ≠ none) →
                    RefusedWith (.book tag f) s tag 12 .nestDepth)) ∧
                (Parts.CombinationHolds s b now →
                  Parts.LaterChecks s b now (RefusedWith (.book tag f) s tag 12)
                    (s.refuseBooking? b now = none))))))

/-- BOOK, when no check fails, is answered OK with the number and the contention count. A NORMAL or SERVICE booking whose
start lies ahead is stored PENDING; an URGENT one that cannot start now is stored READY with its start reached; a SUPERSEDE
one replaces the booking on the channel, and on a channel that stays suspended stands at its step 0. -/
def Parts.BookIsStored : Prop :=
  ∀ (tag : Byte) (f : BookFields) (b : Booking) (now : Nat) (s : State), s.Ready → bookingOf? f = some b →
    b.number ≠ 0 → s.booking? b.number = none → s.clock.minute = some now → s.refuseBooking? b now = none →
    (∃ t, exec (.book tag f) s = .next t ∧ Carries s t ⟨tag, 12, .ok, .booked b.number (s.contention b)⟩ ∧
      s.KeepsSite t) ∧
    (b.kind = .normal ∨ b.kind = .service → now < b.start →
      Answered (.book tag f) s tag 12 .ok (.booked b.number (s.contention b))
        { s with bookings := s.bookings ++
            [{ b with state := .pending, startReached := false, contention := s.contention b }] }) ∧
    (b.kind = .urgent → s.geo.mode = .survey ∨ (s.crane b.crane).state ≠ .inService →
      Answered (.book tag f) s tag 12 .ok (.booked b.number (s.contention b))
        { s with bookings := s.bookings ++
            [{ b with state := .ready, startReached := true, contention := s.contention b }] }) ∧
    (∀ x, b.kind = .supersede → s.NumbersUnique → s.current? b.crane = some x →
      (s.channel b.crane).reasons.operator = true ∨ (s.channel b.crane).reasons.fault = true →
      ∃ t, exec (.book tag f) s = .next t ∧ (t.channel b.crane).booking = some b.number ∧
        (t.channel b.crane).step = 0 ∧ (t.channel b.crane).phase = .starting ∧
        t.EndedAs x.number .cancelled ⟨.superseded, some (s.channel b.crane).step⟩ ∧
        t.booking? b.number =
          some { b with state := .running, startReached := true, contention := s.contention b, returnsTo := none })

/-- A NORMAL or SERVICE booking whose start has been reached is stored READY and gated at once. With no other booking of its
crane READY: while R131's conditions fail, or the channel has a booking, it stays READY and nothing else changes; with them
holding on an IDLE channel it starts, so that it is READY no more, and on a channel that stays suspended it stands at step 0. -/
def Parts.ReadyBookIsGated : Prop :=
  ∀ (tag : Byte) (f : BookFields) (b : Booking) (now : Nat) (s : State), s.Ready → bookingOf? f = some b →
    b.number ≠ 0 → s.booking? b.number = none → s.clock.minute = some now → s.refuseBooking? b now = none →
    b.kind = .normal ∨ b.kind = .service → b.start ≤ now → s.NoneReady b.crane →
    (s.geo.mode = .survey ∨ (s.crane b.crane).state ≠ .inService ∨ s.effective b.crane = .hold ∨
        s.effective b.crane = .storm ∨ (s.windOf b.crane).gust = none ∨
        (∃ g, (s.windOf b.crane).gust = some g ∧ b.windLimit.getD s.profile.holdGust ≤ g) ∨
        (s.channel b.crane).booking ≠ none →
      Answered (.book tag f) s tag 12 .ok (.booked b.number (s.contention b))
        { s with bookings := s.bookings ++
            [{ b with state := .ready, startReached := true, contention := s.contention b }] }) ∧
    (s.geo.mode = .operate → (s.crane b.crane).state = .inService → s.effective b.crane = .calm ∨ s.effective b.crane = .watch →
      (∃ g, (s.windOf b.crane).gust = some g ∧ g < b.windLimit.getD s.profile.holdGust) →
      (s.channel b.crane).booking = none →
      ∃ t, exec (.book tag f) s = .next t ∧ Carries s t ⟨tag, 12, .ok, .booked b.number (s.contention b)⟩ ∧
        (∀ o, t.booking? b.number = some o → o.state ≠ .ready ∧ o.state ≠ .pending) ∧
        ((s.channel b.crane).reasons.operator = true ∨ (s.channel b.crane).reasons.fault = true →
          (t.channel b.crane).booking = some b.number ∧ (t.channel b.crane).step = 0 ∧
            (t.channel b.crane).phase = .starting ∧ (t.channel b.crane).stepMode = b.stepMode ∧
            t.booking? b.number =
              some { b with state := .running, startReached := true, contention := s.contention b }))

/-- Start gating on an IDLE channel with no URGENT booking READY starts the READY booking with the lowest start minute, and
of those the lowest number, when R131's conditions hold; with a condition failing it starts nothing. -/
def Parts.GateStartsEarliest : Prop :=
  ∀ (c : Slot) (b : Booking) (s : State), s.NumbersUnique → (s.channel c).booking = none → b ∈ s.bookings → b.crane = c →
    b.state = .ready → (∀ o ∈ s.bookings, o.crane = c → o.state = .ready → o.kind ≠ .urgent ∧
      (o = b ∨ b.start < o.start ∨ (b.start = o.start ∧ b.number < o.number))) →
    (s.geo.mode = .operate → (s.crane c).state = .inService → s.effective c = .calm ∨ s.effective c = .watch →
      (∃ g, (s.windOf c).gust = some g ∧ g < b.windLimit.getD s.profile.holdGust) →
      ((gate c s).channel c).booking = some b.number ∧ ((gate c s).channel c).step = 0 ∧
        ((gate c s).channel c).phase = .starting ∧ ((gate c s).channel c).stepMode = b.stepMode ∧
        (gate c s).booking? b.number = some { b with state := .running }) ∧
    (s.geo.mode = .survey ∨ (s.crane c).state ≠ .inService ∨ s.effective c = .hold ∨ s.effective c = .storm ∨
      (s.windOf c).gust = none ∨ (∃ g, (s.windOf c).gust = some g ∧ b.windLimit.getD s.profile.holdGust ≤ g) →
      gate c s = s)

/-- An urgent start on a channel running a booking that returns to none interrupts it: the running booking keeps its
channel's context and is INTERRUPTED, and the urgent one is RUNNING and returns to it. -/
def Parts.UrgentInterrupts : Prop :=
  ∀ (c : Slot) (u x : Booking) (s : State), s.NumbersUnique → s.geo.mode = .operate → (s.crane c).state = .inService →
    s.booking? u.number = some u → s.current? c = some x → x.returnsTo = none → u.number ≠ x.number →
    ((urgentStart c u s).channel c).booking = some u.number ∧
      (urgentStart c u s).booking? u.number = some { u with state := .running, returnsTo := some x.number } ∧
      (urgentStart c u s).booking? x.number =
        some { x with state := .interrupted, saved := some (s.channel c).context } ∧
      ((urgentStart c u s).channel c).reasons.operator = (s.channel c).reasons.operator ∧
      ((urgentStart c u s).channel c).stepMode = (s.channel c).stepMode

/-- A SUPERSEDE booking n replaces the booking on its channel: that one is CANCELLED with SUPERSEDED at its present step, and
n is RUNNING from step 0, returns to none, and keeps the channel's step mode and suspension reasons. -/
def Parts.SupersedeReplaces : Prop :=
  ∀ (c : Slot) (u x : Booking) (s : State), s.NumbersUnique → s.current? c = some x → u.number ≠ x.number →
    s.booking? u.number = some u →
    ((supersede c u.number s).channel c).booking = some u.number ∧ ((supersede c u.number s).channel c).step = 0 ∧
      ((supersede c u.number s).channel c).phase = .starting ∧
      ((supersede c u.number s).channel c).stepMode = (s.channel c).stepMode ∧
      ((supersede c u.number s).channel c).reasons.operator = (s.channel c).reasons.operator ∧
      ((supersede c u.number s).channel c).reasons.fault = (s.channel c).reasons.fault ∧
      (supersede c u.number s).booking? u.number = some { u with state := .running, returnsTo := none } ∧
      (supersede c u.number s).EndedAs x.number .cancelled ⟨.superseded, some (s.channel c).step⟩

/-- A resumption: the interrupted booking is RUNNING without a saved context, and its channel takes it at the saved step and
phase with the saved counts, keeping its step mode and the reasons OPERATOR and FAULT. The CANCEL of an URGENT booking
resumes the one it returns to, which on a channel that stays suspended stands as it was saved. -/
def Parts.InterruptedResumes : Prop :=
  (∀ (c : Slot) (x : Booking) (saved : SavedContext) (s : State), s.NumbersUnique → s.booking? x.number = some x →
    (s.channel c).interruptedLoss = none →
    ((resumeBooking c x saved s).channel c).booking = some x.number ∧
      ((resumeBooking c x saved s).channel c).step = saved.step ∧
      ((resumeBooking c x saved s).channel c).phase = saved.phase ∧
      ((resumeBooking c x saved s).channel c).repeatCounter = saved.repeatCounter ∧
      ((resumeBooking c x saved s).channel c).loopStart = saved.loopStart ∧
      ((resumeBooking c x saved s).channel c).hold = saved.hold ∧
      ((resumeBooking c x saved s).channel c).wait = saved.wait ∧
      ((resumeBooking c x saved s).channel c).stepMode = (s.channel c).stepMode ∧
      ((resumeBooking c x saved s).channel c).reasons.operator = (s.channel c).reasons.operator ∧
      ((resumeBooking c x saved s).channel c).reasons.fault = (s.channel c).reasons.fault ∧
      (resumeBooking c x saved s).booking? x.number = some { x with state := .running, saved := none }) ∧
  ∀ (tag : Byte) (u x : Booking) (saved : SavedContext) (s : State), s.Ready → s.NumbersUnique →
    s.booking? u.number = some u → u.state = .running → u.returnsTo = some x.number → s.booking? x.number = some x →
    x.state = .interrupted → x.saved = some saved → (s.channel u.crane).interruptedLoss = none →
    (s.channel u.crane).reasons.operator = true →
    ∃ t, exec (.cancel tag u.number) s = .next t ∧ Carries s t ⟨tag, 13, .ok, .empty⟩ ∧
      t.EndedAs u.number .cancelled ⟨.host, some (s.channel u.crane).step⟩ ∧
      t.booking? x.number = some { x with state := .running, saved := none } ∧
      (t.channel u.crane).booking = some x.number ∧ (t.channel u.crane).step = saved.step ∧
      (t.channel u.crane).phase = saved.phase ∧ (t.channel u.crane).hold = saved.hold ∧
      (t.channel u.crane).wait = saved.wait

/-- The ranges of the fixed fields of R125's table, number 0 being refused by a check of its own. -/
def Parts.BookingInRange (f : BookFields) : Prop :=
  f.number ≤ 65535 ∧ f.crane ≤ 11 ∧ f.kind ≤ 3 ∧ f.start ≤ 16777215 ∧ f.finish ≤ 16777215 ∧ f.priority ≤ 7 ∧
    f.mass ≤ 65000 ∧ (∀ w, f.windLimit = some w → w ≤ 600) ∧ f.pick.sector ≤ 127 ∧ f.pick.band ≤ 7 ∧
    f.set.sector ≤ 127 ∧ f.set.band ≤ 7 ∧ f.plan ≤ 31 ∧ ∀ n, f.repeatOverride = some n → 1 ≤ n ∧ n ≤ 4095

/-- The operands of BOOK make a booking exactly when each is in its range, and the booking carries each as given. With one out
of range, or number 0, BOOK is BAD_VALUE and stores nothing. -/
def Parts.BookingOperandsAreJudged : Prop :=
  ∀ f : BookFields,
    ((∃ b, bookingOf? f = some b) ↔ Parts.BookingInRange f) ∧
    (∀ b, bookingOf? f = some b →
      b.number = f.number ∧ b.crane.val = f.crane ∧
      [BookingKind.normal, .urgent, .supersede, .service][f.kind]? = some b.kind ∧ b.start = f.start ∧
      b.finish = f.finish ∧ b.priority = f.priority ∧ b.mass = f.mass ∧ b.windLimit = f.windLimit ∧
      b.pick.sector.val = f.pick.sector ∧ b.pick.band.val = f.pick.band ∧ b.set.sector.val = f.set.sector ∧
      b.set.band.val = f.set.band ∧ b.plan.val = f.plan ∧ b.repeatOverride = f.repeatOverride ∧
      b.stepMode = f.stepMode ∧ b.windowEnded = false ∧ b.outcome = none ∧ b.saved = none ∧ b.returnsTo = none) ∧
    (¬ Parts.BookingInRange f ∨ f.number = 0 → ∀ (tag : Byte) (s : State), s.Ready →
      RefusedWith (.book tag f) s tag 12 .badValue)

/-- BOOK with the ranges of its operands, and how a booking comes on its channel: by gating, by urgent start, by supersession
and by resumption. That an URGENT or SUPERSEDE BOOK whose start is after now is BAD_COMBINATION whatever its further condition
would say is the model's choice (log 74). -/
def Obligations.BookingIsAdmitted : Prop :=
  Parts.BookingOperandsAreJudged ∧ Parts.BookIsRefused ∧ Parts.BookIsStored ∧ Parts.ReadyBookIsGated ∧
    Parts.GateStartsEarliest ∧ Parts.UrgentInterrupts ∧ Parts.SupersedeReplaces ∧ Parts.InterruptedResumes

/-- CANCEL: NOT_FOUND for a number outside the table, BAD_STATE for a booking that has ended. A PENDING or READY booking
becomes CANCELLED with HOST and no step, and its entry is freed at once while BOOKING is masked. A RUNNING one, and an
INTERRUPTED one, end as CANCELLED with HOST and their step. -/
def Obligations.BookingIsCancelled : Prop :=
  ∀ (tag : Byte) (n : Nat) (s : State), s.Ready →
    ((∀ b ∈ s.bookings, b.number ≠ n) → RefusedWith (.cancel tag n) s tag 13 .notFound) ∧
    ∀ b, s.booking? n = some b →
      (b.state.ended = true → RefusedWith (.cancel tag n) s tag 13 .badState) ∧
      (b.state = .pending ∨ b.state = .ready →
        (.booking ∉ s.port.masks → Answered (.cancel tag n) s tag 13 .ok .empty
          { s with bookings := s.bookings.map fun x =>
              if x.number = n then { b with state := .cancelled, outcome := some ⟨.host, none⟩ } else x }) ∧
        (.booking ∈ s.port.masks → Answered (.cancel tag n) s tag 13 .ok .empty
          { s with bookings := s.bookings.filter fun x => x.number != n })) ∧
      (b.state = .running → ∃ t, exec (.cancel tag n) s = .next t ∧ Carries s t ⟨tag, 13, .ok, .empty⟩ ∧
        t.EndedAs n .cancelled ⟨.host, some (s.channel b.crane).step⟩ ∧ (t.channel b.crane).booking ≠ some n ∧
        s.KeepsSite t) ∧
      (b.state = .interrupted → ∃ t, exec (.cancel tag n) s = .next t ∧ Carries s t ⟨tag, 13, .ok, .empty⟩ ∧
        t.EndedAs n .cancelled ⟨.host, b.saved.map (·.step)⟩ ∧ (t.channel b.crane).interruptedLoss = none ∧
        (∀ u, t.booking? u.number = some u → u.state = .running → u.returnsTo ≠ some n) ∧ s.KeepsSite t)

/-! ## Lift Channels -/

/-- The four channel requests are refused: BAD_VALUE for a slot out of range, NOT_CONFIGURED for an unconfigured slot but in
CONTINUE, and BAD_STATE where OPERATOR already stands, does not stand, no booking is on the channel, or, in CONTINUE of any
slot, configured or not, the channel is not in STEP_PAUSE. -/
def Parts.ChannelRequestsRefused : Prop :=
  ∀ (tag : Byte) (s : State), s.Ready →
    (∀ n, 12 ≤ n → RefusedWith (.suspendChannel tag n) s tag 14 .badValue ∧
      RefusedWith (.resumeChannel tag n) s tag 15 .badValue ∧ (∀ on, RefusedWith (.stepMode tag n on) s tag 16 .badValue) ∧
      RefusedWith (.continueStep tag n) s tag 17 .badValue) ∧
    (∀ c : Slot, s.configured c = false → RefusedWith (.suspendChannel tag c.val) s tag 14 .notConfigured ∧
      RefusedWith (.resumeChannel tag c.val) s tag 15 .notConfigured ∧
      ∀ on, RefusedWith (.stepMode tag c.val on) s tag 16 .notConfigured) ∧
    (∀ c : Slot, s.configured c = true →
      ((s.channel c).reasons.operator = true → RefusedWith (.suspendChannel tag c.val) s tag 14 .badState) ∧
      ((s.channel c).reasons.operator = false → RefusedWith (.resumeChannel tag c.val) s tag 15 .badState) ∧
      ((s.channel c).booking = none → ∀ on, RefusedWith (.stepMode tag c.val on) s tag 16 .badState)) ∧
    ∀ c : Slot, (s.channel c).state ≠ .stepPause → RefusedWith (.continueStep tag c.val) s tag 17 .badState

/-- SUSPEND_CHANNEL, RESUME_CHANNEL and STEP_MODE when they are taken. OPERATOR joins or leaves the suspension set, and the
step-mode flag is set or cleared with nothing else. What a channel that becomes ACTIVE does next is its step's. -/
def Parts.ChannelRequestsAct : Prop :=
  ∀ (tag : Byte) (c : Slot) (s : State), s.Ready → s.configured c = true →
    ((s.channel c).reasons.operator = false →
      (∃ t, exec (.suspendChannel tag c.val) s = .next t ∧ Carries s t ⟨tag, 14, .ok, .empty⟩ ∧
        (t.channel c).reasons = { (s.channel c).reasons with operator := true } ∧ (t.channel c).state ≠ .active ∧
        (t.channel c).booking = (s.channel c).booking ∧ s.KeepsSite t) ∧
      ((s.channel c).phase ≠ .waitingClaim → Answered (.suspendChannel tag c.val) s tag 14 .ok .empty
        (s.putChannel c { s.channel c with reasons := { (s.channel c).reasons with operator := true } }))) ∧
    ((s.channel c).reasons.operator = true →
      (∃ t, exec (.resumeChannel tag c.val) s = .next t ∧ Carries s t ⟨tag, 15, .ok, .empty⟩ ∧
        (t.channel c).reasons.operator = false ∧ s.KeepsSite t) ∧
      ((s.channel c).booking = none ∨ (s.channel c).paused = true ∨ (s.channel c).reasons.wind = true ∨
        (s.channel c).reasons.fault = true ∨ (s.channel c).phase = .waitingPose ∨ (s.channel c).phase = .waitingAck ∨
        (s.channel c).phase = .holding →
        Answered (.resumeChannel tag c.val) s tag 15 .ok .empty
          (s.putChannel c { s.channel c with reasons := { (s.channel c).reasons with operator := false } }))) ∧
    ((s.channel c).booking ≠ none → ∀ on, Answered (.stepMode tag c.val on) s tag 16 .ok .empty
      (s.putChannel c { s.channel c with stepMode := on }))

/-- CONTINUE of a channel in STEP_PAUSE lifts the pause, with nothing else while a suspension reason stands or the step waits
for an event. What a channel that becomes ACTIVE does next is its step's. -/
def Parts.ContinueLiftsPause : Prop :=
  ∀ (tag : Byte) (c : Slot) (s : State), s.Ready → (s.channel c).state = .stepPause →
    (∃ t, exec (.continueStep tag c.val) s = .next t ∧ Carries s t ⟨tag, 17, .ok, .empty⟩ ∧ s.KeepsSite t) ∧
    ((s.channel c).reasons ≠ .empty ∨ (s.channel c).phase = .waitingPose ∨ (s.channel c).phase = .waitingAck ∨
      (s.channel c).phase = .holding →
      Answered (.continueStep tag c.val) s tag 17 .ok .empty (s.putChannel c { s.channel c with paused := false }))

/-- SUSPEND_CHANNEL, RESUME_CHANNEL, STEP_MODE and CONTINUE: what refuses them, and what they do when they are taken. -/
def Obligations.ChannelRequestsAct : Prop :=
  Parts.ChannelRequestsRefused ∧ Parts.ChannelRequestsAct ∧ Parts.ContinueLiftsPause

/-- The cab line of a crane is idle with nothing to send before a new notice, and the reset line is high. -/
def Parts.LineIdle (s : State) (c : Slot) : Prop :=
  (s.link c).tx = none ∧ (s.link c).slot = none ∧ (s.link c).notices = [] ∧ s.power.lowFor = none

/-- NEXT_STEP carries out a HOLD, an AWAIT and an ACK step: each takes its phase and its count or wait limit. A notice enters
the queue while it has a free place, and otherwise the step waits for a place; an idle line with nothing before it begins
the notice at once. -/
def Parts.WaitingStepsBegin : Prop :=
  ∀ (c : Slot) (s : State), s.power.on = true → s.NoTake → (s.channel c).state = .active →
    (s.channel c).phase = .starting →
    (∀ n, s.step? c = some (.hold n) → Leaves (.nextStep c) s
      (s.putChannel c { s.channel c with phase := .holding, hold := some n })) ∧
    (∀ cond limit o, s.step? c = some (.await cond limit o) → Leaves (.nextStep c) s
      (s.putChannel c { s.channel c with phase := .waitingPose, wait := some (limit * 1000) })) ∧
    (∀ code limit o n, s.step? c = some (.ack code limit o) → (s.channel c).booking = some n →
      (4 ≤ (s.link c).notices.length → Leaves (.nextStep c) s
        (s.putChannel c { s.channel c with phase := .waitingSlot, wait := some (limit * 1000) })) ∧
      ((s.link c).notices.length < 4 → (s.link c).tx ≠ none → Leaves (.nextStep c) s
        ((s.putLink c { s.link c with
            notices := (s.link c).notices ++ [.coded code true n (s.channel c).step] }).putChannel c
          { s.channel c with phase := .waitingAck, wait := some (limit * 1000) })) ∧
      (Parts.LineIdle s c → Leaves (.nextStep c) s
        ((s.putLink c { s.link c with tx := some (.notice (.coded code true n (s.channel c).step)) }).putChannel c
          { s.channel c with phase := .waitingAck, wait := some (limit * 1000) })))

/-- NEXT_STEP on a channel in step mode carries out one step that completes as it begins, and the pause then stands: REPEAT
and LOOP move the counter and the step index, and NOTIFY queues its notice. -/
def Parts.QuickStepsComplete : Prop :=
  ∀ (c : Slot) (s : State), s.power.on = true → s.NoTake → (s.channel c).state = .active →
    (s.channel c).phase = .starting → (s.channel c).stepMode = true →
    (∀ n b, s.step? c = some (.repeatStep n) → s.current? c = some b → Leaves (.nextStep c) s
      (s.putChannel c (Channel.completed ((s.channel c).step + 1)
        { s.channel c with repeatCounter := b.repeatOverride.getD n, loopStart := (s.channel c).step + 1 }))) ∧
    (s.step? c = some .loop →
      (0 < (s.channel c).repeatCounter → Leaves (.nextStep c) s
        (s.putChannel c (Channel.completed (s.channel c).loopStart
          { s.channel c with repeatCounter := (s.channel c).repeatCounter - 1 }))) ∧
      ((s.channel c).repeatCounter = 0 → Leaves (.nextStep c) s
        (s.putChannel c ((s.channel c).completed ((s.channel c).step + 1))))) ∧
    (∀ code p1 p2, s.step? c = some (.notify code p1 p2) →
      (4 ≤ (s.link c).notices.length → Leaves (.nextStep c) s
        (s.putChannel c { s.channel c with phase := .waitingSlot })) ∧
      ((s.link c).notices.length < 4 → (s.link c).tx ≠ none → Leaves (.nextStep c) s
        ((s.putLink c { s.link c with notices := (s.link c).notices ++ [.coded code false p1 p2] }).putChannel c
          ((s.channel c).completed ((s.channel c).step + 1)))) ∧
      (Parts.LineIdle s c → Leaves (.nextStep c) s
        ((s.putLink c { s.link c with tx := some (.notice (.coded code false p1 p2)) }).putChannel c
          ((s.channel c).completed ((s.channel c).step + 1)))))

/-- NEXT_STEP on a channel out of step mode goes on in the same event: after a REPEAT, a NOTIFY behind a busy line or a CHECK
on the window, a HOLD at the next step index begins. -/
def Parts.QuickStepsRunOn : Prop :=
  ∀ (c : Slot) (b : Booking) (p : Plan) (k : Nat) (s : State), s.power.on = true → s.NoTake →
    (s.channel c).state = .active → (s.channel c).phase = .starting → (s.channel c).stepMode = false →
    s.current? c = some b → s.plan? b.plan = some p → p.steps[(s.channel c).step + 1]? = some (.hold k) →
    ∀ x, x = { (s.channel c).completed ((s.channel c).step + 1) with phase := .holding, hold := some k } →
    (∀ n, p.steps[(s.channel c).step]? = some (.repeatStep n) → Leaves (.nextStep c) s
      (s.putChannel c { x with repeatCounter := b.repeatOverride.getD n, loopStart := (s.channel c).step + 1 })) ∧
    (∀ code p1 p2, p.steps[(s.channel c).step]? = some (.notify code p1 p2) → (s.link c).notices.length < 4 →
      (s.link c).tx ≠ none → Leaves (.nextStep c) s
        ((s.putLink c { s.link c with notices := (s.link c).notices ++ [.coded code false p1 p2] }).putChannel c x)) ∧
    (∀ target, p.steps[(s.channel c).step]? = some (.check .windowOpen target) → b.windowEnded = false →
      Leaves (.nextStep c) s (s.putChannel c x))

/-- NEXT_STEP on a channel in step mode at a CHECK step: with the condition true the next step is the one after it, and with
it false the target. -/
def Parts.CheckJudges : Prop :=
  ∀ (c : Slot) (cond : CheckCond) (target : Nat) (b : Booking) (s : State), s.power.on = true → s.NoTake →
    (s.channel c).state = .active → (s.channel c).phase = .starting → (s.channel c).stepMode = true →
    s.step? c = some (.check cond target) → s.current? c = some b →
    ∃ next, Leaves (.nextStep c) s (s.putChannel c ((s.channel c).completed next)) ∧
      (next = (s.channel c).step + 1 ∨ next = target) ∧
      (cond = .windowOpen → next = if b.windowEnded = true then target else (s.channel c).step + 1) ∧
      (cond = .stateCalm → next = if s.effective c = .calm then (s.channel c).step + 1 else target) ∧
      (∀ x p, cond = .loadBelow x → (s.link c).lastPose = some p →
        next = if p.load < x then (s.channel c).step + 1 else target) ∧
      (cond = .windBelowLimit →
        (∀ g, (s.windOf c).gust = some g →
          next = if g < b.windLimit.getD s.profile.holdGust then (s.channel c).step + 1 else target) ∧
        ((s.windOf c).gust = none → next = target)) ∧
      (∀ z : ZoneId, cond = .holding z.val → (s.arb.pool.map (·.stamp)).Nodup →
        ((∃ r ∈ s.arb.pool, r.kind = .standing ∧ r.booking = some b.number ∧
            (∃ cz ∈ r.zones, cz.zone = z) ∧ ∀ cz ∈ r.zones, cz.zone = z → cz.status = .granted ∧ cz.pending = none) →
          next = (s.channel c).step + 1) ∧
        ((∀ r ∈ s.arb.pool, r.kind = .standing → r.booking = some b.number → ∀ cz ∈ r.zones, cz.zone = z →
            cz.status ≠ .granted ∨ cz.pending ≠ none) →
          next = target))

/-- The arbiter after the one zone of pool record n is freed with it. -/
def Parts.freed (s : State) (n : Nat) (z : ZoneId) : Arbiter :=
  { s.arb with
    zones := putAt s.arb.zones z { s.zone z with holding := .free }
    pool := s.arb.pool.filter fun r => r.stamp != n }

/-- NEXT_STEP at a CLAIM step. With the end-of-window flag set the booking fails with WINDOW_ENDED. Otherwise the wait limit
starts and the request goes out: an entry of the crane that keeps it out makes the step stand ALREADY_WAITING, an empty
pool NO_RECORD; and on a channel in step mode, zones that are free, unoccupied and asked for by nobody are all held, the
step completes and the pause stands. -/
def Parts.ClaimStepBegins : Prop :=
  ∀ (c : Slot) (b : Booking) (zs : List Nat) (limit : Nat) (o : OnTimeout) (s : State), s.power.on = true → s.NoTake →
    (s.channel c).state = .active → (s.channel c).phase = .starting → s.step? c = some (.claim zs limit o) →
    s.current? c = some b →
    (b.windowEnded = true → b.returnsTo = none → s.NoneReady c →
      ∃ t, exec (.nextStep c) s = .next t ∧ (t.channel c).state = .idle ∧
        t.EndedAs b.number .failed ⟨.windowEnded, some (s.channel c).step⟩ ∧ s.KeepsSite t) ∧
    (b.windowEnded = false → (∀ z ∈ stepZones zs, s.member c z = true) →
      ((∃ z ∈ stepZones zs, (s.entryOf? c z = some (.storm c) ∨
          ∃ n, s.entryOf? c z = some (.pool n) ∧ s.poolKind? n = some .standing)) →
        Leaves (.nextStep c) s (s.putChannel c
          { s.channel c with
            phase := .waitingClaim, claim := some .alreadyWaiting, wait := some (limit * 1000), retryDue := false })) ∧
      ((∀ z ∈ stepZones zs, s.entryOf? c z = none ∧ s.holds c z = false) → 96 ≤ s.arb.pool.length →
        Leaves (.nextStep c) s (s.putChannel c
          { s.channel c with
            phase := .waitingClaim, claim := some .noRecord, wait := some (limit * 1000), retryDue := false })) ∧
      (s.NoWaiting → s.arb.pool = [] → (s.link c).state ≠ .stale → (s.channel c).stepMode = true →
        (∀ z ∈ stepZones zs, (s.zone z).holding = .free ∧ ∀ o, o ≠ c → z ∉ (s.engine o).occupancy) →
        ∃ t, exec (.nextStep c) s = .next t ∧ t.channel c = (s.channel c).completed ((s.channel c).step + 1) ∧
          (∀ z ∈ stepZones zs, (t.zone z).holding = .held c (.pool s.arb.stamp) ∧ (t.zone z).waiting = []) ∧
          (∀ z, z ∉ stepZones zs → t.zone z = s.zone z) ∧ t.arb.stamp = s.arb.stamp + 1 ∧ s.KeepsSite t))

/-- NEXT_STEP at a RELEASE step of a channel in step mode releases the booking's zones that it names, by the release rule
in an event numbered by the model's own counter (log 3), and the step completes. With no STANDING claim of the booking it releases nothing; the one zone of its one claim, when
unoccupied and its crane is heard, becomes FREE with the record freed. -/
def Parts.ReleaseStepReleases : Prop :=
  ∀ (c : Slot) (b : Booking) (x : ReleaseZones) (s : State), s.power.on = true → s.NoTake →
    (s.channel c).state = .active → (s.channel c).phase = .starting → (s.channel c).stepMode = true →
    s.step? c = some (.release x) → s.current? c = some b →
    (∃ t, exec (.nextStep c) s = .next t ∧ s.KeepsSite t ∧
      t.arb = (releaseBookingZones b.number (match x with | .named zs => stepZones zs | .all => allZones)
        { s with events := s.events + 1 }).arb) ∧
    ((∀ r ∈ s.arb.pool, r.kind = .standing → r.booking ≠ some b.number) →
      Leaves (.nextStep c) s (s.putChannel c ((s.channel c).completed ((s.channel c).step + 1)))) ∧
    (∀ (z : ZoneId) (n : Nat) (r : PoolRecord), (x = .all ∨ ∃ zs, x = .named zs ∧ z.val ∈ zs) → s.NoWaiting →
      s.pendingZones = [] → s.poolRec? n = some r → r.kind = .standing → r.booking = some b.number →
      r.zones = [⟨z, .granted, none⟩] →
      (∀ k ∈ s.arb.pool, k.kind = .standing → k.booking = some b.number → k.stamp = n) →
      (s.zone z).holding = .held c (.pool n) → (s.zone z).coClaims = [] → z ∉ (s.engine c).occupancy →
      (s.link c).state ≠ .stale → (s.link c).state ≠ .lost →
      ∃ t, exec (.nextStep c) s = .next t ∧ t.arb = Parts.freed s n z ∧ s.KeepsSite t ∧
        t.channel c = (s.channel c).completed ((s.channel c).step + 1) ∧
        ∀ d, d ≠ c → t.channel d = { s.channel d with retryDue := (t.channel d).retryDue })

/-- NEXT_STEP at an END step of a booking that returns to none, with no booking of the crane READY: the booking is DONE with
END_REACHED at that step, and the channel IDLE. -/
def Parts.EndStepEnds : Prop :=
  ∀ (c : Slot) (b : Booking) (s : State), s.power.on = true → s.NoTake → (s.channel c).state = .active →
    (s.channel c).phase = .starting → s.step? c = some .endStep → s.current? c = some b → b.returnsTo = none →
    s.NoneReady c →
    ∃ t, exec (.nextStep c) s = .next t ∧ (t.channel c).state = .idle ∧
      t.EndedAs b.number .done ⟨.endReached, some (s.channel c).step⟩ ∧ s.KeepsSite t

/-- NEXT_STEP carries out the step a running channel stands at; a channel with nothing to begin is left as it is, a command
that is not due (the model's choice, log 14). The counter of events is the model's own (log 3). -/
def Obligations.StepIsCarriedOut : Prop :=
  Parts.WaitingStepsBegin ∧ Parts.QuickStepsComplete ∧ Parts.QuickStepsRunOn ∧ Parts.CheckJudges ∧
    Parts.ClaimStepBegins ∧ Parts.ReleaseStepReleases ∧ Parts.EndStepEnds ∧
    ∀ (c : Slot) (s : State), s.power.on = true → s.NoTake →
      (s.channel c).state ≠ .active ∨ (s.channel c).phase ≠ .starting → Leaves (.nextStep c) s s

/-- WAIT_LIMIT_EXPIRY of a running step whose remaining limit is 0: with on-timeout GOTO the step completes with that step
next, and with FAIL the booking fails with WAIT_LIMIT at its step. With time remaining nothing happens: a command that is not
due (the model's choice, log 14). That the step after a GOTO is left to a NEXT_STEP event is the model's choice (log 26). -/
def Obligations.WaitLimitExpires : Prop :=
  ∀ (c : Slot) (s : State), s.power.on = true → s.NoTake →
    ((s.channel c).wait ≠ some 0 ∨ (s.channel c).state ≠ .active → Leaves (.waitLimitExpiry c) s s) ∧
    ((s.channel c).wait = some 0 → (s.channel c).state = .active →
      (s.channel c).phase ≠ .starting → (s.channel c).phase ≠ .holding →
      (∀ n, (∃ cond limit, s.step? c = some (.await cond limit (.goto n))) ∨
          (∃ code limit, s.step? c = some (.ack code limit (.goto n))) →
        (∀ k, (s.channel c).claim ≠ some (.placed k)) →
        Leaves (.waitLimitExpiry c) s (s.putChannel c ((s.channel c).completed n))) ∧
      (∀ n zs limit, s.step? c = some (.claim zs limit (.goto n)) → ∃ t, exec (.waitLimitExpiry c) s = .next t ∧
        (t.channel c).step = n ∧ (t.channel c).phase = .starting ∧ (t.channel c).claim = none ∧
        (t.channel c).wait = none ∧ (t.channel c).booking = (s.channel c).booking ∧ s.KeepsSite t) ∧
      (∀ b, (∃ cond limit, s.step? c = some (.await cond limit .fail)) ∨
          (∃ code limit, s.step? c = some (.ack code limit .fail)) ∨
          (∃ zs limit, s.step? c = some (.claim zs limit .fail)) →
        s.current? c = some b → b.returnsTo = none → s.NoneReady c →
        ∃ t, exec (.waitLimitExpiry c) s = .next t ∧ (t.channel c).state = .idle ∧
          t.EndedAs b.number .failed ⟨.waitLimit, some (s.channel c).step⟩ ∧ s.KeepsSite t))

/-- CLAIM_RETRY of a running CLAIM step that asks again: with the end-of-window flag set the booking fails with
WINDOW_ENDED; a STORM or STANDING entry of the crane in one of the zones makes it stand ALREADY_WAITING, an empty pool
NO_RECORD; and zones that are free, unoccupied and asked for by nobody are all held as the step completes. The step that
asks for nothing again is left as it is, the step after a grant is left to a NEXT_STEP event, and a claim that was withdrawn
asks again in this event of its own: the model's choices (logs 14, 24 and 62). -/
def Parts.ClaimIsRetried : Prop :=
  ∀ (c : Slot) (s : State), s.power.on = true → s.NoTake →
    ((s.channel c).state ≠ .active ∨ (s.channel c).phase ≠ .waitingClaim → Leaves (.claimRetry c) s s) ∧
    (∀ b zs limit o, (s.channel c).state = .active → (s.channel c).phase = .waitingClaim →
      (((s.channel c).claim = some .noRecord ∧ (s.channel c).retryDue = true) ∨ (s.channel c).claim = none) →
      s.current? c = some b → s.step? c = some (.claim zs limit o) →
      (b.windowEnded = true → b.returnsTo = none → s.NoneReady c →
        ∃ t, exec (.claimRetry c) s = .next t ∧ (t.channel c).state = .idle ∧
          t.EndedAs b.number .failed ⟨.windowEnded, some (s.channel c).step⟩ ∧ s.KeepsSite t) ∧
      (b.windowEnded = false → (∀ z ∈ stepZones zs, s.member c z = true) →
        ((∃ z ∈ stepZones zs, (s.entryOf? c z = some (.storm c)) ∨
            ∃ n, s.entryOf? c z = some (.pool n) ∧ s.poolKind? n = some .standing) →
          Leaves (.claimRetry c) s
            (s.putChannel c { s.channel c with claim := some .alreadyWaiting, retryDue := false })) ∧
        ((∀ z ∈ stepZones zs, s.entryOf? c z = none ∧ s.holds c z = false) → 96 ≤ s.arb.pool.length →
          Leaves (.claimRetry c) s (s.putChannel c { s.channel c with claim := some .noRecord, retryDue := false })) ∧
        (s.NoWaiting → s.arb.pool = [] → (s.link c).state ≠ .stale →
          (∀ z ∈ stepZones zs, (s.zone z).holding = .free ∧ ∀ o, o ≠ c → z ∉ (s.engine o).occupancy) →
          ∃ t, exec (.claimRetry c) s = .next t ∧ t.channel c = (s.channel c).completed ((s.channel c).step + 1) ∧
            (∀ z ∈ stepZones zs, (t.zone z).holding = .held c (.pool s.arb.stamp) ∧ (t.zone z).waiting = []) ∧
            (∀ z, z ∉ stepZones zs → t.zone z = s.zone z) ∧ t.arb.stamp = s.arb.stamp + 1 ∧ s.KeepsSite t)))

/-- CLAIM_LOST takes the losses of one event: a loss of the current booking fails it with CLAIM_LOST and the cause, one of an
INTERRUPTED booking is recorded where none is, and any other is let go. With no loss told it does nothing, a command that
is not due (the model's choice, log 14). -/
def Parts.LossIsTaken : Prop :=
  ∀ (c : Slot) (x : Loss) (s : State), s.power.on = true → s.NoTake →
    ((s.channel c).losses = [] → Leaves (.claimLost c) s s) ∧
    ((s.channel c).losses = [x] →
      (∀ b, s.current? c = some b → b.number = x.booking → b.returnsTo = none → s.NoneReady c →
        ∃ t, exec (.claimLost c) s = .next t ∧ (t.channel c).state = .idle ∧
          t.EndedAs b.number .failed ⟨.claimLost x.cause, some (s.channel c).step⟩ ∧ s.KeepsSite t) ∧
      ((s.channel c).booking ≠ some x.booking →
        (∀ b, s.booking? x.booking = some b → b.state = .interrupted → Leaves (.claimLost c) s
          (s.putChannel c
            { s.channel c with
              losses := [], interruptedLoss := some ((s.channel c).interruptedLoss.getD (x.zone, x.cause)) })) ∧
        ((∀ b, s.booking? x.booking = some b → b.state ≠ .interrupted) → Leaves (.claimLost c) s
          (s.putChannel c { s.channel c with losses := [] }))))

/-- A CLAIM step that asks for one zone which another crane holds waits: a record is taken with the counter's value, and its
entry stands in the zone's list behind every entry with a higher key and ahead of the first that has none. Nothing else of
the arbiter changes. That a claim which is absent asks in an event of its own is the model's choice (log 62). -/
def Parts.ClaimWaitsInList : Prop :=
  ∀ (c d : Slot) (z : ZoneId) (b : Booking) (limit : Nat) (o : OnTimeout) (ref : ClaimRef) (s : State),
    s.power.on = true → s.NoTake → (s.channel c).state = .active → (s.channel c).phase = .waitingClaim →
    (s.channel c).claim = none → s.current? c = some b → s.step? c = some (.claim [z.val] limit o) →
    b.windowEnded = false → s.member c z = true → s.entryOf? c z = none → (s.zone z).holding = .held d ref → d ≠ c →
    (s.zone z).reservedFor = none → s.arb.pool.length < 96 →
    (∀ x ∈ (s.zone z).waiting, ∃ k r, x = .pool k ∧ s.poolRec? k = some r ∧ r.zones = [⟨z, .waiting, none⟩]) →
    s.poolRec? s.arb.stamp = none →
    ∃ t, exec (.claimRetry c) s = .next t ∧
      t.channel c = { s.channel c with claim := some (.placed s.arb.stamp), retryDue := false } ∧
      t.arb.stamp = s.arb.stamp + 1 ∧ (∀ k, k ≠ z → t.zone k = s.zone k) ∧
      (∃ r, t.poolRec? s.arb.stamp = some r ∧ r.crane = c ∧ r.kind = .standing ∧ r.priority = b.priority ∧
        r.booking = some b.number ∧ r.zones = [⟨z, .waiting, none⟩]) ∧
      ∃ before behind, (s.zone z).waiting = before ++ behind ∧
        t.zone z = { s.zone z with waiting := before ++ .pool s.arb.stamp :: behind } ∧
        (∀ x ∈ before, (s.key x).above ⟨1, b.priority, s.arb.stamp⟩ = true) ∧
        (∀ x rest, behind = x :: rest → (s.key x).above ⟨1, b.priority, s.arb.stamp⟩ = false)

/-- CLAIM_RETRY and CLAIM_LOST: how a CLAIM step goes on and where its entry stands, and what a lost zone does to its
booking. That a withdrawn claim asks again in an event that follows the one which withdrew it is the model's choice (log
62). -/
def Obligations.ClaimGoesOn : Prop := Parts.ClaimIsRetried ∧ Parts.ClaimWaitsInList ∧ Parts.LossIsTaken

/-! ## Zone Arbiter -/

/-- Keys: the higher rank stands above, then the higher priority, then the lower stamp; STORM, CLOSURE, STANDING and TRANSIT
claims have the ranks 3 to 0. A new entry goes into a list behind every entry with a higher key, so that a list in
descending key order stays so. -/
def Parts.ListsKeepKeyOrder : Prop :=
  (∀ a b : ClaimKey, a.above b = true ↔
    b.rank < a.rank ∨ (a.rank = b.rank ∧
      (b.priority < a.priority ∨ (a.priority = b.priority ∧ a.stamp < b.stamp)))) ∧
  (∀ (s : State) (n : Nat) (r : PoolRecord) (c : Slot) (z : ZoneId), s.poolRec? n = some r →
    s.key (.pool n) = (if r.kind = .standing then ⟨1, r.priority, n⟩ else ⟨0, 0, n⟩) ∧ (s.key (.storm c)).rank = 3 ∧
      (s.key (.closure z)).rank = 2) ∧
  ∀ (s : State) (ref : ClaimRef) (l : List ClaimRef), l.Pairwise (fun x y => (s.key x).above (s.key y) = true) →
    (∀ x ∈ l, s.key x ≠ s.key ref) →
    (insertByKey s ref l).Pairwise (fun x y => (s.key x).above (s.key y) = true) ∧
      (insertByKey s ref l).Perm (ref :: l)

/-- A zone that becomes FREE goes to the head of its list: at the expiry of a dwell the waiting claim of crane d, alone in
that zone, is granted, its entry leaves the list and the others keep their places; a channel that waits for it has its
CLAIM step completed. -/
def Parts.FreedZoneIsGranted : Prop :=
  ∀ (z : ZoneId) (c d : Slot) (n m : Nat) (r q : PoolRecord) (rest : List ClaimRef) (s : State), s.power.on = true →
    s.NoTake → (s.zone z).holding = .held c (.pool n) → (s.zone z).coClaims = [] → (s.zone z).reservedFor = none →
    s.poolRec? n = some r → r.kind = .transit → r.zones = [⟨z, .granted, none⟩] → r.dwell.running = true →
    3000 ≤ r.dwell.elapsed → (∀ e, z ∉ (s.engine e).occupancy) → (s.link c).state ≠ .stale → (s.link c).state ≠ .lost →
    s.pendingZones = [] → (s.zone z).waiting = .pool m :: rest → m ≠ n → s.poolRec? m = some q → q.crane = d →
    q.zones = [⟨z, .waiting, none⟩] → (s.link d).state ≠ .stale →
    (∀ x ∈ rest, ∃ k p, x = .pool k ∧ k ≠ n ∧ k ≠ m ∧ s.poolRec? k = some p ∧ p.zones = [⟨z, .waiting, none⟩]) →
    ∃ t, exec (.dwellExpiry z) s = .next t ∧
      t.zone z = { s.zone z with holding := .held d (.pool m), waiting := rest } ∧ (∀ k, k ≠ z → t.zone k = s.zone k) ∧
      t.grantedTo (.pool m) z = true ∧ t.poolRec? n = none ∧
      (q.kind = .standing → (s.channel d).claim = some (.placed m) → (s.channel d).phase = .waitingClaim →
        t.channel d = (s.channel d).completed ((s.channel d).step + 1)) ∧ s.KeepsSite t

/-- A STORM grant: crane c holds the zone by its storm record, no co-claim is left, every other crane that occupies the zone
is an evictee with the zone in its evict set, and the entry leaves the list. The pool claims by which another crane held it
lose it, and the channel of a STANDING one is told CLAIM_LOST with cause STORM, in an event whose number is the model's own
counter (log 3). -/
def Parts.StormGrantTakes : Prop :=
  ∀ (c : Slot) (z : ZoneId) (s : State), (s.zone z).holding ≠ .held c (.storm c) →
    (stormGrant c z s).zone z =
      { holding := .held c (.storm c), coClaims := [], evictees := slotSet fun o => o != c && (s.engine o).occupancy.contains z
        reservedFor := none, waiting := (s.zone z).waiting.filter fun x => x != .storm c
        closure := (s.zone z).closure } ∧
    (∀ o, o ≠ c → z ∈ (s.engine o).occupancy → z ∈ ((stormGrant c z s).engine o).evict) ∧
    (s.pendingZones = [] → (∀ k, k ≠ z → (stormGrant c z s).zone k = s.zone k) ∧
      ((∀ d, (s.zone z).holding ≠ .held d (.storm c)) → (∃ cz ∈ (s.storm c).zones, cz.zone = z) →
        ⟨z, .granted, none⟩ ∈ ((stormGrant c z s).storm c).zones) ∧
      (∀ d n, (s.zone z).holding = .held d (.pool n) → (stormGrant c z s).grantedTo (.pool n) z = false) ∧
      ∀ d m n r b, (s.zone z).holding = .held d (.pool m) → n = m ∨ n ∈ (s.zone z).coClaims → s.poolRec? n = some r →
        r.kind = .standing → r.booking = some b → (∀ y ∈ (s.channel r.crane).losses, y.event ≠ s.events) →
        ⟨b, z, .storm, s.events⟩ ∈ ((stormGrant c z s).channel r.crane).losses)

/-- The STORM entry at the head of a zone's list: it takes a FREE zone, and one that another crane whose link is heard holds
by pool claims; a zone that is CLOSED, that an unheard crane holds, or that another STORM claim holds without the mark,
stays. -/
def Parts.StormCandidateIsJudged : Prop :=
  ∀ (c : Slot) (z : ZoneId) (rest : List ClaimRef) (s : State), (s.zone z).waiting = .storm c :: rest →
    (s.link c).state ≠ .stale → (s.zone z).reservedFor = none → s.pendingZones = [] →
    (∀ x ∈ rest, ∃ k p, x = .pool k ∧ s.poolRec? k = some p ∧ p.zones = [⟨z, .waiting, none⟩]) →
    ((s.zone z).holding = .free ∨ (∃ d n, (s.zone z).holding = .held d (.pool n) ∧ d ≠ c ∧ (s.link d).state ≠ .stale ∧
        (s.link d).state ≠ .lost ∧ .pool n ∉ rest ∧ ∀ m ∈ (s.zone z).coClaims, .pool m ∉ rest) →
      (settleZones s [z] s).zone z = (stormGrant c z s).zone z) ∧
    ((s.zone z).holding = .closed ∨ (∃ d ref, (s.zone z).holding = .held d ref ∧
        ((s.link d).state = .stale ∨ (s.link d).state = .lost)) ∨ (∃ d, (s.zone z).holding = .held d (.storm d)) →
      (settleZones s [z] s).zone z = s.zone z)

/-- Co-claims. A STORM request for a zone the crane holds by a STANDING claim makes that claim a co-claim, and one it holds
by a TRANSIT claim keeps the co-claims there are; a STANDING claim stored over a holding of another kind joins them. -/
def Parts.CoClaimsFollow : Prop :=
  ∀ (c : Slot) (n : Nat) (z : ZoneId) (s : State), s.pendingZones = [] →
    ((s.zone z).holding = .held c (.pool n) → s.poolKind? n = some .standing →
      (requestStorm c z s).zone z =
        { s.zone z with
          holding := .held c (.storm c), coClaims := insertSorted n (s.zone z).coClaims
          evictees := slotSet fun o => o != c && (s.engine o).occupancy.contains z
          reservedFor := none, waiting := (s.zone z).waiting.filter fun x => x != .storm c }) ∧
    ((s.zone z).holding = .held c (.pool n) → s.poolKind? n = some .transit →
      (requestStorm c z s).zone z =
        { s.zone z with
          holding := .held c (.storm c), evictees := slotSet fun o => o != c && (s.engine o).occupancy.contains z
          reservedFor := none, waiting := (s.zone z).waiting.filter fun x => x != .storm c }) ∧
    ((s.zone z).holding = .held c (.storm c) →
      (requestStandingZone n c z s).zone z = { s.zone z with coClaims := insertSorted n (s.zone z).coClaims })

/-- The release of a zone held by a pool claim, with no zone kept for a freed record: the lowest co-claim becomes holder
claim; with none, an unoccupied zone of a crane that is heard becomes FREE, and one that is occupied, or of a crane not
heard, passes to a fresh TRANSIT record with dwell 0, stopped, while the pool has one, and otherwise stays with the crane. -/
def Parts.ReleaseRule : Prop :=
  ∀ (c : Slot) (n : Nat) (z : ZoneId) (s : State), s.grantedTo (.pool n) z = true → s.pendingZones = [] →
    (s.zone z).holding = .held c (.pool n) →
    (∀ m rest, (s.zone z).coClaims = m :: rest →
      (releaseZone (.pool n) z s).zone z = { s.zone z with holding := .held c (.pool m), coClaims := rest }) ∧
    ((s.zone z).coClaims = [] →
      (z ∉ (s.engine c).occupancy → (s.link c).state ≠ .stale → (s.link c).state ≠ .lost →
        (releaseZone (.pool n) z s).zone z = { s.zone z with holding := .free }) ∧
      (z ∈ (s.engine c).occupancy ∨ (s.link c).state = .stale ∨ (s.link c).state = .lost →
        (s.arb.pool.length < 96 →
          (releaseZone (.pool n) z s).zone z = { s.zone z with holding := .held c (.pool s.arb.stamp) } ∧
          (releaseZone (.pool n) z s).arb.stamp = s.arb.stamp + 1 ∧
          (s.poolRec? s.arb.stamp = none → ∃ r, (releaseZone (.pool n) z s).poolRec? s.arb.stamp = some r ∧ r.crane = c ∧
            r.kind = .transit ∧ r.booking = none ∧ r.zones = [⟨z, .granted, none⟩] ∧ r.dwell = ⟨0, false⟩)) ∧
        (96 ≤ s.arb.pool.length → (releaseZone (.pool n) z s).zone z = s.zone z)) ∧
      ∀ k, k ≠ z → (releaseZone (.pool n) z s).zone k = s.zone k)

/-- A zone's waiting list has no entry twice, and at most one of each crane. -/
def Parts.OneEntry (s : State) (z : ZoneId) : Prop :=
  (s.zone z).waiting.Nodup ∧ ∀ c, ∀ x ∈ (s.zone z).waiting, ∀ y ∈ (s.zone z).waiting,
    s.claimCrane? x = some c → s.claimCrane? y = some c → x = y

/-- Requests keep a crane to one entry in each list, and answer one that has an entry by it. A TRANSIT request changes nothing
where the crane has an entry or holds the zone; a STORM request leaves a STORM entry and takes the place of a TRANSIT or
STANDING one; and a zone of a STANDING request takes the place of a TRANSIT one. -/
def Parts.RequestsKeepOneEntry : Prop :=
  ∀ (c : Slot) (z : ZoneId) (s : State), (∀ k, Parts.OneEntry s k) → s.pendingZones = [] →
    (∀ n, s.entryOf? c z = some (.pool n) → ∃ cz ∈ s.claimZones (.pool n), cz.zone = z ∧ cz.status = .waiting) →
    ((∃ x, s.entryOf? c z = some x) ∨ s.holds c z = true → requestTransit c z s = s) ∧
    (s.poolRec? s.arb.stamp = none → (∀ k, .pool s.arb.stamp ∉ (s.zone k).waiting) →
      ∀ k, Parts.OneEntry (requestTransit c z s) k) ∧
    (s.holds c z = false →
      (∀ d, s.entryOf? c z = some (.storm d) → requestStorm c z s = s) ∧
      (∀ k, Parts.OneEntry (requestStorm c z s) k) ∧ (requestStorm c z s).entryOf? c z = some (.storm c)) ∧
    (∀ n, s.holds c z = false → .pool n ∉ (s.zone z).waiting → (∃ r, s.poolRec? n = some r ∧ r.crane = c) →
      (∀ x, s.entryOf? c z = some x → ∃ m, x = .pool m ∧ s.poolKind? m = some .transit) →
      (∀ k, Parts.OneEntry (requestStandingZone n c z s) k) ∧
        (requestStandingZone n c z s).entryOf? c z = some (.pool n))

/-- The candidate of a zone is the first entry in list order whose crane's link is not STALE; a closure has no crane. -/
def Parts.CandidateIsFirst : Prop :=
  ∀ (z : ZoneId) (ref : ClaimRef) (s : State), s.candidate? z = some ref ↔
    ∃ passed rest, (s.zone z).waiting = passed ++ ref :: rest ∧
      (∀ x ∈ passed, ∃ c, s.claimCrane? x = some c ∧ (s.link c).state = .stale) ∧
      ∀ c, s.claimCrane? ref = some c → (s.link c).state ≠ .stale

/-- Claim n of crane c passes in zone k: it is the candidate, the zone is FREE and no other crane occupies it. -/
def Parts.PassesIn (s : State) (n : Nat) (c : Slot) (k : ZoneId) : Prop :=
  (s.zone k).holding = .free ∧ (∀ o, o ≠ c → k ∉ (s.engine o).occupancy) ∧ s.candidate? k = some (.pool n)

/-- An entry of zone k's list is a pool claim in use that is WAITING there. -/
def Parts.WaitsIn (s : State) (k : ZoneId) (x : ClaimRef) : Prop :=
  ∃ m p, x = .pool m ∧ s.poolRec? m = some p ∧ ∃ cz ∈ p.zones, cz.zone = k ∧ cz.status = .waiting

/-- A STANDING claim that passes in every zone in which it waits is granted in all of them in the one event: the crane holds
each, with its entry gone and any reservation ended, no other zone changes, and a channel that waits for the claim has its
step completed. -/
def Parts.CompoundIsGranted : Prop :=
  ∀ (n : Nat) (r : PoolRecord) (s t : State), s.poolRec? n = some r → r.kind = .standing → s.waitingZones (.pool n) ≠ [] →
    (∀ k ∈ s.waitingZones (.pool n), Parts.PassesIn s n r.crane k ∧
      ∀ x ∈ (s.zone k).waiting, x ≠ .pool n → Parts.WaitsIn s k x) →
    t = settleZones s (s.waitingZones (.pool n)) s →
    (∀ k ∈ s.waitingZones (.pool n), t.grantedTo (.pool n) k = true ∧ t.zone k =
      { s.zone k with
        holding := .held r.crane (.pool n), reservedFor := none
        waiting := (s.zone k).waiting.filter fun x => x != .pool n }) ∧
    (∀ k, k ∉ s.waitingZones (.pool n) → t.zone k = s.zone k) ∧
    ((s.channel r.crane).claim = some (.placed n) → (s.channel r.crane).phase = .waitingClaim →
      t.channel r.crane = (s.channel r.crane).completed ((s.channel r.crane).step + 1))

/-- Between s and t the tests have changed nothing but the reservation of zone z, which is x now, and have marked ZONE(z)
when it began or ended. -/
def Parts.OnlyReserves (s t : State) (z : ZoneId) (x : Option Nat) : Prop :=
  t.zone z = { s.zone z with reservedFor := x } ∧ (∀ k, k ≠ z → t.zone k = s.zone k) ∧ t.arb.pool = s.arb.pool ∧
    t.arb.storms = s.arb.storms ∧ t.channels = s.channels ∧
    t.port = if x = (s.zone z).reservedFor then s.port else (mark (.zone z) s).port

/-- A zone whose candidate is a STANDING claim that fails in another zone of its set is not granted: it stays FREE and is
reserved for the claim while the claim passes in it, whichever claim it was reserved for before, and no longer when the claim
does not pass there. A zone without a candidate, or held, has no reservation. A closure takes a FREE zone whatever
reservation stands, and so does a join grant. -/
def Parts.ReservationFollows : Prop :=
  (∀ (z : ZoneId) (s t : State), t = settleZones s [z] s →
    (∀ n r, s.candidate? z = some (.pool n) → s.poolRec? n = some r →
      (∃ k ∈ s.waitingZones (.pool n), ¬ Parts.PassesIn s n r.crane k) →
      (Parts.PassesIn s n r.crane z → r.kind = .standing → Parts.OnlyReserves s t z (some n)) ∧
      (¬ Parts.PassesIn s n r.crane z → Parts.OnlyReserves s t z none)) ∧
    (s.candidate? z = none → Parts.OnlyReserves s t z none) ∧
    ((s.zone z).holding ≠ .free → (∀ x ∈ (s.zone z).waiting, x = .closure z ∨ Parts.WaitsIn s z x) →
      Parts.OnlyReserves s t z none) ∧
    (s.candidate? z = some (.closure z) → (s.zone z).holding = .free →
      (∀ x ∈ (s.zone z).waiting, x = .closure z ∨ Parts.WaitsIn s z x) →
      t.zone z =
        { s.zone z with
          holding := .closed, reservedFor := none, waiting := (s.zone z).waiting.filter fun x => x != .closure z } ∧
      ∀ k, k ≠ z → t.zone k = s.zone k)) ∧
  ∀ (c : Slot) (z : ZoneId) (s : State), (s.zone z).holding = .free → (∀ o, o ≠ c → z ∉ (s.engine o).occupancy) →
    s.arb.pool.length < 96 →
    (joinGrant c z s).zone z = { s.zone z with holding := .held c (.pool s.arb.stamp), reservedFor := none }

/-- The link's STALE of a crane whose claim waits alone for a zone ends the zone's reservation for it, and the claim keeps its
place. -/
def Parts.StaleEndsReservation : Prop :=
  ∀ (n : Nat) (z : ZoneId) (r : PoolRecord) (s : State), s.poolRec? n = some r → (s.link r.crane).state = .stale →
    (∀ k, k ≠ z → s.entryOf? r.crane k = none) → (s.zone z).waiting = [.pool n] →
    (∀ k, (arbiterStale r.crane s).zone k = if k = z then { s.zone z with reservedFor := none } else s.zone k)

/-- The hand-over of crane c's occupancy and reach sets, over a LIVE link, with nothing waiting, no join grant to make and no
DEFERRED zone to place again: the sets are stored, and each pool record stays as it is but for the dwell of a held TRANSIT zone
of the crane, which is cleared to 0 and stopped when the zone is engaged, in the one set or the other, and otherwise runs on
from its value. -/
def Parts.HandOverJudgesDwells : Prop :=
  ∀ (c : Slot) (join : Bool) (occupancy reach : List ZoneId) (s t : State), s.NoWaiting → (s.link c).state = .live →
    (join = false ∨ ∀ z ∈ occupancy, (s.zone z).holding ≠ .free) →
    ((s.crane c).state ≠ .inService ∨ ∀ cz ∈ (s.storm c).zones, cz.status ≠ .deferred) →
    t = handOver c join occupancy reach s →
    (t.engine c).occupancy = occupancy ∧ (t.engine c).reach = reach ∧ t.arb.stamp = s.arb.stamp ∧
    (∀ z, (t.zone z).holding = (s.zone z).holding) ∧ t.arb.pool.length = s.arb.pool.length ∧
    ∀ (i : Nat) (r : PoolRecord), s.arb.pool[i]? = some r → ∃ dwell, t.arb.pool[i]? = some { r with dwell := dwell } ∧
      (∀ z mark, r.crane = c → r.kind = .transit → r.zones = [⟨z, .granted, mark⟩] →
        (z ∈ occupancy ∨ z ∈ reach → dwell = ⟨0, false⟩) ∧
        (z ∉ occupancy → z ∉ reach → dwell = ⟨r.dwell.elapsed, true⟩)) ∧
      (r.crane ≠ c ∨ r.kind = .standing ∨ (∀ z mark, r.zones ≠ [⟨z, .granted, mark⟩]) → dwell = r.dwell)

/-- A TRANSIT claim that passes in the one zone it waits for is granted it: its crane holds the zone, with the entry and any
reservation gone, and no other zone changes. Its dwell is 0, stopped while the zone is engaged and running otherwise, for a
crane whose LIVE link has had its hand-over. -/
def Parts.TransitIsGranted : Prop :=
  ∀ (n : Nat) (z : ZoneId) (r : PoolRecord) (s t : State), s.poolRec? n = some r → r.kind = .transit →
    r.zones = [⟨z, .waiting, none⟩] → Parts.PassesIn s n r.crane z →
    (∀ x ∈ (s.zone z).waiting, x ≠ .pool n → Parts.WaitsIn s z x) → (s.link r.crane).state = .live →
    (s.engine r.crane).handOverDue = false → t = settleZones s [z] s →
    t.zone z =
      { s.zone z with
        holding := .held r.crane (.pool n), reservedFor := none
        waiting := (s.zone z).waiting.filter fun x => x != .pool n } ∧
    (∀ k, k ≠ z → t.zone k = s.zone k) ∧
    ∃ running, t.poolRec? n = some { r with zones := [⟨z, .granted, none⟩], dwell := ⟨0, running⟩ } ∧
      (running = true ↔ z ∉ (s.engine r.crane).occupancy ∧ z ∉ (s.engine r.crane).reach)

/-- Stage 8 hands over a transit request set. It replaces the set before it. The waiting TRANSIT entry of a zone no longer asked
for is withdrawn with its record. A zone still asked for keeps its entry, and the arbiter is as it was where each zone asked
for has an entry of the crane, is held by it or meets an empty pool. Otherwise a zone asked for takes a record with a new
stamp: one that another crane holds waits at the tail of the list, and one that is FREE, unoccupied and asked for by nobody
is held at once, with its dwell as at a grant. -/
def Parts.TransitRequestsFollow : Prop :=
  ∀ (c : Slot) (zones : List ZoneId) (s t : State), t = transitHandOver c zones s →
    (t.engine c).transit = zones ∧
    (∀ z n r, z ∈ (s.engine c).transit → z ∉ zones → s.pendingZones = [] → (∀ q ∈ s.arb.pool, q.stamp < s.arb.stamp) →
      s.entryOf? c z = some (.pool n) → s.poolRec? n = some r → r.kind = .transit → r.zones = [⟨z, .waiting, none⟩] →
      t.poolRec? n = none ∧ .pool n ∉ (t.zone z).waiting) ∧
    ((∀ z ∈ (s.engine c).transit, z ∈ zones ∨ s.entryOf? c z = none) →
      ((∀ z ∈ zones, s.entryOf? c z ≠ none ∨ s.holds c z = true ∨ 96 ≤ s.arb.pool.length) →
        t = s.putEngine c { s.engine c with transit := zones }) ∧
      (∀ z, zones = [z] → s.entryOf? c z = none → s.arb.pool.length < 96 → s.poolRec? s.arb.stamp = none →
        (s.zone z).reservedFor = none →
        (∀ d ref, (s.zone z).holding = .held d ref → d ≠ c →
          (∀ x ∈ (s.zone z).waiting, ∃ k r, x = .pool k ∧ k < s.arb.stamp ∧ s.poolRec? k = some r ∧
            r.zones = [⟨z, .waiting, none⟩]) →
          t.zone z = { s.zone z with waiting := (s.zone z).waiting ++ [.pool s.arb.stamp] } ∧
          (∀ k, k ≠ z → t.zone k = s.zone k) ∧ t.arb.stamp = s.arb.stamp + 1 ∧
          ∃ r, t.poolRec? s.arb.stamp = some r ∧ r.crane = c ∧ r.kind = .transit ∧ r.booking = none ∧
            r.zones = [⟨z, .waiting, none⟩]) ∧
        ((s.zone z).holding = .free → (s.zone z).waiting = [] → (∀ o, o ≠ c → z ∉ (s.engine o).occupancy) →
          (s.link c).state = .live → (s.engine c).handOverDue = false →
          t.zone z = { s.zone z with holding := .held c (.pool s.arb.stamp) } ∧
          (∀ k, k ≠ z → t.zone k = s.zone k) ∧ t.arb.stamp = s.arb.stamp + 1 ∧
          ∃ r, t.poolRec? s.arb.stamp = some r ∧ r.crane = c ∧ r.kind = .transit ∧ r.booking = none ∧
            r.zones = [⟨z, .granted, none⟩] ∧ r.dwell.elapsed = 0 ∧
            (r.dwell.running = true ↔ z ∉ (s.engine c).occupancy ∧ z ∉ (s.engine c).reach))))

/-- The release rule, the order of the waiting lists with one entry for each crane, what becomes of a zone that is freed, the
all-or-nothing grant and the reservations of STANDING claims, STORM grants and co-claims, and what the engine's hand-overs do:
the dwells of TRANSIT holdings and the TRANSIT requests. The event number that a told loss carries is the model's own (log
3). -/
def Obligations.ReleaseFollowsRule : Prop :=
  Parts.ReleaseRule ∧ Parts.ListsKeepKeyOrder ∧ Parts.RequestsKeepOneEntry ∧ Parts.FreedZoneIsGranted ∧ Parts.CandidateIsFirst ∧
    Parts.CompoundIsGranted ∧ Parts.ReservationFollows ∧ Parts.StaleEndsReservation ∧ Parts.StormGrantTakes ∧
    Parts.StormCandidateIsJudged ∧ Parts.CoClaimsFollow ∧ Parts.HandOverJudgesDwells ∧ Parts.TransitIsGranted ∧
    Parts.TransitRequestsFollow

/-- The zone requests are refused: WRONG_MODE in SURVEY, BAD_VALUE for a zone out of range, and each by its own rule. -/
def Parts.ZoneRequestsRefused : Prop :=
  ∀ (tag : Byte) (s : State), s.Ready →
    (s.geo.mode = .survey → ∀ n, RefusedWith (.closeZone tag n) s tag 18 .wrongMode ∧
      RefusedWith (.openZone tag n) s tag 19 .wrongMode ∧ RefusedWith (.forceRelease tag n) s tag 20 .wrongMode) ∧
    (s.geo.mode = .operate →
      (∀ n, 48 ≤ n → RefusedWith (.closeZone tag n) s tag 18 .badValue ∧
        RefusedWith (.openZone tag n) s tag 19 .badValue ∧ RefusedWith (.forceRelease tag n) s tag 20 .badValue) ∧
      (∀ z : ZoneId,
        ((s.entry z).kind = .unused → RefusedWith (.closeZone tag z.val) s tag 18 .notFound) ∧
        ((s.entry z).kind = .structural → RefusedWith (.closeZone tag z.val) s tag 18 .structuralZone) ∧
        ((s.entry z).kind = .hook → (s.zone z).holding = .closed ∨ .closure z ∈ (s.zone z).waiting →
          RefusedWith (.closeZone tag z.val) s tag 18 .badState) ∧
        ((s.zone z).holding ≠ .closed → .closure z ∉ (s.zone z).waiting →
          RefusedWith (.openZone tag z.val) s tag 19 .badState) ∧
        ((s.zone z).holding = .free ∨ (s.zone z).holding = .closed →
          RefusedWith (.forceRelease tag z.val) s tag 20 .badState) ∧
        (∀ h c, (s.zone z).holding = .held h (.storm c) → (s.engine c).latch = true →
          RefusedWith (.forceRelease tag z.val) s tag 20 .badState)))

/-- CLOSE_ZONE and OPEN_ZONE in OPERATE with no other claim waiting: a free HOOK zone is CLOSED at once and a held one has
the closure wait behind its holder; opening frees a closed zone and withdraws a waiting closure. -/
def Parts.ZoneIsClosedAndOpened : Prop :=
  ∀ (tag : Byte) (z : ZoneId) (s : State), s.Ready → s.geo.mode = .operate → (∀ k, (s.zone k).reservedFor = none) →
    (∀ k, k ≠ z → (s.zone k).waiting = []) →
    ((s.zone z).waiting = [] → (s.entry z).kind = .hook →
      ((s.zone z).holding = .free → Answered (.closeZone tag z.val) s tag 18 .ok (.closure none)
        { s with arb := { s.arb with
            zones := putAt s.arb.zones z { s.zone z with holding := .closed, closure := some s.arb.stamp }
            stamp := s.arb.stamp + 1 } }) ∧
      (∀ d ref, (s.zone z).holding = .held d ref → Answered (.closeZone tag z.val) s tag 18 .ok (.closure (some d))
        { s with arb := { s.arb with
            zones := putAt s.arb.zones z { s.zone z with closure := some s.arb.stamp, waiting := [.closure z] }
            stamp := s.arb.stamp + 1 } })) ∧
    ((s.zone z).waiting = [] → (s.zone z).holding = .closed →
      Answered (.openZone tag z.val) s tag 19 .ok .empty
        (s.putZone z { s.zone z with holding := .free, closure := none })) ∧
    ((s.zone z).waiting = [.closure z] → (s.zone z).holding ≠ .closed →
      Answered (.openZone tag z.val) s tag 19 .ok .empty (s.putZone z { s.zone z with closure := none, waiting := [] }))

/-- CLOSE_ZONE and OPEN_ZONE, and what refuses the three zone requests. -/
def Obligations.ZoneRequestsAct : Prop := Parts.ZoneRequestsRefused ∧ Parts.ZoneIsClosedAndOpened

/-- FORCE_RELEASE, in OPERATE with nothing waiting, of a zone that is the only zone of the pool claim holding it: the zone
is FREE and the record is freed, and the channel of a STANDING claim is told CLAIM_LOST with cause FORCED. The number of the
event that the loss carries is the model's own counter (log 3). -/
def Parts.ZoneIsForced : Prop :=
  ∀ (tag : Byte) (z : ZoneId) (c : Slot) (n : Nat) (r : PoolRecord) (s : State), s.Ready → s.geo.mode = .operate →
    s.NoWaiting → s.pendingZones = [] → (s.zone z).holding = .held c (.pool n) → (s.zone z).coClaims = [] →
    s.poolRec? n = some r → r.zones = [⟨z, .granted, none⟩] →
    ∃ t, exec (.forceRelease tag z.val) s = .next t ∧ Carries s t ⟨tag, 20, .ok, .empty⟩ ∧ t.arb = Parts.freed s n z ∧
      s.KeepsSite t ∧ t.bookings = s.bookings ∧ t.links = s.links ∧ t.engines = s.engines ∧
      (∀ d, t.channel d =
        { s.channel d with retryDue := (t.channel d).retryDue, losses := (t.channel d).losses }) ∧
      (∀ b, r.kind = .standing → r.booking = some b → (∀ y ∈ (s.channel r.crane).losses, y.event ≤ s.events) →
        ⟨b, z, .forced, s.events + 2⟩ ∈ (t.channel r.crane).losses) ∧
      (r.kind = .transit → ∀ d, (t.channel d).losses = (s.channel d).losses)

/-- FORCE_RELEASE of a zone that a storm record holds, in OPERATE with nothing waiting and its latch clear: the co-claims lose
it, and the STORM claim waits again. With its crane's link not STALE it is granted the zone at once, every other occupant
an evictee; with the link STALE the zone stays FREE with the entry in its list. -/
def Parts.StormZoneIsForced : Prop :=
  ∀ (tag : Byte) (z : ZoneId) (c : Slot) (s : State), s.Ready → s.geo.mode = .operate → s.NoWaiting →
    s.pendingZones = [] → (s.zone z).holding = .held c (.storm c) → (s.engine c).latch = false →
    (∃ cz ∈ (s.storm c).zones, cz.zone = z) →
    ∃ t, exec (.forceRelease tag z.val) s = .next t ∧ Carries s t ⟨tag, 20, .ok, .empty⟩ ∧ s.KeepsSite t ∧
      ((s.link c).state ≠ .stale → t.zone z =
        { s.zone z with
          coClaims := [], evictees := slotSet fun o => o != c && (s.engine o).occupancy.contains z }) ∧
      ((s.link c).state = .stale → t.zone z =
        { s.zone z with holding := .free, coClaims := [], evictees := [], waiting := [.storm c] }) ∧
      ∀ m ∈ (s.zone z).coClaims, t.grantedTo (.pool m) z = false

/-- DWELL_EXPIRY of a TRANSIT claim whose running dwell has reached 3,000 ms, its zone neither occupied nor its crane
unheard, with nothing waiting: the claim is released and the zone is FREE. A dwell that has not reached it, or is
stopped, expires nothing: a command that is not due (the model's choice, log 14). -/
def Parts.DwellExpires : Prop :=
  ∀ (z : ZoneId) (s : State), s.power.on = true → s.NoTake →
    ((∀ c n r, (s.zone z).holding = .held c (.pool n) → s.poolRec? n = some r →
      r.kind = .standing ∨ r.dwell.running = false ∨ r.dwell.elapsed < 3000) → Leaves (.dwellExpiry z) s s) ∧
    (∀ c n r, s.NoWaiting → s.pendingZones = [] → (s.zone z).holding = .held c (.pool n) → (s.zone z).coClaims = [] →
      s.poolRec? n = some r → r.zones = [⟨z, .granted, none⟩] → r.kind = .transit → r.dwell.running = true →
      3000 ≤ r.dwell.elapsed → z ∉ (s.engine c).occupancy → (s.link c).state ≠ .stale → (s.link c).state ≠ .lost →
      ∃ t, exec (.dwellExpiry z) s = .next t ∧ t.arb = Parts.freed s n z ∧ s.KeepsSite t ∧ t.links = s.links ∧
        t.engines = s.engines ∧ ∀ d, t.channel d = { s.channel d with retryDue := (t.channel d).retryDue })

/-- What the link's STALE does to the arbiter with nothing waiting: every running dwell of the crane stops, one that has
reached 3,000 ms short of it, and no zone changes; the dwells of the others go on. That such a dwell stops at 2,999 ms is the
model's choice (log 77). -/
def Parts.StaleStopsDwells : Prop :=
  ∀ (c : Slot) (s : State), s.NoWaiting →
    (∀ z, (arbiterStale c s).zone z = s.zone z) ∧
    (arbiterStale c s).arb.pool = s.arb.pool.map fun r =>
      if r.crane = c ∧ r.dwell.running = true then { r with dwell := ⟨min 2999 r.dwell.elapsed, false⟩ } else r

/-- FORCE_RELEASE and DWELL_EXPIRY free a held zone, and a link's STALE keeps a dwell from expiring. The event number of a loss
is the model's own (log 3), and where a dwell stops that STALE overtakes is its choice (log 77). -/
def Obligations.HeldZoneIsFreed : Prop :=
  Parts.ZoneIsForced ∧ Parts.StormZoneIsForced ∧ Parts.DwellExpires ∧ Parts.StaleStopsDwells

/-! ## Wind Monitor -/

/-- DECLARE_WIND: a level out of range is BAD_VALUE, the present one changes nothing, and another becomes the declaration,
with every crane's effective wind state the higher of its own state and the new declaration. That this holds of unconfigured
slots too is the model's choice (log 43). -/
def Parts.DeclarationFollows : Prop :=
  ∀ (tag : Byte) (s : State), s.Ready →
    (∀ n, 4 ≤ n → RefusedWith (.declareWind tag n) s tag 21 .badValue) ∧
    (∀ (n : Nat) (l : WindLevel), (n, l) ∈ [(0, WindLevel.calm), (1, .watch), (2, .hold), (3, .storm)] →
      (s.wind.declaration = l → Answered (.declareWind tag n) s tag 21 .ok .empty s) ∧
      (s.wind.declaration ≠ l → ∃ t, exec (.declareWind tag n) s = .next t ∧ Carries s t ⟨tag, 21, .ok, .empty⟩ ∧
        t.wind.declaration = l ∧ (∀ c, t.effective c = (s.windOf c).own.higher l ∧ (t.windOf c).own = (s.windOf c).own) ∧
        t.wind.bucketPhase = s.wind.bucketPhase ∧ s.KeepsSite t))

/-- A zone that a crane's storm record requests: STRUCTURAL in the directory, and named by a SHARED cell of the crane's jib
grid or tail row. -/
def Parts.InStorm (s : State) (c : Slot) (z : ZoneId) : Prop :=
  (s.entry z).kind = .structural ∧
    ((∃ sec row b, (s.slotOf c).jib.get sec = some row ∧ row.get b = .shared z) ∨
      ∃ sec, (s.slotOf c).tail.get sec = some (.shared z))

/-- The build of a storm record, with no zone kept from before: exactly the zones named join it, ascending, and it takes a
stamp when there is one. They are DEFERRED, with nothing else of the arbiter changed, for a crane not IN_SERVICE or with a
link neither LIVE nor STALE. For one IN_SERVICE with a LIVE link all that are FREE are granted at once, the other cranes
that occupy them being evictees; with a STALE link they wait. An exit still pending is cancelled, with the record kept. That
an empty record has a stamp at all, and keeps it when no zone joins, is the model's choice (log 6). -/
def Parts.StormRecordIsBuilt : Prop :=
  ∀ (c : Slot) (s : State),
    (∀ z, z ∈ stormZones s c ↔ Parts.InStorm s c z) ∧ (stormZones s c).Pairwise (· < ·) ∧
    ((s.windOf c).exitPending = true → (enterStorm c s).arb = s.arb ∧ ((enterStorm c s).windOf c).exitPending = false) ∧
    ((s.windOf c).exitPending = false → (s.storm c).zones = [] → ∀ t, t = enterStorm c s →
      (t.storm c).stamp = (if stormZones s c = [] then (s.storm c).stamp else s.arb.stamp) ∧
      ((s.crane c).state ≠ .inService ∨ ((s.link c).state ≠ .live ∧ (s.link c).state ≠ .stale) ∨ s.pendingZones = [] →
        t.arb.stamp = if stormZones s c = [] then s.arb.stamp else s.arb.stamp + 1) ∧
      ((s.crane c).state ≠ .inService ∨ ((s.link c).state ≠ .live ∧ (s.link c).state ≠ .stale) →
        (t.storm c).zones = (stormZones s c).map (⟨·, .deferred, none⟩) ∧ t.arb.pool = s.arb.pool ∧
          ∀ z, t.zone z = s.zone z) ∧
      ((s.crane c).state = .inService → s.NoWaiting → s.pendingZones = [] →
        (∀ z ∈ stormZones s c, (s.zone z).holding = .free) →
        ((s.link c).state = .live →
          (t.storm c).zones = (stormZones s c).map (⟨·, .granted, none⟩) ∧ t.arb.pool = s.arb.pool ∧
          (∀ z ∈ stormZones s c, t.zone z =
            { s.zone z with
              holding := .held c (.storm c), coClaims := []
              evictees := slotSet fun o => o != c && (s.engine o).occupancy.contains z }) ∧
          (∀ z, z ∉ stormZones s c → t.zone z = s.zone z) ∧
          ∀ o, o ≠ c → ∀ z ∈ stormZones s c, z ∈ (s.engine o).occupancy → z ∈ (t.engine o).evict) ∧
        ((s.link c).state = .stale →
          (t.storm c).zones = (stormZones s c).map (⟨·, .waiting, none⟩) ∧
          (∀ z ∈ stormZones s c, t.zone z = { s.zone z with waiting := [.storm c] }) ∧
          ∀ z, z ∉ stormZones s c → t.zone z = s.zone z)))

/-- DECLARE_WIND of STORM in OPERATE, on a site whose one supervised crane is IN_SERVICE with a LIVE link, below STORM and
without a booking: its storm record is built, and the zones it names, all FREE, are held by it, and no others change. -/
def Parts.DeclaredStormIsBuilt : Prop :=
  ∀ (tag : Byte) (c : Slot) (s : State), s.Ready → s.geo.mode = .operate → s.WindWellKept →
    (∀ d, s.supervised d = true ↔ d = c) → (s.crane c).state = .inService → (s.link c).state = .live →
    s.effective c ≠ .storm → (s.windOf c).exitPending = false → (s.channel c).booking = none → s.NoneReady c →
    s.NoWaiting → s.pendingZones = [] → (s.storm c).zones = [] → (∀ z, Parts.InStorm s c z → (s.zone z).holding = .free) →
    ∃ t, exec (.declareWind tag 3) s = .next t ∧ Carries s t ⟨tag, 21, .ok, .empty⟩ ∧ t.effective c = .storm ∧
      ∀ z, (Parts.InStorm s c z → (t.zone z).holding = .held c (.storm c)) ∧
        (¬ Parts.InStorm s c z → t.zone z = s.zone z)

/-- The storm exit. With the release latch set, or the last pose reporting the slew brake released, it waits and the record
is kept whole; it completes at the first pose that reports it not released, and otherwise at once. As it completes, with
nothing waiting and no co-claims, every granted zone is released: one that the crane occupies, or any of a crane not
heard, passes to a TRANSIT record, and the others are FREE. Evictions end, and the record is empty. -/
def Parts.StormExits : Prop :=
  ∀ (c : Slot) (s : State),
    ((s.engine c).latch = true ∨ (∃ p, (s.link c).lastPose = some p ∧ p.brakeReleased = true) →
      (beginExit c s).arb = s.arb ∧ ((beginExit c s).windOf c).exitPending = true) ∧
    ((s.engine c).latch = false → (∀ p, (s.link c).lastPose = some p → p.brakeReleased = false) →
      beginExit c s = completeExit c s) ∧
    (∀ p : Pose, ((s.windOf c).exitPending = true → p.brakeReleased = false → examineBrake c p s = completeExit c s) ∧
      ((s.windOf c).exitPending = false ∨ p.brakeReleased = true → examineBrake c p s = s)) ∧
    (s.NoWaiting → s.pendingZones = [] → s.arb.pool.length ≤ 48 → (∀ r ∈ s.arb.pool, r.stamp < s.arb.stamp) →
      (∀ z, s.grantedTo (.storm c) z = true → (s.zone z).holding = .held c (.storm c) ∧ (s.zone z).coClaims = []) →
      ∀ t, t = completeExit c s →
        (t.windOf c).exitPending = false ∧ (t.storm c).zones = [] ∧
        (∀ z, s.grantedTo (.storm c) z = false → t.zone z = s.zone z) ∧
        ∀ z, s.grantedTo (.storm c) z = true →
          (z ∉ (s.engine c).occupancy → (s.link c).state ≠ .stale → (s.link c).state ≠ .lost →
            t.zone z = { s.zone z with holding := .free, evictees := [] }) ∧
          (z ∈ (s.engine c).occupancy ∨ (s.link c).state = .stale ∨ (s.link c).state = .lost →
            ∃ n r, t.zone z = { s.zone z with holding := .held c (.pool n), evictees := [] } ∧
              t.poolRec? n = some r ∧ r.crane = c ∧ r.kind = .transit ∧ r.zones = [⟨z, .granted, none⟩]) ∧
          ∀ o ∈ (s.zone z).evictees, z ∉ (t.engine o).evict)

/-- DECLARE_WIND, and what a crane's entering and leaving STORM does to its storm record (the stamp of an empty record is the
model's own, log 6; unconfigured slots follow the declaration by log 43). -/
def Obligations.DeclarationIsSet : Prop :=
  Parts.DeclarationFollows ∧ Parts.StormRecordIsBuilt ∧ Parts.DeclaredStormIsBuilt ∧ Parts.StormExits

/-- CALM_DOWN_EXPIRY and STORM_AFTER_HOLD_EXPIRY: the own state falls by one level with the timer started afresh for it, or
becomes STORM; the effective state follows, and a fall it does not show changes nothing else. A stopped or a running timer
does not expire: a command that is not due (the model's choice, log 14). -/
def Parts.OwnStateTimersExpire : Prop :=
  ∀ (c : Slot) (s : State), s.power.on = true → s.NoTake →
    ((s.windOf c).calmDown = none → Leaves (.calmDownExpiry c) s s) ∧
    (∀ l t0 m, (s.windOf c).calmDown = some (l, t0) →
      (l, m) ∈ [(WindLevel.calm, 0), (.watch, s.profile.watchResume), (.hold, s.profile.holdResume),
        (.storm, s.profile.stormResume)] →
      (s.now < t0 + m * 60000 → Leaves (.calmDownExpiry c) s s) ∧
      (t0 + m * 60000 ≤ s.now →
        (∃ t, exec (.calmDownExpiry c) s = .next t ∧ (t.windOf c).own = (s.windOf c).own.below ∧
          (t.windOf c).calmDown =
            (if (s.windOf c).own.below = .calm then none else some ((s.windOf c).own.below, s.now)) ∧
          t.effective c = (s.windOf c).own.below.higher s.wind.declaration ∧ s.KeepsSite t) ∧
        ((s.windOf c).own = .watch → s.effective c = WindLevel.calm.higher s.wind.declaration →
          Leaves (.calmDownExpiry c) s
            (s.putWind c { s.windOf c with own := .calm, calmDown := none, stormAfterHold := none })))) ∧
    ((s.windOf c).stormAfterHold = none → Leaves (.stormAfterHoldExpiry c) s s) ∧
    (∀ t0, (s.windOf c).stormAfterHold = some t0 →
      (s.now < t0 + s.profile.stormAfterHold * 60000 → Leaves (.stormAfterHoldExpiry c) s s) ∧
      (t0 + s.profile.stormAfterHold * 60000 ≤ s.now →
        ∃ t, exec (.stormAfterHoldExpiry c) s = .next t ∧ (t.windOf c).own = .storm ∧ (t.windOf c).calmDown = none ∧
          (t.windOf c).stormAfterHold = none ∧ t.effective c = .storm ∧ s.KeepsSite t))

/-- CALM_TIMER_EXPIRY after the watch resume time: WIND leaves the suspension set of the channel and the timer is stopped,
and nothing else changes for a channel that stays still or waits. Before that time, and with the timer stopped, it does
nothing: a command that is not due (the model's choice, log 14). -/
def Parts.CalmTimerExpires : Prop :=
  ∀ (c : Slot) (s : State), s.power.on = true → s.NoTake →
    ((s.channel c).calmFrom = none → Leaves (.calmTimerExpiry c) s s) ∧
    (∀ t0, (s.channel c).calmFrom = some t0 →
      (s.now < t0 + s.profile.watchResume * 60000 → Leaves (.calmTimerExpiry c) s s) ∧
      (t0 + s.profile.watchResume * 60000 ≤ s.now →
        (s.channel c).booking = none ∨ (s.channel c).paused = true ∨ (s.channel c).reasons.fault = true ∨
          (s.channel c).reasons.operator = true ∨ (s.channel c).phase = .waitingPose ∨
          (s.channel c).phase = .waitingAck ∨ (s.channel c).phase = .holding →
        Leaves (.calmTimerExpiry c) s
          (s.putChannel c
            { s.channel c with calmFrom := none, reasons := { (s.channel c).reasons with wind := false } })))

/-- BUCKET_CLOSE after 60,000 ms: the phase moves forward by exactly 60,000 ms, and the ten buckets of each configured crane
shift by one with an empty bucket in front. Samples, sensor states and the declaration are as they were. Before the 60,000
ms have passed it does nothing: a command that is not due (the model's choice, log 14). -/
def Parts.BucketsClose : Prop :=
  ∀ s : State, s.power.on = true → s.NoTake →
    (s.now < s.wind.bucketPhase + 60000 → Leaves .bucketClose s s) ∧
    (s.wind.bucketPhase + 60000 ≤ s.now → ∃ t, exec .bucketClose s = .next t ∧
      t.wind.bucketPhase = s.wind.bucketPhase + 60000 ∧ t.wind.declaration = s.wind.declaration ∧
      (∀ c, (t.windOf c).buckets =
        if s.configured c = true then ⟨0, 0⟩ :: (s.windOf c).buckets.take 9 else (s.windOf c).buckets) ∧
      (∀ c, (t.windOf c).ring = (s.windOf c).ring ∧ (t.windOf c).sensor = (s.windOf c).sensor) ∧ s.KeepsSite t)

/-- The pose goes on to the validity test: the link is WAITING or LOST, or it is LIVE or STALE with a pose whose sequence
lies 1..127 before this one. -/
def Parts.Fresh (l : Link) (f : PoseFrame) : Prop :=
  l.state = .waiting ∨ l.state = .lost ∨
    ((l.state = .live ∨ l.state = .stale) ∧ ∃ p, l.lastPose = some p ∧ p.sequence < 256 ∧
      1 ≤ (f.sequence - BitVec.ofNat 8 p.sequence).toNat ∧ (f.sequence - BitVec.ofNat 8 p.sequence).toNat ≤ 127)

/-- The target level of an effective gust and mean: STORM from the storm gust; HOLD for an unknown gust, from the hold gust or
from the hold mean; WATCH from the watch gust; CALM otherwise. The thresholds are compared as they stand. -/
def Parts.Target (p : SiteProfile) (gust mean : Option Nat) : WindLevel → Prop
  | .storm => ∃ g, gust = some g ∧ p.stormGust ≤ g
  | .hold => (∀ g, gust = some g → g < p.stormGust) ∧
      (gust = none ∨ (∃ g, gust = some g ∧ p.holdGust ≤ g) ∨ ∃ m, mean = some m ∧ p.holdMean ≤ m)
  | .watch => (∃ g, gust = some g ∧ g < p.stormGust ∧ g < p.holdGust ∧ p.watchGust ≤ g) ∧
      ∀ m, mean = some m → m < p.holdMean
  | .calm => (∃ g, gust = some g ∧ g < p.stormGust ∧ g < p.holdGust ∧ g < p.watchGust) ∧
      ∀ m, mean = some m → m < p.holdMean

/-- The own level of a wind record above CALM is released as far as gust and mean go: the gust is known and below the
level's entry gust less the hysteresis, and for HOLD the mean is unknown or below the hold mean less the hysteresis. -/
def Parts.Releases (p : SiteProfile) (w : Wind) : Prop :=
  ∃ g, w.gust = some g ∧
    ((w.own = .watch ∧ g + p.hysteresis < p.watchGust) ∨ (w.own = .storm ∧ g + p.hysteresis < p.stormGust) ∨
      (w.own = .hold ∧ g + p.hysteresis < p.holdGust ∧ ∀ m, w.mean = some m → m + p.hysteresis < p.holdMean))

/-- An accepted pose evaluates its crane. With the sensor OK and samples in the ring, gust and mean are the crane's own: the
means of ring and buckets, rounded half up. The own state rises to a target above it, which stops the calm-down timer and on
a rise to HOLD starts the storm-after-hold timer; a target not above it leaves both. The calm-down timer then runs, from now
unless it ran, exactly while the level is released. The effective state follows. -/
def Parts.OwnStateRises : Prop :=
  ∀ (c : Slot) (f : PoseFrame) (r : CraneRecord) (p : Pose) (s : State), s.power.on = true → s.NoTake →
    (s.slotOf c).excluded = false → s.record? c = some r → Parts.Fresh (s.link c) f → judgePose r s.now f = .valid p →
    ∃ t, exec (.poseReport c f) s = .next t ∧
      ((t.windOf c).sensor = .ok → (t.windOf c).ring ≠ [] → (t.windOf c).source = .own ∧
        (t.windOf c).gust = some ((2 * (t.windOf c).ring.sum + (t.windOf c).ring.length) / (2 * (t.windOf c).ring.length)) ∧
        ∀ n, n = ((t.windOf c).buckets.map (·.count)).sum →
          (t.windOf c).mean = if n = 0 then none else some ((2 * ((t.windOf c).buckets.map (·.sum)).sum + n) / (2 * n))) ∧
      (∀ l, Parts.Target s.profile (t.windOf c).gust (t.windOf c).mean l →
        ((s.windOf c).own.rank < l.rank → (t.windOf c).own = l ∧
          (t.windOf c).stormAfterHold = if l = .hold ∧ s.profile.stormAfterHold ≠ 0 then some s.now else none) ∧
        (l.rank ≤ (s.windOf c).own.rank → (t.windOf c).own = (s.windOf c).own ∧
          (t.windOf c).stormAfterHold = (s.windOf c).stormAfterHold)) ∧
      (Parts.Releases s.profile (t.windOf c) → (t.windOf c).calmDown =
        some ((if (t.windOf c).own = (s.windOf c).own then (s.windOf c).calmDown else none).getD
          ((t.windOf c).own, s.now))) ∧
      (¬ Parts.Releases s.profile (t.windOf c) → (t.windOf c).calmDown = none) ∧
      t.effective c = (t.windOf c).own.higher s.wind.declaration

/-- Crane o is a lender: configured and not excluded, its link LIVE, its sensor OK, and its own gust known. -/
def Parts.Lends (s : State) (o : Slot) : Prop :=
  s.configured o = true ∧ (s.slotOf o).excluded = false ∧ (s.link o).state = .live ∧ (s.windOf o).sensor = .ok ∧
    (s.windOf o).ring ≠ []

/-- The effective values of R109: a crane's own while its sensor is OK and its own gust known; else, with a lender among the
other cranes, the greatest own gust among them, the lowest that has it being named, and the greatest own mean known among
them; and else unknown. -/
def Parts.ValuesAreEffective : Prop :=
  ∀ (c : Slot) (s : State),
    ((s.windOf c).sensor = .ok → (s.windOf c).ring ≠ [] →
      s.effectiveValues c = ((s.windOf c).ownGust, (s.windOf c).ownMean, .own)) ∧
    ((s.windOf c).sensor = .failed ∨ (s.windOf c).ring = [] →
      ((∀ o, o ≠ c → ¬ Parts.Lends s o) → s.effectiveValues c = (none, none, .unknown)) ∧
      ((∃ o, o ≠ c ∧ Parts.Lends s o) → ∃ g m b, s.effectiveValues c = (some g, m, .borrowed b) ∧
        b ≠ c ∧ Parts.Lends s b ∧ (s.windOf b).ownGust = some g ∧
        (∀ o x, o ≠ c → Parts.Lends s o → (s.windOf o).ownGust = some x → x ≤ g ∧ (x = g → b ≤ o)) ∧
        (∀ o x, o ≠ c → Parts.Lends s o → (s.windOf o).ownMean = some x → ∃ v, m = some v ∧ x ≤ v) ∧
        ∀ v, m = some v → ∃ o, o ≠ c ∧ Parts.Lends s o ∧ (s.windOf o).ownMean = some v))

/-- After an accepted pose of crane c its effective values, and those of every other supervised crane that borrowed or now
borrows, are those of R109. -/
def Parts.PoseMovesBorrowers : Prop :=
  ∀ (c : Slot) (f : PoseFrame) (r : CraneRecord) (p : Pose) (s : State), s.power.on = true → s.NoTake →
    (s.slotOf c).excluded = false → s.record? c = some r → Parts.Fresh (s.link c) f → judgePose r s.now f = .valid p →
    ∃ t, exec (.poseReport c f) s = .next t ∧ ∀ d, d = c ∨ (s.supervised d = true ∧
        ((∃ b, (s.windOf d).source = .borrowed b) ∨ ∃ b, (t.effectiveValues d).2.2 = .borrowed b)) →
      ((t.windOf d).gust, (t.windOf d).mean, (t.windOf d).source) = t.effectiveValues d

/-- The wind calls for suspending crane c's channel against a wind limit: the effective state is HOLD or STORM, or the effective
gust is known and at or above the limit. -/
def Parts.CallsForWind (s : State) (c : Slot) (limit : Nat) : Prop :=
  s.effective c = .hold ∨ s.effective c = .storm ∨ ∃ g, (s.windOf c).gust = some g ∧ limit ≤ g

/-- The calm condition of crane c's channel against a wind limit, its signed difference written as a sum. -/
def Parts.IsCalm (s : State) (c : Slot) (limit : Nat) : Prop :=
  (s.effective c = .calm ∨ s.effective c = .watch) ∧ (s.link c).state = .live ∧
    ∃ g, (s.windOf c).gust = some g ∧ g + s.profile.hysteresis < limit

/-- The judgement of a channel against the wind limit of its booking, which is the profile's hold gust for a booking without
one. Without WIND it gains WIND, with its calm timer cleared, when the wind calls for it, and is otherwise as it was. With WIND
its calm timer starts from now, or goes on, while the calm condition holds, and is cleared otherwise. -/
def Parts.ChannelIsJudged : Prop :=
  ∀ (c : Slot) (s t : State), t = judgeChannelWind c s →
    (s.current? c = none → t = s) ∧ (∀ d, d ≠ c → (t.channel d).reasons = (s.channel d).reasons) ∧
    ∀ b limit, s.current? c = some b → limit = b.windLimit.getD s.profile.holdGust →
      ((s.channel c).reasons.wind = false →
        (Parts.CallsForWind s c limit →
          (t.channel c).reasons = { (s.channel c).reasons with wind := true } ∧ (t.channel c).calmFrom = none ∧
          ((s.channel c).phase ≠ .waitingClaim → t.arb = s.arb ∧ t.channel c =
            { s.channel c with reasons := { (s.channel c).reasons with wind := true }, calmFrom := none })) ∧
        (¬ Parts.CallsForWind s c limit → t = s)) ∧
      ((s.channel c).reasons.wind = true → t.arb = s.arb ∧
        (Parts.IsCalm s c limit →
          t.channel c = { s.channel c with calmFrom := some ((s.channel c).calmFrom.getD s.now) }) ∧
        (¬ Parts.IsCalm s c limit → t.channel c = { s.channel c with calmFrom := none }))

/-- A booking that comes on a channel, by a start on an idle channel, by one over another booking, or by resumption without a
recorded loss, is judged against its own limit at once: the channel then holds WIND if it held it before or the wind calls for
it, and its calm timer runs, from now, just when it held WIND before and the calm condition holds. -/
def Parts.NewBookingIsJudged : Prop :=
  ∀ (c : Slot) (b : Booking) (limit : Nat) (s t : State), s.booking? b.number = some b →
    limit = b.windLimit.getD s.profile.holdGust →
    (t = startIdle c b s ∨ (∃ r, t = startOver c b.number r s) ∨
      ((s.channel c).interruptedLoss = none ∧ ∃ x, t = resumeBooking c b x s)) →
    ((t.channel c).reasons.wind = true ↔ (s.channel c).reasons.wind = true ∨ Parts.CallsForWind s c limit) ∧
    ((s.channel c).reasons.wind = true → Parts.IsCalm s c limit → (t.channel c).calmFrom = some s.now) ∧
    ((s.channel c).reasons.wind = false ∨ ¬ Parts.IsCalm s c limit → (t.channel c).calmFrom = none)

/-- An accepted pose judges the channel of its crane against the limit of its current booking, by the effective state and gust
that the pose leaves: the channel gains WIND when they call for it, and never loses it so. While the booking stays, a channel
that nothing calls to suspend gains none, and the calm timer of one that holds WIND starts, goes on or is cleared. -/
def Parts.PoseJudgesChannel : Prop :=
  ∀ (c : Slot) (f : PoseFrame) (r : CraneRecord) (p : Pose) (b : Booking) (limit : Nat) (s : State), s.power.on = true →
    s.NoTake → (s.slotOf c).excluded = false → s.record? c = some r → Parts.Fresh (s.link c) f →
    judgePose r s.now f = .valid p → s.current? c = some b → s.NoneReady c →
    limit = b.windLimit.getD s.profile.holdGust →
    ∃ t, exec (.poseReport c f) s = .next t ∧
      (Parts.CallsForWind t c limit → (t.channel c).reasons.wind = true) ∧
      ((s.channel c).reasons.wind = true → (t.channel c).reasons.wind = true) ∧
      ((t.channel c).booking = some b.number →
        ((s.channel c).reasons.wind = false → ¬ Parts.CallsForWind t c limit → (t.channel c).reasons.wind = false) ∧
        ((s.channel c).reasons.wind = true → Parts.IsCalm t c limit →
          (t.channel c).calmFrom = some ((s.channel c).calmFrom.getD s.now)) ∧
        ((t.channel c).reasons.wind = true → (s.channel c).reasons.wind = false ∨ ¬ Parts.IsCalm t c limit →
          (t.channel c).calmFrom = none))

/-- How an accepted pose moves the effective values, the own wind state and its timers; how a channel is judged against its
booking's wind limit, gains WIND and has its calm timer started, continued or cleared; the timers' expiry, and the bucket
close. -/
def Obligations.WindTimersExpire : Prop :=
  Parts.ValuesAreEffective ∧ Parts.PoseMovesBorrowers ∧ Parts.OwnStateRises ∧ Parts.ChannelIsJudged ∧
    Parts.NewBookingIsJudged ∧ Parts.PoseJudgesChannel ∧ Parts.OwnStateTimersExpire ∧ Parts.CalmTimerExpires ∧
    Parts.BucketsClose

/-! ## Crane State -/

/-- CLEAR_FAULT: refused with BAD_STATE for a crane that is not in FAULT, for INTRUSION, while a flag stands, and while the
clear condition is not met. Otherwise the fault ends: the crane is IN_SERVICE in OPERATE when it had joined, and JOINING
else, its recovery flag is no and FAULT leaves its channel's suspension set. -/
def Parts.FaultIsCleared : Prop :=
  ∀ (tag : Byte) (c : Slot) (s : State), s.Ready → s.configured c = true →
    ((s.crane c).fault = none → RefusedWith (.clearFault tag c.val) s tag 22 .badState) ∧
    ∀ f, (s.crane c).fault = some f →
      (f.cause = .intrusion ∨ f.conditionMet = false ∨
        (∃ x, (s.crane c).faultContext = some x ∧ (x.eStopFlag = true ∨ x.linkLostFlag = true)) →
        RefusedWith (.clearFault tag c.val) s tag 22 .badState) ∧
      (f.cause ≠ .intrusion → f.conditionMet = true →
        (∀ x, (s.crane c).faultContext = some x → x.eStopFlag = false ∧ x.linkLostFlag = false) →
        ∃ t, exec (.clearFault tag c.val) s = .next t ∧ Carries s t ⟨tag, 22, .ok, .empty⟩ ∧
          t.crane c =
            { s.crane c with
              state := if s.geo.mode = .operate ∧ f.unjoined = false then .inService else .joining
              fault := none, faultContext := (s.crane c).faultContext.map (·.endIn .clearFault s.now)
              check := if (s.engine c).recovery = true then none else (s.crane c).check } ∧
          (∀ d, d ≠ c → t.crane d = s.crane d) ∧ (t.engine c).recovery = false ∧
          (t.channel c).reasons.fault = false ∧ t.geo = s.geo ∧ t.clock = s.clock ∧ t.plans = s.plans)

/-- RECOVER: refused in SURVEY, for a crane neither in FAULT(INTRUSION) nor in LOCKOUT, and for one already recovering;
otherwise the recovery flag is set, with no recovery check made yet, and nothing else changes. -/
def Parts.RecoveryBegins : Prop :=
  ∀ (tag : Byte) (c : Slot) (s : State), s.Ready → s.configured c = true →
    (s.geo.mode = .survey → RefusedWith (.recover tag c.val) s tag 23 .wrongMode) ∧
    (s.geo.mode = .operate →
      ((s.crane c).state ≠ .lockout → (∀ f, (s.crane c).fault = some f → f.cause ≠ .intrusion) →
        RefusedWith (.recover tag c.val) s tag 23 .badState) ∧
      ((s.engine c).recovery = true → RefusedWith (.recover tag c.val) s tag 23 .badState) ∧
      ((s.crane c).state = .lockout ∨ (∃ f, (s.crane c).fault = some f ∧ f.cause = .intrusion) →
        (s.engine c).recovery = false →
        Answered (.recover tag c.val) s tag 23 .ok .empty
          ((s.putEngine c { s.engine c with recovery := true }).putCrane c { s.crane c with check := none })))

/-- CLEAR_LOCKOUT: refused in SURVEY, and with BAD_STATE unless the crane is in LOCKOUT with a LIVE link, its stop released,
its load below the empty-load threshold and no motion. Otherwise the crane is JOINING, its lockout context ends, FAULT
leaves the suspension set, a link-made frame is placed, and with an idle channel its PENDING bookings whose start is
reached are READY. -/
def Parts.LockoutIsCleared : Prop :=
  ∀ (tag : Byte) (c : Slot) (s : State), s.Ready → s.configured c = true →
    (s.geo.mode = .survey → RefusedWith (.clearLockout tag c.val) s tag 24 .wrongMode) ∧
    (s.geo.mode = .operate →
      ((s.crane c).state ≠ .lockout ∨ (s.link c).state ≠ .live ∨ (s.crane c).eStop = true ∨ (s.link c).lastPose = none ∨
        (∃ p, (s.link c).lastPose = some p ∧
          (s.profile.emptyLoad ≤ p.load ∨ p.slewRate ≠ 0 ∨ p.radialSpeed ≠ 0)) →
        RefusedWith (.clearLockout tag c.val) s tag 24 .badState) ∧
      (∀ p, (s.crane c).state = .lockout → (s.link c).state = .live → (s.crane c).eStop = false →
        (s.link c).lastPose = some p → p.load < s.profile.emptyLoad → p.slewRate = 0 → p.radialSpeed = 0 →
        ∃ t, exec (.clearLockout tag c.val) s = .next t ∧ Carries s t ⟨tag, 24, .ok, .empty⟩ ∧
          (t.crane c).state = .joining ∧
          (t.crane c).lockoutContext = (s.crane c).lockoutContext.map (·.endIn .clearLockout s.now) ∧
          (t.engine c).recovery = false ∧ (t.channel c).reasons.fault = false ∧
          (t.link c).inForce = some ⟨false, .holdPosition⟩ ∧
          (t.link c).generation = ((s.link c).generation + 1) % 256 ∧
          ((s.channel c).booking = none → s.NumbersUnique →
            t.bookings = s.bookings.map fun b =>
              if b.crane = c ∧ b.state = .pending ∧ b.startReached = true then { b with state := .ready } else b) ∧
          t.geo = s.geo ∧ t.clock = s.clock ∧ t.plans = s.plans))

/-- From s to t the fault f of crane c has cleared by itself: the crane is IN_SERVICE in OPERATE when it had joined, and JOINING
else, its context has ended in a way at the present uptime, its recovery flag is no and FAULT has left its channel's
suspension set. -/
def Parts.ClearsByItself (c : Slot) (f : ActiveFault) (way : EndWay) (s t : State) : Prop :=
  t.crane c =
    { s.crane c with
      state := if s.geo.mode = .operate ∧ f.unjoined = false then .inService else .joining
      fault := none, faultContext := (s.crane c).faultContext.map (·.endIn way s.now)
      check := if (s.engine c).recovery = true then none else (s.crane c).check } ∧
  (t.engine c).recovery = false ∧ (t.channel c).reasons.fault = false

/-- From s to t the clear condition of the fault f of crane c has come to hold: condition met is yes, and with no flag standing
and its cause in the profile's auto-clear set the fault clears within the event. -/
def Parts.BecomesMet (c : Slot) (f : ActiveFault) (s t : State) : Prop :=
  (∀ d, d ≠ c → t.crane d = s.crane d) ∧
  (s.flagStands c = true ∨ f.cause ∉ s.profile.autoClear →
    t.crane c = { s.crane c with fault := some { f with conditionMet := true } }) ∧
  (s.flagStands c = false → f.cause ∈ s.profile.autoClear → Parts.ClearsByItself c f .auto s t)

/-- The clear conditions that a computation judges. OVERLOAD's is met when stage 7 finds the chart satisfied, and not met when
OVERLOAD is raised again. LINK_LOST's is met at stage 5 of a computation that finds no intrusion, or, for a crane that had
not joined, one. No other cause's is met by either. A join computation is not meant here: a crane in FAULT makes none. -/
def Parts.MetWithinComputation : Prop :=
  ∀ (c : Slot) (f : ActiveFault) (s : State), (s.crane c).fault = some f →
    (f.cause = .overload → Parts.BecomesMet c f s (judgeChart c false s)) ∧
    (f.cause ≠ .overload → judgeChart c false s = s) ∧
    (f.cause = .overload → (s.crane c).state = .fault → (judgeChart c true s).crane c =
      { s.crane c with fault := some { f with conditionMet := false } }) ∧
    (f.cause = .linkLost → Parts.BecomesMet c f s (judgePresent c false none none s) ∧
      ∀ x, (s.crane c).state = .fault → f.unjoined = true → Parts.BecomesMet c f s (judgePresent c false (some x) none s)) ∧
    (f.cause ≠ .linkLost → judgePresent c false none none s = s)

/-- The crane state record once the emergency stop is released: the e-stop field and the e-stop flags are clear. -/
def Parts.released (x : CraneStatus) : CraneStatus :=
  { x with
    eStop := false, faultContext := x.faultContext.map fun k => { k with eStopFlag := false }
    lockoutContext := x.lockoutContext.map fun k => { k with eStopFlag := false } }

/-- The clear conditions that an accepted pose judges at stage 2; `flagged` says that a flag stood before it. A pose with the
emergency stop released clears the e-stop flags and meets the condition of E_STOP and of POSE_INVALID; of the other causes, a
condition that is met already is judged again when a flag had stood, INTRUSION by the latest recovery check. A pose with the
emergency stop set takes E_STOP's condition away, and meets POSE_INVALID's while its flag stops the clear. -/
def Parts.MetByPose : Prop :=
  ∀ (c : Slot) (p : Pose) (flagged : Bool) (s t : State), t = craneTakesPose c p flagged s →
    (p.emergencyStop = false → ∀ u, u = s.putCrane c (Parts.released (s.crane c)) →
      ((s.crane c).fault = none → t.crane c = u.crane c) ∧
      ∀ f, (s.crane c).fault = some f →
        (f.cause = .eStop ∨ f.cause = .poseInvalid → Parts.BecomesMet c f u t) ∧
        (f.cause = .overload ∨ f.cause = .linkLost → flagged = true → f.conditionMet = true → Parts.BecomesMet c f u t) ∧
        (f.cause = .intrusion → flagged = true → f.conditionMet = true → u.flagStands c = false →
          (u.crane c).check = some .clear → Parts.ClearsByItself c f .recovery u t) ∧
        (f.cause ≠ .eStop → f.cause ≠ .poseInvalid → flagged = false ∨ f.conditionMet = false →
          t.crane c = u.crane c)) ∧
    (p.emergencyStop = true → (s.crane c).state = .fault → ∀ f, (s.crane c).fault = some f →
      (f.cause = .eStop → t.crane c = { s.crane c with eStop := true, fault := some { f with conditionMet := false } }) ∧
      (f.cause = .poseInvalid → ∀ x, (s.crane c).faultContext = some x → t.crane c =
        { s.crane c with
          eStop := true, faultContext := some { x with eStopFlag := true }
          fault := some { f with conditionMet := true } }))

/-- Condition met becomes no for LINK_LOST as the link enters STALE, and for POSE_INVALID as the invalid streak becomes 2
again. -/
def Parts.ConditionCeases : Prop :=
  ∀ (c : Slot) (s : State), s.power.on = true → s.NoTake →
    (∀ p, (s.link c).state = .live → (s.link c).lastPose = some p → p.acceptedAt + 750 ≤ s.now →
      ∃ t, exec (.linkStale c) s = .next t ∧
        (∀ f, (s.crane c).fault = some f → f.cause = .linkLost →
          t.crane c = { s.crane c with fault := some { f with conditionMet := false } }) ∧
        ((∀ f, (s.crane c).fault = some f → f.cause ≠ .linkLost) → t.crane c = s.crane c)) ∧
    ∀ (r : CraneRecord) (frame : PoseFrame) (q : Quantity) (f : ActiveFault), (s.slotOf c).excluded = false →
      s.record? c = some r → Parts.Fresh (s.link c) frame → judgePose r s.now frame = .invalid q →
      (s.link c).invalidStreak = 1 → (s.crane c).state = .fault → (s.crane c).fault = some f → f.cause = .poseInvalid →
      Leaves (.poseReport c frame) s
        ((s.putLink c { s.link c with invalidStreak := 2, lastInvalid := some q }).putCrane c
          { s.crane c with fault := some { f with conditionMet := false } })

/-- CLEAR_FAULT, RECOVER and CLEAR_LOCKOUT, and how the clear condition of each cause comes and ceases to hold and clears a fault
by itself; a slot out of range or unconfigured is refused before anything else, which for
RECOVER and CLEAR_LOCKOUT in SURVEY is the model's reading (log 30); that CLEAR_FAULT clears an OVERLOAD or LINK_LOST fault
in SURVEY too is its choice (log 55), as is the automatic clear of one there with its last flag; and that a condition found holding again is
judged again is read from R172 (DEDUCED, log 31). -/
def Obligations.FaultRequestsAct : Prop :=
  Parts.FaultIsCleared ∧ Parts.RecoveryBegins ∧ Parts.LockoutIsCleared ∧ Parts.MetWithinComputation ∧ Parts.MetByPose ∧
    Parts.ConditionCeases ∧
    ∀ (tag : Byte) (s : State), s.Ready →
      (∀ n, 12 ≤ n → RefusedWith (.clearFault tag n) s tag 22 .badValue ∧ RefusedWith (.recover tag n) s tag 23 .badValue ∧
        RefusedWith (.clearLockout tag n) s tag 24 .badValue) ∧
      (∀ c : Slot, s.configured c = false → RefusedWith (.clearFault tag c.val) s tag 22 .notConfigured ∧
        RefusedWith (.recover tag c.val) s tag 23 .notConfigured ∧
        RefusedWith (.clearLockout tag c.val) s tag 24 .notConfigured)

/-- ESTOP on a link that is not UNUSED and whose crane is not excluded. A crane IN_SERVICE or JOINING is in FAULT(E_STOP)
with its context saved, its channel suspended and its transit set empty; a fault of E_STOP has its condition not met;
any other fault, and a lockout, gets its e-stop flag. The e-stop field is ENGAGED. On any other link it changes nothing. -/
def Parts.EStopReaches : Prop :=
  ∀ (c : Slot) (s : State), s.power.on = true → s.NoTake →
    ((s.link c).state = .unused ∨ (s.slotOf c).excluded = true → Leaves (.estop c) s s) ∧
    ((s.link c).state ≠ .unused → (s.slotOf c).excluded = false →
      ((s.crane c).state = .inService ∨ (s.crane c).state = .joining → ∃ t, exec (.estop c) s = .next t ∧
        t.crane c =
          { s.crane c with
            state := .fault, eStop := true, faultContext := some (s.newContext c .eStop none)
            fault := some ⟨.eStop, decide ((s.crane c).state = .joining), false⟩ } ∧
        (t.channel c).reasons = { (s.channel c).reasons with fault := true } ∧ (t.engine c).transit = [] ∧
        (∀ d, d ≠ c → t.crane d = s.crane d) ∧ t.links = s.links ∧ t.geo = s.geo ∧ t.clock = s.clock ∧
        t.plans = s.plans) ∧
      (∀ f, (s.crane c).state = .fault → (s.crane c).fault = some f →
        (f.cause = .eStop → Leaves (.estop c) s
          (s.putCrane c { s.crane c with eStop := true, fault := some { f with conditionMet := false } })) ∧
        (f.cause ≠ .eStop → Leaves (.estop c) s
          (s.putCrane c
            { s.crane c with
              eStop := true
              faultContext := (s.crane c).faultContext.map fun x => { x with eStopFlag := true } }))) ∧
      ((s.crane c).state = .lockout → Leaves (.estop c) s
        (s.putCrane c
          { s.crane c with
            eStop := true
            lockoutContext := (s.crane c).lockoutContext.map fun x => { x with eStopFlag := true } })))

/-- Crane c has gone from FAULT in s to LOCKOUT in t for a cause: a new lockout context is saved and the fault context ends
ESCALATED, cause and recovery flag are gone, and the transit set is empty. The booking on its channel has FAILED with LOCKOUT
at its present step, its INTERRUPTED one is CANCELLED with LOCKOUT at its saved step, its READY ones are PENDING, and the
channel is IDLE with its reasons kept. With no such booking and no waiting claim the arbiter's records are as they were. -/
def Parts.LockedOut (c : Slot) (cause : FaultCause) (cell : Option CellPos) (s t : State) : Prop :=
  t.crane c =
    { s.crane c with
      state := .lockout, fault := none, lockoutContext := some (s.newContext c cause cell)
      faultContext := (s.crane c).faultContext.map (·.endIn .escalated s.now)
      check := if (s.engine c).recovery = true then none else (s.crane c).check } ∧
  (∀ d, d ≠ c → t.crane d = s.crane d) ∧ (t.engine c).recovery = false ∧ (t.engine c).transit = [] ∧
  (t.channel c).state = .idle ∧ (t.channel c).reasons = (s.channel c).reasons ∧
  (s.NumbersUnique →
    (∀ n, (s.channel c).booking = some n → t.EndedAs n .failed ⟨.lockout, some (s.channel c).step⟩) ∧
    (∀ x ∈ s.bookings, x.crane = c → x.state = .interrupted → (s.channel c).booking ≠ some x.number →
      (∀ y ∈ s.bookings, y.crane = c → y.state = .interrupted → y = x) →
      t.EndedAs x.number .cancelled ⟨.lockout, x.saved.map (·.step)⟩) ∧
    (∀ b ∈ s.bookings, b.crane = c → b.state = .ready → (s.channel c).booking ≠ some b.number →
      t.booking? b.number = some { b with state := .pending })) ∧
  ((s.channel c).booking = none → (∀ b ∈ s.bookings, b.crane = c → b.state ≠ .interrupted) →
    (∀ r ∈ s.arb.pool, r.crane = c → ∀ cz ∈ r.zones, cz.status ≠ .waiting) →
    (∀ cz ∈ (s.storm c).zones, cz.status ≠ .waiting) → t.arb = s.arb) ∧
  t.geo = s.geo ∧ t.clock = s.clock ∧ t.plans = s.plans

/-- A cause in FAULT escalates to LOCKOUT when it is INTRUSION, OVERLOAD or POSE_INVALID, differs from the active one and is
no INTRUSION of an unjoined crane, which is disregarded: so does the second invalid pose in a row. In LOCKOUT these causes
change no operating state. In JOINING and IN_SERVICE a cause of any kind is the first fault, its context saved. -/
def Parts.EscalationLocksOut : Prop :=
  ∀ (c : Slot) (s : State),
    (∀ f cause cell, (s.crane c).state = .fault → (s.crane c).fault = some f →
      (f.unjoined = true → raise c .intrusion cell s = s) ∧
      (cause = .intrusion ∧ f.unjoined = false ∨ cause = .overload ∨ cause = .poseInvalid → f.cause ≠ cause →
        Parts.LockedOut c cause cell s (raise c cause cell s))) ∧
    (∀ r f p q, s.power.on = true → s.NoTake → (s.slotOf c).excluded = false → s.record? c = some r →
      Parts.Fresh (s.link c) p → judgePose r s.now p = .invalid q → (s.link c).invalidStreak = 1 →
      (s.crane c).state = .fault → (s.crane c).fault = some f → f.cause ≠ .poseInvalid →
      ∃ t, exec (.poseReport c p) s = .next t ∧ Parts.LockedOut c .poseInvalid none s t ∧
        t.link c = { s.link c with invalidStreak := 2, lastInvalid := some q }) ∧
    (∀ cause cell, (s.crane c).state = .lockout → cause = .intrusion ∨ cause = .overload ∨ cause = .poseInvalid →
      ∀ d, (raise c cause cell s).crane d = s.crane d) ∧
    (∀ cause cell, (s.crane c).state = .joining ∨ (s.crane c).state = .inService →
      (raise c cause cell s).crane c =
        { s.crane c with
          state := .fault, eStop := (s.crane c).eStop || cause == .eStop
          faultContext := some (s.newContext c cause cell)
          fault := some ⟨cause, decide ((s.crane c).state = .joining), false⟩ } ∧
      ((raise c cause cell s).channel c).reasons = { (s.channel c).reasons with fault := true } ∧
      ((raise c cause cell s).engine c).transit = [])

/-- The keys that a change of operating state marks come in the order of its steps, CRANE(c) after CHANNEL(c). Said with an
idle channel, no recovery flag, nothing waiting, no booking of the crane and a report list without the two keys that masks
nothing: the first fault, a clear within a computation and the leaving of LOCKOUT append CHANNEL(c) and then CRANE(c), and an
escalation, which leaves the channel as it is, CRANE(c) alone. -/
def Parts.CraneIsMarkedLast : Prop :=
  ∀ (c : Slot) (s : State), (s.channel c).booking = none → (s.engine c).recovery = false → s.NoWaiting →
    (∀ r ∈ s.arb.pool, ∀ cz ∈ r.zones, cz.status ≠ .waiting) → (∀ cz ∈ (s.storm c).zones, cz.status ≠ .waiting) →
    (∀ b ∈ s.bookings, b.crane ≠ c) → s.port.masks = [] → .channel c ∉ s.port.reports → .crane c ∉ s.port.reports →
    (∀ cause cell, (s.crane c).state = .joining ∨ (s.crane c).state = .inService →
      (s.channel c).reasons.fault = false →
      (raise c cause cell s).port.reports = s.port.reports ++ [.channel c, .crane c]) ∧
    ((s.channel c).reasons.fault = true →
      (∀ way, (clearTheFault c way .computation s).port.reports = s.port.reports ++ [.channel c, .crane c]) ∧
      (leaveLockout c s).port.reports = s.port.reports ++ [.channel c, .crane c]) ∧
    ∀ f cause cell, (s.crane c).state = .fault → (s.crane c).fault = some f →
      cause = .overload ∨ cause = .poseInvalid → f.cause ≠ cause → (s.channel c).idled = s.channel c →
      (raise c cause cell s).port.reports = s.port.reports ++ [.crane c]

/-- ESTOP, and what a raised cause does in each operating state, with the bookings and the channel of a crane locked out; and
the order of the keys that a fault, its clear, a lockout and its end mark. -/
def Obligations.EStopIsRaised : Prop := Parts.EStopReaches ∧ Parts.EscalationLocksOut ∧ Parts.CraneIsMarkedLast

/-! ## Cab Links -/

/-- A rate is valid when 4 times its size is at most 5 times its maximum. -/
def Parts.rateValid (maximum : Nat) (v : Int) : Prop := 4 * v.natAbs ≤ 5 * maximum

/-- A radius is valid when it lies at most 1,000 mm below the minimum radius and at most 1,000 mm above the jib length. -/
def Parts.radiusValid (r : CraneRecord) (radius : Nat) : Prop :=
  r.minRadius ≤ radius + 1000 ∧ radius ≤ r.jibLength + 1000

/-- The validity test of a pose: the first invalid quantity in the order of R26's table decides; with none, rates are
clamped to their maximum keeping their sign, the radius into minimum radius to jib length, and the wind sample to 600. A
record whose minimum radius is above its jib length (log 47) is left out. -/
def Parts.PoseValues : Prop :=
  ∀ (r : CraneRecord) (now : Ms) (f : PoseFrame), r.minRadius ≤ r.jibLength →
    (¬ Parts.rateValid r.maxSlewRate f.slewRate.toInt → judgePose r now f = .invalid .slewRate) ∧
    (Parts.rateValid r.maxSlewRate f.slewRate.toInt →
      (¬ Parts.rateValid r.maxRadialSpeed f.radialSpeed.toInt → judgePose r now f = .invalid .radialSpeed) ∧
      (Parts.rateValid r.maxRadialSpeed f.radialSpeed.toInt →
        (¬ Parts.radiusValid r f.radius.toNat → judgePose r now f = .invalid .radius) ∧
        (Parts.radiusValid r f.radius.toNat →
          (250000 < f.hookHeight.toNat → judgePose r now f = .invalid .hookHeight) ∧
          (f.hookHeight.toNat ≤ 250000 →
            (65000 < f.load.toNat → judgePose r now f = .invalid .load) ∧
            (f.load.toNat ≤ 65000 → ∃ p, judgePose r now f = .valid p ∧
              p.sequence = f.sequence.toNat ∧ p.cabBearing = f.cabBearing.toNat ∧
              p.siteBearing = (f.cabBearing.toNat + r.bearingOffset) % 65536 ∧
              p.slewRate = max (-(r.maxSlewRate : Int)) (min r.maxSlewRate f.slewRate.toInt) ∧
              p.radialSpeed = max (-(r.maxRadialSpeed : Int)) (min r.maxRadialSpeed f.radialSpeed.toInt) ∧
              p.radius = max r.minRadius (min r.jibLength f.radius.toNat) ∧ p.hookHeight = f.hookHeight.toNat ∧
              p.load = f.load.toNat ∧ p.windSample = min 600 f.windSample.toNat ∧ p.acceptedAt = now ∧
              p.emergencyStop = f.flags.getLsbD 0 ∧ p.brakeReleased = f.flags.getLsbD 1 ∧
              p.operatorPresent = f.flags.getLsbD 2 ∧ p.sensorFault = f.flags.getLsbD 3 ∧
              p.windValid = f.flags.getLsbD 4)))))

/-- The test of a pose report that is not old uses the crane record as it stands: the first invalid quantity becomes the
link's last invalid quantity, and with none the pose of the clamped values is accepted. -/
def Parts.PoseOutcome : Prop :=
  ∀ (c : Slot) (f : PoseFrame) (r : CraneRecord) (s : State), s.power.on = true → (s.slotOf c).excluded = false →
    s.record? c = some r → Parts.Fresh (s.link c) f → s.NoTake →
    (∀ q, judgePose r s.now f = .invalid q →
      ∃ t, exec (.poseReport c f) s = .next t ∧ (t.link c).lastInvalid = some q ∧
        (t.link c).lastPose = (s.link c).lastPose) ∧
    (∀ p, judgePose r s.now f = .valid p →
      ∃ t, exec (.poseReport c f) s = .next t ∧ (t.link c).lastPose = some p ∧
        (t.link c).lastInvalid = (s.link c).lastInvalid)

/-- How every quantity of a new pose is judged, and what the judgement does to the link record. -/
def Obligations.PoseIsJudged : Prop := Parts.PoseValues ∧ Parts.PoseOutcome

/-- POSE_REPORT that is not accepted. On an UNUSED link, of an excluded crane, or old or duplicate on a LIVE or STALE link,
it changes nothing. An invalid one changes the streak and the last invalid quantity, and at a streak of 2 raises
POSE_INVALID. -/
def Obligations.PoseIsRefused : Prop :=
  ∀ (c : Slot) (f : PoseFrame) (s : State), s.power.on = true → s.NoTake →
    ((s.link c).state = .unused ∨ (s.slotOf c).excluded = true → Leaves (.poseReport c f) s s) ∧
    (∀ p, ((s.link c).state = .live ∨ (s.link c).state = .stale) → (s.link c).lastPose = some p → p.sequence < 256 →
      ((f.sequence - BitVec.ofNat 8 p.sequence).toNat = 0 ∨ 128 ≤ (f.sequence - BitVec.ofNat 8 p.sequence).toNat) →
      Leaves (.poseReport c f) s s) ∧
    (∀ r q, (s.slotOf c).excluded = false → s.record? c = some r → Parts.Fresh (s.link c) f →
      judgePose r s.now f = .invalid q →
      ((s.link c).invalidStreak ≠ 1 → Leaves (.poseReport c f) s
        (s.putLink c
          { s.link c with invalidStreak := min 255 ((s.link c).invalidStreak + 1), lastInvalid := some q })) ∧
      ((s.link c).invalidStreak = 1 → (s.crane c).state = .inService ∨ (s.crane c).state = .joining →
        ∃ t, exec (.poseReport c f) s = .next t ∧
          t.link c = { s.link c with invalidStreak := 2, lastInvalid := some q } ∧ (t.crane c).state = .fault ∧
          (t.crane c).fault = some ⟨.poseInvalid, decide ((s.crane c).state = .joining), false⟩ ∧
          (t.channel c).reasons.fault = true ∧ t.geo = s.geo ∧ t.clock = s.clock ∧ t.plans = s.plans))

/-- The state in which the Envelope Engine computes for an accepted pose of crane c, stage 3 of R29: the link is LIVE with the
pose, its crane's link-lost flags have gone unless it was LIVE before, and Wind Monitor and Crane State have taken the pose. -/
def Parts.atStage3 (c : Slot) (p : Pose) (s : State) : State :=
  let a := updLink c (fun l => { l with state := .live, lastPose := some p, invalidStreak := 0 }) (nextEvent s)
  craneTakesPose c p (s.flagStands c) (windTakesPose c p (if (s.link c).state = .live then a else linkReturns c a))

/-- The wind record w' that an accepted pose p leaves of w, as far as samples, sensor state and streaks go. A sample that the
cab calls valid and whose sensor reports no fault joins the ring of twelve and the current bucket; with the sensor OK it ends
the missing streak, and the fourth in a row restores a FAILED one. Without one an OK sensor fails at once on a fault and
otherwise with the fortieth in a row, and a FAILED one begins its recovery streak again. A sensor that fails has an empty
ring and no streaks. -/
def Parts.SensorFollows (p : Pose) (w w' : Wind) : Prop :=
  let joined := (if 12 ≤ w.ring.length then w.ring.tail else w.ring) ++ [p.windSample]
  let fails := w'.sensor = .failed ∧ w'.ring = [] ∧ w'.missing = 0 ∧ w'.recovering = 0
  (p.windValid = true → p.sensorFault = false →
    (∀ b rest, w.buckets = b :: rest → w'.buckets = ⟨b.sum + p.windSample, b.count + 1⟩ :: rest) ∧
    (w.sensor = .ok → w'.sensor = .ok ∧ w'.ring = joined ∧ w'.missing = 0 ∧ w'.recovering = w.recovering) ∧
    (w.sensor = .failed → w'.ring = joined ∧
      (w.recovering + 1 < 4 → w'.sensor = .failed ∧ w'.recovering = w.recovering + 1 ∧ w'.missing = w.missing) ∧
      (4 ≤ w.recovering + 1 → w'.sensor = .ok ∧ w'.missing = 0 ∧ w'.recovering = 0))) ∧
  (p.windValid = false ∨ p.sensorFault = true →
    w'.buckets = w.buckets ∧
    (w.sensor = .ok → p.sensorFault = true → fails) ∧
    (w.sensor = .ok → p.sensorFault = false →
      (w.missing + 1 < 40 → w'.sensor = .ok ∧ w'.ring = w.ring ∧ w'.missing = w.missing + 1 ∧
        w'.recovering = w.recovering) ∧
      (40 ≤ w.missing + 1 → fails)) ∧
    (w.sensor = .failed → w'.sensor = .failed ∧ w'.ring = [] ∧ w'.recovering = 0 ∧ w'.missing = w.missing))

/-- POSE_REPORT that is accepted: the link is LIVE with the pose and a streak of 0, the wind sensor follows its sample, the
e-stop field follows the pose's flag, and in OPERATE the engine's record is the computation of this pose in the state that
stages 1 and 2 of R29 leave, the crane's state record is what that computation leaves, and the link is as it leaves it but for
notices, with its frame in force. In SURVEY a frame of mode SURVEY is, and the crane's state record is stage 2's. -/
def Parts.PoseIsTaken : Prop :=
  ∀ (c : Slot) (f : PoseFrame) (r : CraneRecord) (p : Pose) (s : State), s.power.on = true → s.NoTake →
    (s.slotOf c).excluded = false → s.record? c = some r → Parts.Fresh (s.link c) f →
    judgePose r s.now f = .valid p →
    ∃ t, exec (.poseReport c f) s = .next t ∧
      (t.link c).state = .live ∧ (t.link c).lastPose = some p ∧ (t.link c).invalidStreak = 0 ∧
      (∀ d, d ≠ c → (t.link d).state = (s.link d).state ∧ (t.link d).lastPose = (s.link d).lastPose ∧
        (t.link d).generation = (s.link d).generation) ∧
      Parts.SensorFollows p (s.windOf c) (t.windOf c) ∧
      ((s.crane c).state ≠ .offline → (t.crane c).eStop = p.emergencyStop) ∧
      (s.geo.mode = .survey → (t.link c).inForce = some ⟨false, .survey⟩ ∧
        t.crane c = (Parts.atStage3 c p s).crane c ∧
        ((s.crane c).state ≠ .inService → (t.crane c).state ≠ .inService)) ∧
      (s.geo.mode = .operate → (s.crane c).state ≠ .offline → ∀ u, u = compute c r p (Parts.atStage3 c p s) → ∃ k,
        (u.engine c).record = some k ∧ (t.engine c).record = some k ∧ t.crane c = u.crane c ∧
        t.link c = { u.link c with notices := (t.link c).notices } ∧
        k.sequence = p.sequence ∧ k.poseAt = p.acceptedAt ∧ (t.link c).inForce = some ⟨true, k.frame.mode⟩ ∧
        (t.engine c).occupancy = k.occupancy ∧ (t.engine c).transit = k.transit) ∧
      t.geo = s.geo ∧ t.clock = s.clock ∧ t.plans = s.plans

/-- Two sectors lie within a tolerance of each other, counted either way around the 128 sectors. -/
def Parts.SectorsWithin (tolerance : Nat) (a b : Sector) : Prop :=
  ∃ d, d ≤ tolerance ∧ ((a.val + d) % 128 = b.val ∨ (b.val + d) % 128 = a.val)

/-- The conditions of AWAIT, of a pose and a booking: AT_CELL of a cell, of the pick cell or of the set cell when the pose's band
is the cell's and its sector lies within the tolerance; LOAD_ON and HOOK_ABOVE at or above, and LOAD_OFF below their
values. -/
def Parts.AwaitConditions : Prop :=
  ∀ (b : Booking) (r : CraneRecord) (p : Pose),
    (∀ (k : GridCell) (cell : CellRef) (t : Nat),
      cell = .cell k.sector.val k.band.val ∨ (cell = .pick ∧ k = b.pick) ∨ (cell = .set ∧ k = b.set) →
      (awaitHolds b r p (.atCell cell t) = true ↔
        r.band p.radius = k.band ∧ Parts.SectorsWithin t (sectorOf p.siteBearing) k.sector)) ∧
    (∀ x, (awaitHolds b r p (.loadOn x) = true ↔ x ≤ p.load) ∧ (awaitHolds b r p (.loadOff x) = true ↔ p.load < x)) ∧
    (∀ h, awaitHolds b r p (.hookAbove h) = true ↔ h ≤ p.hookHeight)

/-- The computation of an accepted pose is offered to the channel of its crane, which u shows as the computation leaves it. A
running AWAIT step that waited before the computation completes when its condition holds, and goes on waiting otherwise; one
that did not yet wait goes on. A running CLAIM step that stands ALREADY_WAITING asks again: past its window the booking fails;
it stands ALREADY_WAITING again, or NO_RECORD; or zones that are free are all held and the step completes, the steps after it
being left to a NEXT_STEP event (log 24). Any other channel stays as it is. A crane that comes IN_SERVICE has its starts
gated after this, and finds none with no booking READY. -/
def Parts.ComputationIsOffered : Prop :=
  ∀ (c : Slot) (f : PoseFrame) (r : CraneRecord) (p : Pose) (s a u : State), s.power.on = true → s.NoTake →
    (s.slotOf c).excluded = false → s.record? c = some r → Parts.Fresh (s.link c) f →
    judgePose r s.now f = .valid p → s.geo.mode = .operate → (s.crane c).state ≠ .offline →
    a = Parts.atStage3 c p s → u = compute c r p a → (s.crane c).state = .inService ∨ u.NoneReady c →
    ∃ t, exec (.poseReport c f) s = .next t ∧
      (∀ b cond limit o, (u.channel c).state = .active → (u.channel c).phase = .waitingPose → u.current? c = some b →
        u.step? c = some (.await cond limit o) →
        let waited := (a.channel c).state = .active ∧ (a.channel c).phase = .waitingPose ∧
          (a.channel c).booking = (u.channel c).booking ∧ (a.channel c).step = (u.channel c).step
        (waited → awaitHolds b r p cond = true → t.channel c = (u.channel c).completed ((u.channel c).step + 1)) ∧
        (¬ waited ∨ awaitHolds b r p cond = false → t.channel c = u.channel c)) ∧
      (∀ b zs limit o, (u.channel c).state = .active → (u.channel c).phase = .waitingClaim →
        (u.channel c).claim = some .alreadyWaiting → u.current? c = some b → u.step? c = some (.claim zs limit o) →
        (b.windowEnded = true → b.returnsTo = none → u.NoneReady c → (t.channel c).state = .idle ∧
          t.EndedAs b.number .failed ⟨.windowEnded, some (u.channel c).step⟩) ∧
        (b.windowEnded = false → (∀ z ∈ stepZones zs, u.member c z = true) →
          ((∃ z ∈ stepZones zs, (u.entryOf? c z = some (.storm c)) ∨
              ∃ n, u.entryOf? c z = some (.pool n) ∧ u.poolKind? n = some .standing) →
            t.channel c = { u.channel c with claim := some .alreadyWaiting, retryDue := false }) ∧
          ((∀ z ∈ stepZones zs, u.entryOf? c z = none ∧ u.holds c z = false) → 96 ≤ u.arb.pool.length →
            t.channel c = { u.channel c with claim := some .noRecord, retryDue := false }) ∧
          (u.NoWaiting → u.arb.pool = [] →
            (∀ z ∈ stepZones zs, (u.zone z).holding = .free ∧ ∀ o, o ≠ c → z ∉ (u.engine o).occupancy) →
            t.channel c = (u.channel c).completed ((u.channel c).step + 1) ∧
              ∀ z ∈ stepZones zs, (t.zone z).holding = .held c (.pool u.arb.stamp)))) ∧
      ((u.channel c).state ≠ .active ∨ ((u.channel c).phase ≠ .waitingPose ∧
          ((u.channel c).phase ≠ .waitingClaim ∨ (u.channel c).claim ≠ some .alreadyWaiting)) →
        t.channel c = u.channel c)

/-- What an accepted pose does: to its link, the wind sensor, Crane State and the engine's record, and to the channel that its
computation is offered to. That the steps after a granted claim are an event of their own is read from R147 (DEDUCED, log
24). -/
def Obligations.PoseIsAccepted : Prop := Parts.PoseIsTaken ∧ Parts.AwaitConditions ∧ Parts.ComputationIsOffered

/-- CAB_BAD_FRAME with bytes that fail the frame check, and ACK_MESSAGE, on a link that takes what arrives: a bad frame adds
CAB_FRAME(c) and changes nothing else; an ACK sets last ACK and count, and completes a waiting ACK step of its code on a
running channel. On an UNUSED link or for an excluded crane neither does anything. Which bytes are one bad frame, where they
do not keep to R193's framing, is the model's choice (log 85), and so is that the command makes the check itself (log 18). -/
def Obligations.CabMessageIsTaken : Prop :=
  ∀ (c : Slot) (bytes : List Byte) (code : Byte) (s : State), s.power.on = true → s.NoTake →
    ((s.link c).state = .unused ∨ (s.slotOf c).excluded = true →
      Leaves (.cabBadFrame c bytes) s s ∧ Leaves (.ackMessage c code) s s) ∧
    ((s.link c).state ≠ .unused → (s.slotOf c).excluded = false →
      (checkCabFrame bytes = none → Leaves (.cabBadFrame c bytes) s (addError (.cabFrame c) s)) ∧
      (((s.channel c).state = .active ∧ (s.channel c).phase = .waitingAck ∧
          ∃ limit o, s.step? c = some (.ack code.toNat limit o)) → Leaves (.ackMessage c code) s
        ((s.putLink c
            { s.link c with
              lastAck := some (code.toNat, s.now), ackCount := ((s.link c).ackCount + 1) % 65536 }).putChannel c
          ((s.channel c).completed ((s.channel c).step + 1)))) ∧
      (((s.channel c).state ≠ .active ∨ (s.channel c).phase ≠ .waitingAck ∨
          ∀ limit o, s.step? c ≠ some (.ack code.toNat limit o)) → Leaves (.ackMessage c code) s
        (s.putLink c
          { s.link c with lastAck := some (code.toNat, s.now), ackCount := ((s.link c).ackCount + 1) % 65536 })))

/-- LINK_STALE of a LIVE link not heard for 750 ms, and LINK_LOST of a STALE one not heard for 3,000 ms. STALE places a
link-made frame and clears the wind timers; LOST puts a crane IN_SERVICE or JOINING in FAULT(LINK_LOST) and empties its
transit set; one already in FAULT of another cause, or in LOCKOUT, gets its link-lost flag. A link heard more recently is
left as it is: a command that is not due (the model's choice, log 14). -/
def Obligations.SilentLinkGoesDown : Prop :=
  ∀ (c : Slot) (p : Pose) (s : State), s.power.on = true → s.NoTake → (s.link c).lastPose = some p →
    ((s.link c).state ≠ .live ∨ s.now < p.acceptedAt + 750 → Leaves (.linkStale c) s s) ∧
    ((s.link c).state ≠ .stale ∨ s.now < p.acceptedAt + 3000 → Leaves (.linkLost c) s s) ∧
    (∀ r, s.record? c = some r → (s.link c).state = .live → p.acceptedAt + 750 ≤ s.now →
      ∃ t, exec (.linkStale c) s = .next t ∧ (t.link c).state = .stale ∧ (t.link c).lastPose = some p ∧
        (t.link c).generation = ((s.link c).generation + 1) % 256 ∧
        (t.link c).inForce = some ⟨false, (linkMadeFrame s.geo.mode r).mode⟩ ∧ (t.windOf c).calmDown = none ∧
        (t.channel c).calmFrom = none ∧ (∀ d, (t.crane d).state = (s.crane d).state) ∧ t.geo = s.geo ∧
        t.clock = s.clock ∧ t.plans = s.plans) ∧
    ((s.link c).state = .stale → p.acceptedAt + 3000 ≤ s.now →
      (s.crane c).state = .inService ∨ (s.crane c).state = .joining →
      ∃ t, exec (.linkLost c) s = .next t ∧ t.link c = { s.link c with state := .lost } ∧ (t.crane c).state = .fault ∧
        (t.crane c).fault = some ⟨.linkLost, decide ((s.crane c).state = .joining), false⟩ ∧
        (t.channel c).reasons.fault = true ∧ (t.engine c).transit = [] ∧ t.geo = s.geo ∧ t.clock = s.clock ∧
        t.plans = s.plans) ∧
    ((s.link c).state = .stale → p.acceptedAt + 3000 ≤ s.now →
      (∀ f, (s.crane c).state = .fault → (s.crane c).fault = some f →
        ∃ t, exec (.linkLost c) s = .next t ∧ t.link c = { s.link c with state := .lost } ∧ (t.engine c).transit = [] ∧
          t.crane c = (if f.cause = .linkLost then s.crane c else
            { s.crane c with
              faultContext := (s.crane c).faultContext.map fun x => { x with linkLostFlag := true } })) ∧
      ((s.crane c).state = .lockout →
        ∃ t, exec (.linkLost c) s = .next t ∧ t.link c = { s.link c with state := .lost } ∧ (t.engine c).transit = [] ∧
          t.crane c =
            { s.crane c with
              lockoutContext := (s.crane c).lockoutContext.map fun x => { x with linkLostFlag := true } }))

/-- LIMIT_REPEAT and CAB_TX_DONE. When 250 ms have passed since the last limit frame began, an empty slot gets the last sent
frame again with its own generation, and an idle line begins it. When a frame ends, the limit slot's frame goes first,
then the head notice, and with neither the line is idle; a place freed goes to the NOTIFY step that waits for it, which
completes, or to the ACK step, which then waits for its ACK. A command that
is not due does nothing (the model's choice, log 14), and neither does CAB_TX_DONE while the reset line is low (log 16). -/
def Obligations.TransmitterGoesOn : Prop :=
  ∀ (c : Slot) (s : State), s.power.on = true → s.NoTake →
    ((s.link c).repeatFrom = none → Leaves (.limitRepeat c) s s) ∧
    (∀ t0, (s.link c).repeatFrom = some t0 →
      (s.now < t0 + 250 → Leaves (.limitRepeat c) s s) ∧
      (t0 + 250 ≤ s.now →
        ((s.link c).tx ≠ none → Leaves (.limitRepeat c) s
          (s.putLink c
            { s.link c with
              repeatFrom := none, slot := if (s.link c).slot = none then (s.link c).lastSent else (s.link c).slot })) ∧
        (∀ g, (s.link c).tx = none → s.power.lowFor = none → (s.link c).slot = none → (s.link c).lastSent = some g →
          Leaves (.limitRepeat c) s
            (s.putLink c { s.link c with tx := some (.limit g), repeatFrom := some s.now })))) ∧
    ((s.link c).tx = none ∨ s.power.lowFor ≠ none → Leaves (.cabTxDone c) s s) ∧
    ((s.link c).tx ≠ none → s.power.lowFor = none →
      (∀ g, (s.link c).slot = some g → Leaves (.cabTxDone c) s
        (s.putLink c
          { s.link c with
            tx := some (.limit g), slot := none, lastSent := some g, repeatFrom := some s.now })) ∧
      ((s.link c).slot = none →
        ((s.link c).notices = [] → Leaves (.cabTxDone c) s (s.putLink c { s.link c with tx := none })) ∧
        (∀ n rest, (s.link c).notices = n :: rest →
          ((s.channel c).state ≠ .active ∨ (s.channel c).phase ≠ .waitingSlot → Leaves (.cabTxDone c) s
            (s.putLink c { s.link c with tx := some (.notice n), notices := rest })) ∧
          (∀ code p1 p2, (s.channel c).state = .active → (s.channel c).phase = .waitingSlot →
            s.step? c = some (.notify code p1 p2) → Leaves (.cabTxDone c) s
            ((s.putLink c
                { s.link c with
                  tx := some (.notice n), notices := rest ++ [.coded code false p1 p2] }).putChannel c
              ((s.channel c).completed ((s.channel c).step + 1)))) ∧
          (∀ code limit o b, (s.channel c).state = .active → (s.channel c).phase = .waitingSlot →
            s.step? c = some (.ack code limit o) → (s.channel c).booking = some b → Leaves (.cabTxDone c) s
            ((s.putLink c
                { s.link c with
                  tx := some (.notice n), notices := rest ++ [.coded code true b (s.channel c).step] }).putChannel c
              { s.channel c with phase := .waitingAck })))))

/-- A cab frame as its sender builds it passes the frame check and is read as the message it carries: every pose report, ACK
and ESTOP. -/
def Parts.InboundIsRead : Prop :=
  (∀ p : PoseFrame, checkCabFrame (cabFrame (poseBytes p)) = some (.pose p)) ∧
    (∀ code : Byte, checkCabFrame (cabFrame [2#8, code]) = some (.ack code)) ∧
    checkCabFrame (cabFrame [3#8]) = some .estop

/-- The number that n bytes spell from byte i on, most significant first. -/
def Parts.field (b : List Byte) (i n : Nat) : Nat := numberOf ((b.drop i).take n)

/-- The 22 bytes of a limit frame: kind 9, mode and hoist mode by their places in R194's lists, generation, a presence bit for
each slew limit with 0 for an absent one, the caps, the radius limits in four bytes, and brake release. A number is its
field's wherever it fits the field's width. -/
def Parts.LimitFrameBytes : Prop :=
  ∀ f : StampedFrame, let b := limitFrameBytes f
    b.length = 22 ∧ Parts.field b 0 1 = 9 ∧
    [FrameMode.survey, .holdPosition, .normal, .evict, .storm, .stormRelease, .fault, .lockout][Parts.field b 1 1]? =
      some f.frame.mode ∧
    (f.generation < 256 → Parts.field b 2 1 = f.generation) ∧
    (∃ x, b[3]? = some x ∧ x.getLsbD 0 = f.frame.cwLimit.isSome ∧ x.getLsbD 1 = f.frame.ccwLimit.isSome ∧
      ∀ i, 2 ≤ i → x.getLsbD i = false) ∧
    (f.frame.cwLimit = none → Parts.field b 4 2 = 0) ∧
    (∀ v, f.frame.cwLimit = some v → v < 65536 → Parts.field b 4 2 = v) ∧
    (f.frame.ccwLimit = none → Parts.field b 6 2 = 0) ∧
    (∀ v, f.frame.ccwLimit = some v → v < 65536 → Parts.field b 6 2 = v) ∧
    (f.frame.cwCap < 256 → Parts.field b 8 1 = f.frame.cwCap) ∧
    (f.frame.ccwCap < 256 → Parts.field b 9 1 = f.frame.ccwCap) ∧
    (f.frame.outLimit < 4294967296 → Parts.field b 10 4 = f.frame.outLimit) ∧
    (f.frame.inLimit < 4294967296 → Parts.field b 14 4 = f.frame.inLimit) ∧
    (f.frame.outCap < 256 → Parts.field b 18 1 = f.frame.outCap) ∧
    (f.frame.inCap < 256 → Parts.field b 19 1 = f.frame.inCap) ∧
    [HoistMode.free, .lowerOnly, .park][Parts.field b 20 1]? = some f.frame.hoist ∧
    Parts.field b 21 1 = (if f.frame.brakeRelease = true then 1 else 0)

/-- The bytes of a cab notice: kind 10, form, ack-request and notice code; then a text's count and characters, or two
parameters of two bytes each. -/
def Parts.NoticeBytes : Prop :=
  (∀ (code : Byte) (ack : Bool) (chars : List Byte), chars.length ≤ 40 →
    let b := noticeBytes (.text code ack chars)
    Parts.field b 0 1 = 10 ∧ Parts.field b 1 1 = 0 ∧ Parts.field b 2 1 = (if ack = true then 1 else 0) ∧
      Parts.field b 3 1 = code.toNat ∧ Parts.field b 4 1 = chars.length ∧ b.drop 5 = chars) ∧
  ∀ (code : Nat) (ack : Bool) (p1 p2 : Nat), code < 256 → p1 < 65536 → p2 < 65536 →
    let b := noticeBytes (.coded code ack p1 p2)
    b.length = 8 ∧ Parts.field b 0 1 = 10 ∧ Parts.field b 1 1 = 1 ∧ Parts.field b 2 1 = (if ack = true then 1 else 0) ∧
      Parts.field b 3 1 = code ∧ Parts.field b 4 2 = p1 ∧ Parts.field b 6 2 = p2

/-- The content of what a cab transmitter sends: its kind and fields. -/
def Parts.content : CabOutbound → List Byte
  | .limit f => limitFrameBytes f
  | .notice n => noticeBytes n

/-- What a cab transmitter puts on the line: the start byte once, and after it, once the escapes are undone, the length of
kind and fields in one byte, kind and fields, and the CRC-16 over length, kind and fields. -/
def Parts.OutboundIsFramedForCab : Prop :=
  ∀ o : CabOutbound, ∃ rest, o.lineBytes = 0xA5#8 :: rest ∧ 0xA5#8 ∉ rest ∧
    unescapeBytes rest = some (BitVec.ofNat 8 (Parts.content o).length :: Parts.content o ++
      crcBytes (BitVec.ofNat 8 (Parts.content o).length :: Parts.content o))

/-- The frames of a cab line both ways: every inbound frame is read as its message, and the bytes of the limit frames and
notices that the part sends are those of R194's layouts, framed as R193 says. -/
def Obligations.CabFramesAreRead : Prop :=
  Parts.InboundIsRead ∧ Parts.LimitFrameBytes ∧ Parts.NoticeBytes ∧ Parts.OutboundIsFramedForCab

/-! ## Envelope Engine -/

/-- A sector blocks the slew walk when a cell the walk examines in it is not permitted. -/
def Parts.Blocks (sl : CraneSlot) (m : Permits) (e : Envelope) (sec : Sector) : Prop :=
  ∃ k ∈ sectorCells e sec, m.allows k.table (sl.cell k) = false

/-- A cell of a class blocks the slew walk in a sector. -/
def Parts.BlockedBy (sl : CraneSlot) (m : Permits) (e : Envelope) (sec : Sector) (x : Cell) : Prop :=
  ∃ k ∈ sectorCells e sec, m.allows k.table (sl.cell k) = false ∧ sl.cell k = x

/-- k is a / b rounded up to a whole number. -/
def Parts.RoundedUp (a b k : Nat) : Prop := a ≤ b * k ∧ b * k < a + b

/-- A slew travel for a gust and a rate in one direction: reaction, braking and drift, each rounded up, and the slew margin,
saturated at 32,768. -/
def Parts.SlewTravel (r : CraneRecord) (gust rate travel : Nat) : Prop :=
  ∃ re br dr, Parts.RoundedUp (rate * r.reactionTime) 1000 re ∧ Parts.RoundedUp (rate ^ 2) (2 * r.slewDecel) br ∧
    Parts.RoundedUp (gust * r.driftCoeff) 10 dr ∧ travel = min 32768 (re + br + dr + r.slewMargin)

/-- A radial travel for a speed in one direction: reaction and braking, each rounded up, and the radius margin. -/
def Parts.RadialTravel (r : CraneRecord) (speed travel : Nat) : Prop :=
  ∃ re br, Parts.RoundedUp (speed * r.reactionTime) 1000 re ∧ Parts.RoundedUp (speed ^ 2) (2 * r.radialDecel) br ∧
    travel = re + br + r.radiusMargin

/-- Stages 1 to 3, for a gust: the travels of both directions from the positive and the negative part of each rate, the
stopping bearings modulo 65,536 and stopping radii, the angular span as the sectors met by the arc from the
counter-clockwise to the clockwise one, each once, and the radial span as the bands met between the radii; the structure
reach with its bands, and the tip band of a LUFFING crane. -/
def Parts.SpansCoverTravel : Prop :=
  ∀ (r : CraneRecord) (gust : Nat) (p : Pose), 0 < r.slewDecel → 0 < r.radialDecel →
    let e := envelope r gust p
    Parts.SlewTravel r gust (max p.slewRate 0).toNat e.cwTravel ∧
    Parts.SlewTravel r gust (max (-p.slewRate) 0).toNat e.ccwTravel ∧
    Parts.RadialTravel r (max p.radialSpeed 0).toNat e.outTravel ∧
    Parts.RadialTravel r (max (-p.radialSpeed) 0).toNat e.inTravel ∧
    e.cwStop = (p.siteBearing + e.cwTravel) % 65536 ∧ e.ccwStop < 65536 ∧
    (e.ccwStop + e.ccwTravel) % 65536 = p.siteBearing % 65536 ∧
    (∀ sec, sec ∈ e.span ↔ ∃ d, d ≤ e.ccwTravel + e.cwTravel ∧ sec = sectorOf ((e.ccwStop + d) % 65536)) ∧ e.span.Nodup ∧
    e.outRadius = min (p.radius + e.outTravel) r.jibLength ∧
    (e.inRadius : Int) = max ((p.radius : Int) - e.inTravel) r.minRadius ∧
    ((∀ i, i < 8 → r.edge i < r.edge (i + 1)) → r.minRadius ≤ p.radius → p.radius ≤ r.jibLength →
      ∀ b, b ∈ e.radial ↔ ∃ x, e.inRadius ≤ x ∧ x ≤ e.outRadius ∧ b = r.band x) ∧
    (r.kind = .flat → e.reach = r.jibLength ∧ e.tip = none) ∧
    (r.kind = .luffing → e.reach = min (e.outRadius + r.tipOverhang.getD 0) r.jibLength ∧
      e.tip = some (r.band (min (r.edge ((r.band e.outRadius).val + 1) + r.tipOverhang.getD 0) r.jibLength))) ∧
    ∀ b, b ∈ e.bands ↔ b = 0 ∨ r.edge b.val < e.reach

/-- A zone is in the occupancy set when the jib cell of a structure band or the hook cell in the crane's sector, or the tail
cell opposite, is SHARED with it; and in the reach set when such a cell of a sector of the angular span is, with the tip
band's jib cell and the hook cells of the radial span. -/
def Parts.OccupancyAndReach : Prop :=
  ∀ (r : CraneRecord) (sl : CraneSlot) (e : Envelope) (p : Pose) (z : ZoneId),
    (z ∈ zonesAmong sl (presentCells r e p) ↔
      (∃ b ∈ e.bands, gridCell sl.jib (sectorOf p.siteBearing) b = .shared z) ∨
      tailCell sl.tail (sectorOf p.siteBearing + 64) = .shared z ∨
      gridCell sl.hook (sectorOf p.siteBearing) (r.band p.radius) = .shared z) ∧
    (z ∈ reachSet sl e ↔ ∃ sec ∈ e.span,
      (∃ b, (b ∈ e.bands ∨ e.tip = some b) ∧ gridCell sl.jib sec b = .shared z) ∨
      tailCell sl.tail (sec + 64) = .shared z ∨ ∃ b ∈ e.radial, gridCell sl.hook sec b = .shared z)

/-- The jib cell at the tip of a LUFFING crane whose hook stands at the inner edge of a band, in a sector. -/
def Parts.tipCell (r : CraneRecord) (sl : CraneSlot) (sec : Sector) (b : Band) : Cell :=
  gridCell sl.jib sec (r.band (min (r.edge b.val + r.tipOverhang.getD 0) r.jibLength))

/-- A band blocks the outward walk: a hook cell of it in the angular span, or for a LUFFING crane the jib cell of its tip
there, is not permitted, or its capacity is below the load. -/
def Parts.BlocksOut (r : CraneRecord) (sl : CraneSlot) (m : Permits) (e : Envelope) (p : Pose) (b : Band) : Prop :=
  sl.capacity b < p.load ∨ ∃ sec ∈ e.span, m.allows .hook (gridCell sl.hook sec b) = false ∨
    (r.kind = .luffing ∧ m.allows .jib (Parts.tipCell r sl sec b) = false)

/-- A band blocks the inward walk: a hook cell of it in the angular span is not permitted. -/
def Parts.BlocksIn (sl : CraneSlot) (m : Permits) (e : Envelope) (b : Band) : Prop :=
  ∃ sec ∈ e.span, m.allows .hook (gridCell sl.hook sec b) = false

/-- A cell of a class blocks the outward walk in a band: a hook cell of it in the angular span that is not permitted, or for a
LUFFING crane the jib cell of its tip there. -/
def Parts.BlockedOutBy (r : CraneRecord) (sl : CraneSlot) (m : Permits) (e : Envelope) (b : Band) (x : Cell) : Prop :=
  ∃ sec ∈ e.span, (m.allows .hook (gridCell sl.hook sec b) = false ∧ gridCell sl.hook sec b = x) ∨
    (r.kind = .luffing ∧ m.allows .jib (Parts.tipCell r sl sec b) = false ∧ Parts.tipCell r sl sec b = x)

/-- A cell of a class blocks the inward walk in a band: a hook cell of it in the angular span that is not permitted. -/
def Parts.BlockedInBy (sl : CraneSlot) (m : Permits) (e : Envelope) (b : Band) (x : Cell) : Prop :=
  ∃ sec ∈ e.span, m.allows .hook (gridCell sl.hook sec b) = false ∧ gridCell sl.hook sec b = x

/-- The radial walks stop at the first band that blocks, outward and inward of the crane's own: the boundary is that band's
inner edge with the limit 1 mm inside it, and inward its outer edge; the cells found are those that block there, and outward
the chart is a cause of its own. With no such band the limits are the jib length and the minimum radius. -/
def Parts.RadialWalksEnd : Prop :=
  ∀ (r : CraneRecord) (sl : CraneSlot) (m : Permits) (e : Envelope) (p : Pose),
    let w := walks r sl m e p
    let own := r.band p.radius
    (∀ b, own < b → Parts.BlocksOut r sl m e p b → (∀ k, own < k → k < b → ¬ Parts.BlocksOut r sl m e p k) →
      ∃ x, w.out = some x ∧ x.walk.boundary = r.edge b.val ∧ x.walk.distance = r.edge b.val - p.radius ∧
        (x.chart = true ↔ sl.capacity b < p.load) ∧ (∀ k, k ∈ x.cells ↔ Parts.BlockedOutBy r sl m e b k) ∧
        outwardLimit r w.out = r.edge b.val - 1) ∧
    ((∀ b, own < b → ¬ Parts.BlocksOut r sl m e p b) → w.out = none ∧ outwardLimit r w.out = r.jibLength) ∧
    (∀ b, b < own → Parts.BlocksIn sl m e b → (∀ k, b < k → k < own → ¬ Parts.BlocksIn sl m e k) →
      ∃ x, w.inw = some x ∧ x.walk.boundary = r.edge (b.val + 1) ∧ x.walk.distance = p.radius - r.edge (b.val + 1) ∧
        x.chart = false ∧ (∀ k, k ∈ x.cells ↔ Parts.BlockedInBy sl m e b k) ∧ inwardLimit r w.inw = r.edge (b.val + 1)) ∧
    ((∀ b, b < own → ¬ Parts.BlocksIn sl m e b) → w.inw = none ∧ inwardLimit r w.inw = r.minRadius)

/-- A walk ends within a distance. -/
def Parts.EndsWithin (w : Option Ending) (bound : Nat) : Prop := ∃ x, w = some x ∧ x.walk.distance ≤ bound

/-- The decision of each direction: STOP for an unbounded slew direction with a boundary, for a boundary within the travel,
and outward for an overload; SLOW for a boundary within the travel and the slow band, or a SLOW hook cell in both spans;
CLEAR otherwise. -/
def Parts.DecisionsAreMade : Prop :=
  ∀ (r : CraneRecord) (sl : CraneSlot) (m : Permits) (e : Envelope) (p : Pose) (slow : Prop),
    (slow ↔ ∃ sec ∈ e.span, ∃ b ∈ e.radial, gridCell sl.hook sec b = .slow) →
    let w := walks r sl m e p
    w.cw = cwWalk sl m e p.siteBearing ∧ w.ccw = ccwWalk sl m e p.siteBearing ∧
    (w.overload = true ↔ sl.capacity (r.band p.radius) < p.load) ∧
    (w.cwDecision = .stop ↔ (e.cwTravel = 32768 ∧ w.cw ≠ none) ∨ Parts.EndsWithin w.cw e.cwTravel) ∧
    (w.ccwDecision = .stop ↔ (e.ccwTravel = 32768 ∧ w.ccw ≠ none) ∨ Parts.EndsWithin w.ccw e.ccwTravel) ∧
    (w.outDecision = .stop ↔ w.overload = true ∨ Parts.EndsWithin w.out e.outTravel) ∧
    (w.inDecision = .stop ↔ Parts.EndsWithin w.inw e.inTravel) ∧
    (w.cwDecision ≠ .stop → (w.cwDecision = .slow ↔ Parts.EndsWithin w.cw (e.cwTravel + r.slowBand) ∨ slow)) ∧
    (w.ccwDecision ≠ .stop → (w.ccwDecision = .slow ↔ Parts.EndsWithin w.ccw (e.ccwTravel + r.slowBand) ∨ slow)) ∧
    (w.outDecision ≠ .stop → (w.outDecision = .slow ↔ Parts.EndsWithin w.out (e.outTravel + r.radialSlowBand) ∨ slow)) ∧
    (w.inDecision ≠ .stop → (w.inDecision = .slow ↔ Parts.EndsWithin w.inw (e.inTravel + r.radialSlowBand) ∨ slow))

/-- A walk asserts a zone within a bound: it ended, not at the chart, at cells that are all SHARED with that one zone. -/
def Parts.Asserts (w : Option Ending) (bound : Nat) (z : ZoneId) : Prop :=
  ∃ x, w = some x ∧ x.walk.distance ≤ bound ∧ x.chart = false ∧ x.cells ≠ [] ∧ ∀ k ∈ x.cells, k = .shared z

/-- The transit assertions: the zones that a slew walk asserts within travel and look-ahead, or a radial walk within travel
and radial slow band. -/
def Parts.TransitAssertions : Prop :=
  ∀ (r : CraneRecord) (e : Envelope) (w : Walks) (z : ZoneId), z ∈ assertions r e w ↔
    Parts.Asserts w.cw (e.cwTravel + r.lookAhead) z ∨ Parts.Asserts w.ccw (e.ccwTravel + r.lookAhead) z ∨
    Parts.Asserts w.out (e.outTravel + r.radialSlowBand) z ∨ Parts.Asserts w.inw (e.inTravel + r.radialSlowBand) z

/-- The slew walks stop at the first sector that blocks, counted from the crane's own: clockwise the boundary is the
beginning of that sector, and counter-clockwise its end; the cells found are those that block there. With no such sector
among the other 127 there is none. -/
def Parts.SlewWalksEnd : Prop :=
  ∀ (sl : CraneSlot) (m : Permits) (e : Envelope) (bearing : Nat), bearing < 65536 →
    let own := sectorOf bearing
    (∀ k : Nat, 1 ≤ k → k ≤ 127 → Parts.Blocks sl m e (own + Fin.ofNat 128 k) →
      (∀ j : Nat, 1 ≤ j → j < k → ¬ Parts.Blocks sl m e (own + Fin.ofNat 128 j)) →
      ∃ w, cwWalk sl m e bearing = some w ∧ w.walk.boundary = (own + Fin.ofNat 128 k).val * 512 ∧
        w.walk.distance = (w.walk.boundary + 65536 - bearing) % 65536 ∧ w.chart = false ∧
        (∀ x, x ∈ w.cells ↔ Parts.BlockedBy sl m e (own + Fin.ofNat 128 k) x) ∧
        cwLimit (some w) = some ((w.walk.boundary + 65535) % 65536)) ∧
    (∀ k : Nat, 1 ≤ k → k ≤ 127 → Parts.Blocks sl m e (own - Fin.ofNat 128 k) →
      (∀ j : Nat, 1 ≤ j → j < k → ¬ Parts.Blocks sl m e (own - Fin.ofNat 128 j)) →
      ∃ w, ccwWalk sl m e bearing = some w ∧ w.walk.boundary = ((own - Fin.ofNat 128 k).val + 1) * 512 % 65536 ∧
        w.walk.distance = (bearing + 65536 - w.walk.boundary) % 65536 ∧ w.chart = false ∧
        (∀ x, x ∈ w.cells ↔ Parts.BlockedBy sl m e (own - Fin.ofNat 128 k) x) ∧ ccwLimit (some w) = some w.walk.boundary) ∧
    ((∀ sec, sec ≠ own → ¬ Parts.Blocks sl m e sec) → cwWalk sl m e bearing = none ∧ ccwWalk sl m e bearing = none)

/-- What the Envelope Engine finds for a pose and a gust: travels and spans, occupancy and reach, where the walks end and at
which cells, the decisions and the transit assertions. -/
def Obligations.WalkEndsAtFirstBlock : Prop :=
  Parts.SpansCoverTravel ∧ Parts.OccupancyAndReach ∧ Parts.SlewWalksEnd ∧ Parts.RadialWalksEnd ∧
    Parts.DecisionsAreMade ∧ Parts.TransitAssertions

/-- Cell permission: FREE and SLOW cells always; a SHARED cell of a zone the crane holds by a claim of any kind or has in its
evict set; a FORBIDDEN jib or tail cell while release is in force; a FORBIDDEN_LOADED cell below the empty-load threshold;
and with the recovery flag every cell. -/
def Parts.CellPermission : Prop :=
  ∀ (c : Slot) (recovery : Bool) (p : Pose) (t : CellTable) (s : State),
    let m := s.permits c recovery p
    m.allows t .free = true ∧ m.allows t .slow = true ∧
    (∀ z, m.allows t (.shared z) = true ↔
      recovery = true ∨ (∃ ref, (s.zone z).holding = .held c ref) ∨ z ∈ (s.engine c).evict) ∧
    (m.allows t .forbidden = true ↔ recovery = true ∨
      (t ≠ .hook ∧ s.effective c = .storm ∧ ((s.engine c).latch = true ∨
        ∃ k, (s.engine c).record = some k ∧ k.frame.mode = .stormRelease))) ∧
    (m.allows t .forbiddenLoaded = true ↔ recovery = true ∨ p.load < s.profile.emptyLoad)

/-- The zones a crane no longer occupies leave its evict set, and the crane leaves their evictees; no other zone and no other
crane's evict set changes. -/
def Parts.EvictionEnds : Prop :=
  ∀ (c : Slot) (s : State),
    let t := endEvictions c s
    t.engine c =
      { s.engine c with evict := (s.engine c).evict.filter fun z => (s.engine c).occupancy.contains z } ∧
    (∀ d, d ≠ c → t.engine d = s.engine d) ∧
    (∀ z, z ∈ (s.engine c).evict → z ∉ (s.engine c).occupancy →
      t.zone z = { s.zone z with evictees := (s.zone z).evictees.filter fun o => o != c }) ∧
    (∀ z, z ∉ (s.engine c).evict ∨ z ∈ (s.engine c).occupancy → t.zone z = s.zone z)

/-- The recovery check of a computation. In FAULT(INTRUSION) with no flag standing, a check that finds every present cell
permitted ends the fault by the recovery path: the crane is IN_SERVICE in OPERATE when it had joined, and JOINING else, and
its recovery flag is cleared; a standing flag holds it in FAULT with its condition met; a check that finds a cell not
permitted is recorded and makes the condition not met. In LOCKOUT the check is recorded and changes nothing else. -/
def Parts.RecoveryIsJudged : Prop :=
  ∀ (c : Slot) (s : State),
    (∀ f, (s.crane c).state = .fault → (s.crane c).fault = some f → f.cause = .intrusion →
      (s.flagStands c = false →
        let t := judgePresent c false none (some .clear) s
        (t.crane c).state = (if s.geo.mode = .operate ∧ f.unjoined = false then .inService else .joining) ∧
          (t.crane c).fault = none ∧
          (t.crane c).faultContext = (s.crane c).faultContext.map (·.endIn .recovery s.now) ∧
          (t.engine c).recovery = false ∧ (t.channel c).reasons.fault = false ∧
          ∀ d, d ≠ c → t.crane d = s.crane d) ∧
      (s.flagStands c = true →
        (judgePresent c false none (some .clear) s).crane c =
          { s.crane c with check := some .clear, fault := some { f with conditionMet := true } }) ∧
      ∀ x, (judgePresent c false none (some (.cell x)) s).crane c =
        { s.crane c with check := some (.cell x), fault := some { f with conditionMet := false } }) ∧
    ((s.crane c).state = .lockout → (s.crane c).fault = none → ∀ k,
      (judgePresent c false none (some k) s).crane c = { s.crane c with check := some k } ∧
        (judgePresent c false none (some k) s).engine c = s.engine c)

/-- The mode of a computed frame: the first that applies of a latched release in STORM, LOCKOUT, FAULT, JOINING, an evict set
that is not empty, storm-ready in STORM, STORM, and otherwise NORMAL. A crane in service is storm-ready with its storm record
secured, its hook at or above the park height and at or within the park radius, and its load below the threshold. -/
def Parts.ModeTable : Prop :=
  ∀ (c : Slot) (secured : Bool) (evict : List ZoneId) (p : Pose) (s : State), (s.crane c).state ≠ .offline →
    let mode := s.frameMode c secured evict p
    ((s.engine c).latch = true ∧ s.effective c = .storm → mode = .stormRelease) ∧
    ((s.engine c).latch = false ∨ s.effective c ≠ .storm →
      ((s.crane c).state = .lockout → mode = .lockout) ∧ ((s.crane c).state = .fault → mode = .fault) ∧
      ((s.crane c).state = .joining → mode = .holdPosition) ∧
      ((s.crane c).state = .inService →
        (evict ≠ [] → mode = .evict) ∧
        (evict = [] → s.effective c = .storm →
          (secured = true ∧ s.profile.parkHeight ≤ p.hookHeight ∧ p.radius ≤ s.profile.parkRadius ∧
            p.load < s.profile.emptyLoad → mode = .stormRelease) ∧
          (secured = false ∨ p.hookHeight < s.profile.parkHeight ∨ s.profile.parkRadius < p.radius ∨
            s.profile.emptyLoad ≤ p.load → mode = .storm)) ∧
        (evict = [] → s.effective c ≠ .storm → mode = .normal)))

/-- The computed frame obeys its mode: caps of 0 in HOLD_POSITION, STORM_RELEASE, and without recovery in FAULT and LOCKOUT;
none above the creep cap in EVICT and with recovery; 0, the slow cap or 100 by the decision in NORMAL and STORM. The hoist
is LOWER_ONLY in NORMAL at HOLD with a load and in EVICT, FAULT, LOCKOUT and HOLD_POSITION, PARK in STORM and STORM_RELEASE
and otherwise FREE. Brake release is permitted in STORM_RELEASE alone, and HOLD_POSITION sets no limit bearing. -/
def Parts.FrameOfMode : Prop :=
  ∀ (f : SiteProfile) (r : CraneRecord) (wind : WindLevel) (recovery : Bool) (mode : FrameMode) (w : Walks) (p : Pose),
    let k := buildFrame f r wind recovery mode w p
    k.mode = mode ∧ (k.brakeRelease = true ↔ mode = .stormRelease) ∧
    (mode = .holdPosition ∨ mode = .stormRelease ∨ ((mode = .fault ∨ mode = .lockout) ∧ recovery = false) →
      k.cwCap = 0 ∧ k.ccwCap = 0 ∧ k.outCap = 0 ∧ k.inCap = 0) ∧
    (mode = .evict ∨ ((mode = .fault ∨ mode = .lockout) ∧ recovery = true) →
      k.cwCap ≤ f.creepCap ∧ k.ccwCap ≤ f.creepCap ∧ k.outCap ≤ f.creepCap ∧ k.inCap ≤ f.creepCap) ∧
    (mode ≠ .survey → (w.cwDecision = .stop → k.cwCap = 0) ∧ (w.ccwDecision = .stop → k.ccwCap = 0) ∧
      (w.outDecision = .stop → k.outCap = 0) ∧ (w.inDecision = .stop → k.inCap = 0)) ∧
    (mode = .normal ∨ mode = .storm →
      (w.cwDecision = .slow → k.cwCap = f.slowCap) ∧ (w.cwDecision = .clear → k.cwCap = 100) ∧
      (w.ccwDecision = .slow → k.ccwCap = f.slowCap) ∧ (w.ccwDecision = .clear → k.ccwCap = 100) ∧
      (w.outDecision = .slow → k.outCap = f.slowCap) ∧ (w.outDecision = .clear → k.outCap = 100) ∧
      (w.inDecision = .slow → k.inCap = f.slowCap) ∧ (w.inDecision = .clear → k.inCap = 100)) ∧
    (mode = .holdPosition → k.cwLimit = none ∧ k.ccwLimit = none ∧ k.outLimit = r.jibLength ∧ k.inLimit = r.minRadius) ∧
    (mode = .normal → k.hoist = if wind = .hold ∧ f.emptyLoad ≤ p.load then .lowerOnly else .free) ∧
    (mode = .storm ∨ mode = .stormRelease → k.hoist = .park) ∧
    (mode = .evict ∨ mode = .fault ∨ mode = .lockout ∨ mode = .holdPosition → k.hoist = .lowerOnly)

/-- The frame takes its limits from the walks in NORMAL, STORM, EVICT, FAULT and LOCKOUT, and its radius limits in
STORM_RELEASE too: a slew limit is 1 before the clockwise boundary or the counter-clockwise boundary itself, absent where the
walk found none. The caps of EVICT, and of FAULT and LOCKOUT with recovery, are the lesser of the decision's and the creep
cap. -/
def Parts.LimitsFromWalks : Prop :=
  ∀ (f : SiteProfile) (r : CraneRecord) (wind : WindLevel) (recovery : Bool) (mode : FrameMode) (w : Walks) (p : Pose),
    let k := buildFrame f r wind recovery mode w p
    (mode = .normal ∨ mode = .storm ∨ mode = .evict ∨ mode = .fault ∨ mode = .lockout →
      k.cwLimit = w.cw.map (fun x => (x.walk.boundary + 65535) % 65536) ∧ k.ccwLimit = w.ccw.map (·.walk.boundary)) ∧
    (mode ≠ .holdPosition → mode ≠ .survey →
      (w.out = none → k.outLimit = r.jibLength) ∧ (∀ x, w.out = some x → k.outLimit = x.walk.boundary - 1) ∧
      (w.inw = none → k.inLimit = r.minRadius) ∧ (∀ x, w.inw = some x → k.inLimit = x.walk.boundary)) ∧
    (mode = .stormRelease → k.cwLimit = none ∧ k.ccwLimit = none) ∧
    (mode = .evict ∨ ((mode = .fault ∨ mode = .lockout) ∧ recovery = true) →
      (w.cwDecision = .slow → k.cwCap = min f.slowCap f.creepCap) ∧ (w.cwDecision = .clear → k.cwCap = min 100 f.creepCap) ∧
      (w.ccwDecision = .slow → k.ccwCap = min f.slowCap f.creepCap) ∧
      (w.ccwDecision = .clear → k.ccwCap = min 100 f.creepCap) ∧
      (w.outDecision = .slow → k.outCap = min f.slowCap f.creepCap) ∧
      (w.outDecision = .clear → k.outCap = min 100 f.creepCap) ∧
      (w.inDecision = .slow → k.inCap = min f.slowCap f.creepCap) ∧ (w.inDecision = .clear → k.inCap = min 100 f.creepCap))

/-- The first present cell that is not permitted to crane c in u, with a recovery flag. -/
def Parts.notPermitted (c : Slot) (recovery : Bool) (sl : CraneSlot) (r : CraneRecord) (e : Envelope) (p : Pose)
    (u : State) : Option CellPos :=
  (presentCells r e p).find? fun x => !(u.permits c recovery p).allows x.table (sl.cell x)

/-- From s to t the link of crane c has been given the computed frame of k, stamped with the next generation modulo 256. A
busy line, and one that is low, goes on as it was with the frame in its limit slot; an idle high line begins it, or holds it
behind what the event itself had begun, which takes a fault that clears on a channel with a booking. -/
def Parts.FrameIsPlaced (c : Slot) (k : Computation) (s t : State) : Prop :=
  let f : StampedFrame := ⟨((s.link c).generation + 1) % 256, k.frame⟩
  let begun := (t.link c).tx = some (.limit f) ∧ (t.link c).slot = none ∧ (t.link c).lastSent = some f ∧
    (t.link c).repeatFrom = some s.now
  (t.link c).generation = f.generation ∧ (t.link c).inForce = some ⟨true, k.frame.mode⟩ ∧
  ((s.link c).tx ≠ none ∨ s.power.lowFor ≠ none →
    (t.link c).slot = some f ∧ (t.link c).tx = (s.link c).tx ∧ (t.link c).lastSent = (s.link c).lastSent ∧
      (t.link c).repeatFrom = (s.link c).repeatFrom) ∧
  ((s.link c).tx = none → s.power.lowFor = none → begun ∨ ((t.link c).slot = some f ∧ (t.link c).tx ≠ none)) ∧
  ((s.link c).tx = none → s.power.lowFor = none → (s.crane c).fault = none ∨ (s.channel c).booking = none → begun)

/-- From s to t the computation k of crane c has replaced the record, and CRANE(c) is marked when the frame's mode, the
occupancy set, the evict set, the latch or the recovery flag differ from those of the computation before. That a first
computation changes the mode too is the model's choice (log 49), of which this says nothing. -/
def Parts.ComputationIsMarked (c : Slot) (k : Computation) (s t : State) : Prop :=
  (t.engine c).evictThen = (t.engine c).evict ∧ (t.engine c).latchThen = (t.engine c).latch ∧
  (t.engine c).recoveryThen = (t.engine c).recovery ∧
  ((∃ x, (s.engine c).record = some x ∧ x.frame.mode ≠ k.frame.mode) ∨ (s.engine c).occupancy ≠ k.occupancy ∨
    (s.engine c).evictThen ≠ (t.engine c).evict ∨ (s.engine c).latchThen ≠ (t.engine c).latch ∨
    (s.engine c).recoveryThen ≠ (t.engine c).recovery → .crane ∉ s.port.masks → .crane c ∈ t.port.reports)

/-- A computation. Its envelope uses the effective gust, or the hold gust where that is unknown; u is the state after the
hand-over of occupancy and reach, whose holdings and evict set give cell permission, with the recovery flag. The first
present cell not permitted is recorded as the intrusion, and with the recovery flag set the present cells are judged a
second time as if it were clear, the latest recovery check; v is the state in which Crane State has acted on both, and whether
recovery goes on there decides the permission of the walks. Stage 7 judges the walks' overload in v, and what it leaves is the
crane's state record at the end; from there stage 8 hands the transit set to the arbiter. They give the record its boundaries, decisions and, for a crane
IN_SERVICE below STORM with a LIVE link, its transit set, and the frame its limits and caps, in the mode and with the
recovery flag of the state that results. The frame is placed on the link, and CRANE(c) marked. -/
def Parts.ComputationUsesWalks : Prop :=
  ∀ (c : Slot) (r : CraneRecord) (p : Pose) (s u v t : State) (e : Envelope) (i : Option CellPos)
    (check : Option RecoveryCheck) (w : Walks),
    e = envelope r ((s.windOf c).gust.getD s.profile.holdGust) p →
    u = handOver c ((s.crane c).state == .joining) (zonesAmong (s.slotOf c) (presentCells r e p)) (reachSet (s.slotOf c) e)
      (s.putEngine c
        { s.engine c with latch := s.effective c == .storm && (p.brakeReleased || (s.engine c).latch) }) →
    i = Parts.notPermitted c (s.engine c).recovery (s.slotOf c) r e p u →
    check = (if (s.engine c).recovery = true then
      some ((Parts.notPermitted c false (s.slotOf c) r e p u).elim RecoveryCheck.clear RecoveryCheck.cell) else none) →
    v = judgePresent c ((s.crane c).state == .joining) i check u →
    w = walks r (s.slotOf c) (u.permits c (v.engine c).recovery p) e p → t = compute c r p s →
    t.crane c = (judgeChart c w.overload v).crane c ∧
    ∃ k, (t.engine c).record = some k ∧ k.sequence = p.sequence ∧ k.poseAt = p.acceptedAt ∧ k.gustUsed = e.gust ∧
      (k.cwTravel, k.ccwTravel, k.outTravel, k.inTravel) = (e.cwTravel, e.ccwTravel, e.outTravel, e.inTravel) ∧
      (k.cwStop, k.ccwStop, k.outRadius, k.inRadius) = (e.cwStop, e.ccwStop, e.outRadius, e.inRadius) ∧
      k.occupancy = zonesAmong (s.slotOf c) (presentCells r e p) ∧ (t.engine c).occupancy = k.occupancy ∧
      (t.engine c).reach = reachSet (s.slotOf c) e ∧ k.intrusion = i ∧
      ((t.engine c).recovery = true → (s.engine c).recovery = true ∧ (t.crane c).check = check) ∧
      k.overload = w.overload ∧
      (k.cwWalk, k.ccwWalk, k.outWalk, k.inWalk) =
        (w.cw.map (·.walk), w.ccw.map (·.walk), w.out.map (·.walk), w.inw.map (·.walk)) ∧
      (k.cwDecision, k.ccwDecision, k.outDecision, k.inDecision) =
        (w.cwDecision, w.ccwDecision, w.outDecision, w.inDecision) ∧
      k.transit =
        (if (t.crane c).state = .inService ∧ (s.link c).state = .live ∧ s.effective c ≠ .storm then assertions r e w
        else []) ∧
      (t.engine c).transit = k.transit ∧ t.arb = (transitHandOver c k.transit (judgeChart c w.overload v)).arb ∧
      k.frame = buildFrame s.profile r (s.effective c) (t.engine c).recovery
        (t.frameMode c (s.stormSecured c) (u.engine c).evict p) w p ∧
      Parts.FrameIsPlaced c k s t ∧ Parts.ComputationIsMarked c k s t

/-- What a computed frame allows, from the cells and the evict set to its mode, limits and caps, how recovery is judged, and
how a computation, with recovery or without, ties the walks into its record and frame, leaves the crane as its stages 5 and 7 do,
hands its transit set to the arbiter and places the frame. -/
def Obligations.FrameObeysMode : Prop :=
  Parts.CellPermission ∧ Parts.EvictionEnds ∧ Parts.RecoveryIsJudged ∧ Parts.ModeTable ∧ Parts.FrameOfMode ∧
    Parts.LimitsFromWalks ∧ Parts.ComputationUsesWalks

/-! ## What every command keeps -/

/-- State.reset meets every invariant stated below. -/
def Obligations.ResetIsWellKept : Prop :=
  State.reset.port.WellKept ∧ (∀ c, (State.reset.link c).WellKept) ∧ State.reset.WindWellKept ∧
    State.reset.NumbersUnique ∧ State.reset.SurveyIdle ∧ State.reset.BookingsAgree ∧ State.reset.ArbiterBounded

/-- Every step keeps the Site Port well kept: each report key at most once and none of a masked kind, at most four queued
requests, each error flag at most once. -/
def Obligations.PortStaysWellKept : Prop :=
  ∀ s t : State, s.port.WellKept → step s = .next t → t.port.WellKept

/-- Every step keeps the links well kept, with at most four notices, a streak of at most 255, an 8-bit generation and a
16-bit ACK count; and keeps every effective wind state the higher of the own state and the declaration, that of an
unconfigured slot too (the model's choice, log 43). -/
def Obligations.LinksAndWindStayWellKept : Prop :=
  (∀ s t : State, (∀ c, (s.link c).WellKept) → step s = .next t → ∀ c, (t.link c).WellKept) ∧
    ∀ s t : State, s.WindWellKept → step s = .next t → t.WindWellKept

/-- Every step keeps the booking numbers of the table distinct. -/
def Obligations.BookingNumbersStayUnique : Prop := ∀ s t : State, s.NumbersUnique → step s = .next t → t.NumbersUnique

/-- Every step keeps it so that no crane is IN_SERVICE while the part is in SURVEY. -/
def Obligations.SurveyHasNoneInService : Prop := ∀ s t : State, s.SurveyIdle → step s = .next t → t.SurveyIdle

/-- Every step keeps the arbiter bounded, with at most 96 pool records and each zone that a storm record holds held by that
record's crane; and keeps bookings and channels in agreement, by which a crane has at most one INTERRUPTED booking, and a
crane in LOCKOUT or OFFLINE none that is READY, RUNNING or INTERRUPTED. -/
def Obligations.BookingsAndPoolStayWellKept : Prop :=
  (∀ s t : State, s.ArbiterBounded → step s = .next t → t.ArbiterBounded) ∧
    (∀ s t : State, s.BookingsAgree → step s = .next t → t.BookingsAgree) ∧
    ∀ s : State, s.BookingsAgree →
      (∀ x ∈ s.bookings, ∀ y ∈ s.bookings, x.crane = y.crane → x.state = .interrupted → y.state = .interrupted → x = y) ∧
      ∀ b ∈ s.bookings, ((s.crane b.crane).state = .lockout ∨ (s.crane b.crane).state = .offline) →
        b.state ≠ .ready ∧ b.state ≠ .running ∧ b.state ≠ .interrupted
end

