-- ==== Sys2Proof/Laws/PerInstr.lean ====
section
/-! SUPPORT. The statement made of every command, by constructor. -/

namespace Sys2Proof.Laws

/-- A command that carries a request carries one of the 35 kinds, and is well formed exactly when the request's fields fit
a frame (R181, R193). -/
def Fits.Statement (i : Instr) : Prop :=
  ∀ tag r, i.request? = some (tag, r) → 1 ≤ r.kind ∧ r.kind ≤ 35 ∧ i.wf = r.wf

/-- A command that carries no request. -/
theorem fits_of_none {i : Instr} (h : i.request? = none) : Fits.Statement i :=
  fun _ _ e => nomatch h.symm.trans e

/-- A command that carries a request. -/
theorem fits_of_some {i : Instr} {tag : Byte} {r : Request} (h : i.request? = some (tag, r)) (low : 1 ≤ r.kind)
    (high : r.kind ≤ 35) (w : i.wf = r.wf) : Fits.Statement i := by
  intro tag' r' e
  rw [h] at e
  cases e
  exact ⟨low, high, w⟩


theorem Fits.powerOn : Fits.Statement .powerOn :=
  fits_of_none rfl

theorem Fits.resetLine (moment : WriteMoment) : Fits.Statement (.resetLine moment) :=
  fits_of_none rfl

theorem Fits.siteReset : Fits.Statement .siteReset :=
  fits_of_none rfl

theorem Fits.siteFrame (bytes : List Byte) : Fits.Statement (.siteFrame bytes) :=
  fits_of_none rfl

theorem Fits.siteRxTimeout : Fits.Statement .siteRxTimeout :=
  fits_of_none rfl

theorem Fits.siteTxDone : Fits.Statement .siteTxDone :=
  fits_of_none rfl

theorem Fits.unknownRequest (tag : Byte) (kind : Byte) : Fits.Statement (.unknownRequest tag kind) :=
  fits_of_none rfl

theorem Fits.identify (tag : Byte) : Fits.Statement (.identify tag) :=
  fits_of_some rfl (Nat.le_of_ble_eq_true rfl) (Nat.le_of_ble_eq_true rfl) rfl

theorem Fits.reset (tag : Byte) : Fits.Statement (.reset tag) :=
  fits_of_some rfl (Nat.le_of_ble_eq_true rfl) (Nat.le_of_ble_eq_true rfl) rfl

theorem Fits.setClock (tag : Byte) (minute : Option Nat) (prescaler : Option Nat) : Fits.Statement (.setClock tag minute prescaler) :=
  fits_of_some rfl (Nat.le_of_ble_eq_true rfl) (Nat.le_of_ble_eq_true rfl) rfl

theorem Fits.readClock (tag : Byte) : Fits.Statement (.readClock tag) :=
  fits_of_some rfl (Nat.le_of_ble_eq_true rfl) (Nat.le_of_ble_eq_true rfl) rfl

theorem Fits.enterSurvey (tag : Byte) : Fits.Statement (.enterSurvey tag) :=
  fits_of_some rfl (Nat.le_of_ble_eq_true rfl) (Nat.le_of_ble_eq_true rfl) rfl

theorem Fits.leaveSurvey (tag : Byte) : Fits.Statement (.leaveSurvey tag) :=
  fits_of_some rfl (Nat.le_of_ble_eq_true rfl) (Nat.le_of_ble_eq_true rfl) rfl

theorem Fits.nvWriteDone (ok : Bool) : Fits.Statement (.nvWriteDone ok) :=
  fits_of_none rfl

theorem Fits.loadCrane (tag : Byte) (slot : Nat) (fields : Option CraneFields) : Fits.Statement (.loadCrane tag slot fields) :=
  fits_of_some rfl (Nat.le_of_ble_eq_true rfl) (Nat.le_of_ble_eq_true rfl) rfl

theorem Fits.loadCells (tag : Byte) (slot : Nat) (table : CellTable) (first count : Nat) (classes : List Byte) : Fits.Statement (.loadCells tag slot table first count classes) :=
  fits_of_some rfl (Nat.le_of_ble_eq_true rfl) (Nat.le_of_ble_eq_true rfl) rfl

theorem Fits.loadChart (tag : Byte) (slot : Nat) (capacities : Vector Nat 8) : Fits.Statement (.loadChart tag slot capacities) :=
  fits_of_some rfl (Nat.le_of_ble_eq_true rfl) (Nat.le_of_ble_eq_true rfl) rfl

theorem Fits.loadProfile (tag : Byte) (profile : SiteProfile) : Fits.Statement (.loadProfile tag profile) :=
  fits_of_some rfl (Nat.le_of_ble_eq_true rfl) (Nat.le_of_ble_eq_true rfl) rfl

theorem Fits.loadPlan (tag : Byte) (number : Nat) (steps : List StepField) : Fits.Statement (.loadPlan tag number steps) :=
  fits_of_some rfl (Nat.le_of_ble_eq_true rfl) (Nat.le_of_ble_eq_true rfl) rfl

theorem Fits.book (tag : Byte) (fields : BookFields) : Fits.Statement (.book tag fields) :=
  fits_of_some rfl (Nat.le_of_ble_eq_true rfl) (Nat.le_of_ble_eq_true rfl) rfl

theorem Fits.cancel (tag : Byte) (number : Nat) : Fits.Statement (.cancel tag number) :=
  fits_of_some rfl (Nat.le_of_ble_eq_true rfl) (Nat.le_of_ble_eq_true rfl) rfl

theorem Fits.suspendChannel (tag : Byte) (slot : Nat) : Fits.Statement (.suspendChannel tag slot) :=
  fits_of_some rfl (Nat.le_of_ble_eq_true rfl) (Nat.le_of_ble_eq_true rfl) rfl

theorem Fits.resumeChannel (tag : Byte) (slot : Nat) : Fits.Statement (.resumeChannel tag slot) :=
  fits_of_some rfl (Nat.le_of_ble_eq_true rfl) (Nat.le_of_ble_eq_true rfl) rfl

theorem Fits.stepMode (tag : Byte) (slot : Nat) (on : Bool) : Fits.Statement (.stepMode tag slot on) :=
  fits_of_some rfl (Nat.le_of_ble_eq_true rfl) (Nat.le_of_ble_eq_true rfl) rfl

theorem Fits.continueStep (tag : Byte) (slot : Nat) : Fits.Statement (.continueStep tag slot) :=
  fits_of_some rfl (Nat.le_of_ble_eq_true rfl) (Nat.le_of_ble_eq_true rfl) rfl

theorem Fits.closeZone (tag : Byte) (zone : Nat) : Fits.Statement (.closeZone tag zone) :=
  fits_of_some rfl (Nat.le_of_ble_eq_true rfl) (Nat.le_of_ble_eq_true rfl) rfl

theorem Fits.openZone (tag : Byte) (zone : Nat) : Fits.Statement (.openZone tag zone) :=
  fits_of_some rfl (Nat.le_of_ble_eq_true rfl) (Nat.le_of_ble_eq_true rfl) rfl

theorem Fits.forceRelease (tag : Byte) (zone : Nat) : Fits.Statement (.forceRelease tag zone) :=
  fits_of_some rfl (Nat.le_of_ble_eq_true rfl) (Nat.le_of_ble_eq_true rfl) rfl

theorem Fits.declareWind (tag : Byte) (level : Nat) : Fits.Statement (.declareWind tag level) :=
  fits_of_some rfl (Nat.le_of_ble_eq_true rfl) (Nat.le_of_ble_eq_true rfl) rfl

theorem Fits.clearFault (tag : Byte) (slot : Nat) : Fits.Statement (.clearFault tag slot) :=
  fits_of_some rfl (Nat.le_of_ble_eq_true rfl) (Nat.le_of_ble_eq_true rfl) rfl

theorem Fits.recover (tag : Byte) (slot : Nat) : Fits.Statement (.recover tag slot) :=
  fits_of_some rfl (Nat.le_of_ble_eq_true rfl) (Nat.le_of_ble_eq_true rfl) rfl

theorem Fits.clearLockout (tag : Byte) (slot : Nat) : Fits.Statement (.clearLockout tag slot) :=
  fits_of_some rfl (Nat.le_of_ble_eq_true rfl) (Nat.le_of_ble_eq_true rfl) rfl

theorem Fits.removeCrane (tag : Byte) (slot : Nat) : Fits.Statement (.removeCrane tag slot) :=
  fits_of_some rfl (Nat.le_of_ble_eq_true rfl) (Nat.le_of_ble_eq_true rfl) rfl

theorem Fits.admitCrane (tag : Byte) (slot : Nat) : Fits.Statement (.admitCrane tag slot) :=
  fits_of_some rfl (Nat.le_of_ble_eq_true rfl) (Nat.le_of_ble_eq_true rfl) rfl

theorem Fits.relay (tag : Byte) (dest : RelayDest) (code : Byte) (ackRequest : Bool) (text : List Byte) : Fits.Statement (.relay tag dest code ackRequest text) :=
  fits_of_some rfl (Nat.le_of_ble_eq_true rfl) (Nat.le_of_ble_eq_true rfl) rfl

theorem Fits.readCrane (tag : Byte) (slot : Nat) : Fits.Statement (.readCrane tag slot) :=
  fits_of_some rfl (Nat.le_of_ble_eq_true rfl) (Nat.le_of_ble_eq_true rfl) rfl

theorem Fits.readZone (tag : Byte) (zone : Nat) : Fits.Statement (.readZone tag zone) :=
  fits_of_some rfl (Nat.le_of_ble_eq_true rfl) (Nat.le_of_ble_eq_true rfl) rfl

theorem Fits.readBooking (tag : Byte) (number : Nat) : Fits.Statement (.readBooking tag number) :=
  fits_of_some rfl (Nat.le_of_ble_eq_true rfl) (Nat.le_of_ble_eq_true rfl) rfl

theorem Fits.readChannel (tag : Byte) (slot : Nat) : Fits.Statement (.readChannel tag slot) :=
  fits_of_some rfl (Nat.le_of_ble_eq_true rfl) (Nat.le_of_ble_eq_true rfl) rfl

theorem Fits.readWind (tag : Byte) (slot : Nat) : Fits.Statement (.readWind tag slot) :=
  fits_of_some rfl (Nat.le_of_ble_eq_true rfl) (Nat.le_of_ble_eq_true rfl) rfl

theorem Fits.readFault (tag : Byte) (slot : Nat) : Fits.Statement (.readFault tag slot) :=
  fits_of_some rfl (Nat.le_of_ble_eq_true rfl) (Nat.le_of_ble_eq_true rfl) rfl

theorem Fits.readErrors (tag : Byte) : Fits.Statement (.readErrors tag) :=
  fits_of_some rfl (Nat.le_of_ble_eq_true rfl) (Nat.le_of_ble_eq_true rfl) rfl

theorem Fits.setReportMask (tag : Byte) (masked : List KeyKind) : Fits.Statement (.setReportMask tag masked) :=
  fits_of_some rfl (Nat.le_of_ble_eq_true rfl) (Nat.le_of_ble_eq_true rfl) rfl

theorem Fits.poseReport (c : Slot) (pose : PoseFrame) : Fits.Statement (.poseReport c pose) :=
  fits_of_none rfl

theorem Fits.cabBadFrame (c : Slot) (bytes : List Byte) : Fits.Statement (.cabBadFrame c bytes) :=
  fits_of_none rfl

theorem Fits.estop (c : Slot) : Fits.Statement (.estop c) :=
  fits_of_none rfl

theorem Fits.ackMessage (c : Slot) (code : Byte) : Fits.Statement (.ackMessage c code) :=
  fits_of_none rfl

theorem Fits.linkStale (c : Slot) : Fits.Statement (.linkStale c) :=
  fits_of_none rfl

theorem Fits.linkLost (c : Slot) : Fits.Statement (.linkLost c) :=
  fits_of_none rfl

theorem Fits.limitRepeat (c : Slot) : Fits.Statement (.limitRepeat c) :=
  fits_of_none rfl

theorem Fits.cabTxDone (c : Slot) : Fits.Statement (.cabTxDone c) :=
  fits_of_none rfl

theorem Fits.claimRetry (c : Slot) : Fits.Statement (.claimRetry c) :=
  fits_of_none rfl

theorem Fits.dwellExpiry (z : ZoneId) : Fits.Statement (.dwellExpiry z) :=
  fits_of_none rfl

theorem Fits.minuteAdvance : Fits.Statement .minuteAdvance :=
  fits_of_none rfl

theorem Fits.holdTick : Fits.Statement .holdTick :=
  fits_of_none rfl

theorem Fits.holdComplete (c : Slot) : Fits.Statement (.holdComplete c) :=
  fits_of_none rfl

theorem Fits.bucketClose : Fits.Statement .bucketClose :=
  fits_of_none rfl

theorem Fits.calmDownExpiry (c : Slot) : Fits.Statement (.calmDownExpiry c) :=
  fits_of_none rfl

theorem Fits.stormAfterHoldExpiry (c : Slot) : Fits.Statement (.stormAfterHoldExpiry c) :=
  fits_of_none rfl

theorem Fits.calmTimerExpiry (c : Slot) : Fits.Statement (.calmTimerExpiry c) :=
  fits_of_none rfl

theorem Fits.waitLimitExpiry (c : Slot) : Fits.Statement (.waitLimitExpiry c) :=
  fits_of_none rfl

theorem Fits.claimLost (c : Slot) : Fits.Statement (.claimLost c) :=
  fits_of_none rfl

theorem Fits.nextStep (c : Slot) : Fits.Statement (.nextStep c) :=
  fits_of_none rfl

theorem Fits.lossOfPower (moment : WriteMoment) : Fits.Statement (.lossOfPower moment) :=
  fits_of_none rfl

theorem Fits.resetLineLow : Fits.Statement .resetLineLow :=
  fits_of_none rfl

theorem Fits.badStopBit : Fits.Statement .badStopBit :=
  fits_of_none rfl

end Sys2Proof.Laws
end

