-- ==== Sys2Proof/Laws/State.lean ====
section
/-! SUPPORT. The small lemmas of the state's updates: each update leaves every other field as it was (true by
unfolding), and reading back what was put. -/

namespace Sys2Proof.Machine

/-! ## Fields that an update leaves -/

@[simp] theorem State.putLink_pending (s : State) (c : Slot) (x : Link) : (s.putLink c x).pending = s.pending := rfl
@[simp] theorem State.putLink_events (s : State) (c : Slot) (x : Link) : (s.putLink c x).events = s.events := rfl
@[simp] theorem State.putLink_power (s : State) (c : Slot) (x : Link) : (s.putLink c x).power = s.power := rfl
@[simp] theorem State.putLink_geo (s : State) (c : Slot) (x : Link) : (s.putLink c x).geo = s.geo := rfl
@[simp] theorem State.putLink_clock (s : State) (c : Slot) (x : Link) : (s.putLink c x).clock = s.clock := rfl
@[simp] theorem State.putLink_engines (s : State) (c : Slot) (x : Link) : (s.putLink c x).engines = s.engines := rfl
@[simp] theorem State.putLink_arb (s : State) (c : Slot) (x : Link) : (s.putLink c x).arb = s.arb := rfl
@[simp] theorem State.putLink_wind (s : State) (c : Slot) (x : Link) : (s.putLink c x).wind = s.wind := rfl
@[simp] theorem State.putLink_bookings (s : State) (c : Slot) (x : Link) : (s.putLink c x).bookings = s.bookings := rfl
@[simp] theorem State.putLink_plans (s : State) (c : Slot) (x : Link) : (s.putLink c x).plans = s.plans := rfl
@[simp] theorem State.putLink_channels (s : State) (c : Slot) (x : Link) : (s.putLink c x).channels = s.channels := rfl
@[simp] theorem State.putLink_status (s : State) (c : Slot) (x : Link) : (s.putLink c x).status = s.status := rfl
@[simp] theorem State.putLink_port (s : State) (c : Slot) (x : Link) : (s.putLink c x).port = s.port := rfl

@[simp] theorem State.putEngine_pending (s : State) (c : Slot) (x : Engine) : (s.putEngine c x).pending = s.pending := rfl
@[simp] theorem State.putEngine_events (s : State) (c : Slot) (x : Engine) : (s.putEngine c x).events = s.events := rfl
@[simp] theorem State.putEngine_power (s : State) (c : Slot) (x : Engine) : (s.putEngine c x).power = s.power := rfl
@[simp] theorem State.putEngine_geo (s : State) (c : Slot) (x : Engine) : (s.putEngine c x).geo = s.geo := rfl
@[simp] theorem State.putEngine_links (s : State) (c : Slot) (x : Engine) : (s.putEngine c x).links = s.links := rfl
@[simp] theorem State.putEngine_clock (s : State) (c : Slot) (x : Engine) : (s.putEngine c x).clock = s.clock := rfl
@[simp] theorem State.putEngine_arb (s : State) (c : Slot) (x : Engine) : (s.putEngine c x).arb = s.arb := rfl
@[simp] theorem State.putEngine_wind (s : State) (c : Slot) (x : Engine) : (s.putEngine c x).wind = s.wind := rfl
@[simp] theorem State.putEngine_bookings (s : State) (c : Slot) (x : Engine) : (s.putEngine c x).bookings = s.bookings := rfl
@[simp] theorem State.putEngine_plans (s : State) (c : Slot) (x : Engine) : (s.putEngine c x).plans = s.plans := rfl
@[simp] theorem State.putEngine_channels (s : State) (c : Slot) (x : Engine) : (s.putEngine c x).channels = s.channels := rfl
@[simp] theorem State.putEngine_status (s : State) (c : Slot) (x : Engine) : (s.putEngine c x).status = s.status := rfl
@[simp] theorem State.putEngine_port (s : State) (c : Slot) (x : Engine) : (s.putEngine c x).port = s.port := rfl

@[simp] theorem State.putChannel_pending (s : State) (c : Slot) (x : Channel) : (s.putChannel c x).pending = s.pending := rfl
@[simp] theorem State.putChannel_events (s : State) (c : Slot) (x : Channel) : (s.putChannel c x).events = s.events := rfl
@[simp] theorem State.putChannel_power (s : State) (c : Slot) (x : Channel) : (s.putChannel c x).power = s.power := rfl
@[simp] theorem State.putChannel_geo (s : State) (c : Slot) (x : Channel) : (s.putChannel c x).geo = s.geo := rfl
@[simp] theorem State.putChannel_links (s : State) (c : Slot) (x : Channel) : (s.putChannel c x).links = s.links := rfl
@[simp] theorem State.putChannel_clock (s : State) (c : Slot) (x : Channel) : (s.putChannel c x).clock = s.clock := rfl
@[simp] theorem State.putChannel_engines (s : State) (c : Slot) (x : Channel) : (s.putChannel c x).engines = s.engines := rfl
@[simp] theorem State.putChannel_arb (s : State) (c : Slot) (x : Channel) : (s.putChannel c x).arb = s.arb := rfl
@[simp] theorem State.putChannel_wind (s : State) (c : Slot) (x : Channel) : (s.putChannel c x).wind = s.wind := rfl
@[simp] theorem State.putChannel_bookings (s : State) (c : Slot) (x : Channel) : (s.putChannel c x).bookings = s.bookings := rfl
@[simp] theorem State.putChannel_plans (s : State) (c : Slot) (x : Channel) : (s.putChannel c x).plans = s.plans := rfl
@[simp] theorem State.putChannel_status (s : State) (c : Slot) (x : Channel) : (s.putChannel c x).status = s.status := rfl
@[simp] theorem State.putChannel_port (s : State) (c : Slot) (x : Channel) : (s.putChannel c x).port = s.port := rfl

@[simp] theorem State.putCrane_pending (s : State) (c : Slot) (x : CraneStatus) : (s.putCrane c x).pending = s.pending := rfl
@[simp] theorem State.putCrane_events (s : State) (c : Slot) (x : CraneStatus) : (s.putCrane c x).events = s.events := rfl
@[simp] theorem State.putCrane_power (s : State) (c : Slot) (x : CraneStatus) : (s.putCrane c x).power = s.power := rfl
@[simp] theorem State.putCrane_geo (s : State) (c : Slot) (x : CraneStatus) : (s.putCrane c x).geo = s.geo := rfl
@[simp] theorem State.putCrane_links (s : State) (c : Slot) (x : CraneStatus) : (s.putCrane c x).links = s.links := rfl
@[simp] theorem State.putCrane_clock (s : State) (c : Slot) (x : CraneStatus) : (s.putCrane c x).clock = s.clock := rfl
@[simp] theorem State.putCrane_engines (s : State) (c : Slot) (x : CraneStatus) : (s.putCrane c x).engines = s.engines := rfl
@[simp] theorem State.putCrane_arb (s : State) (c : Slot) (x : CraneStatus) : (s.putCrane c x).arb = s.arb := rfl
@[simp] theorem State.putCrane_wind (s : State) (c : Slot) (x : CraneStatus) : (s.putCrane c x).wind = s.wind := rfl
@[simp] theorem State.putCrane_bookings (s : State) (c : Slot) (x : CraneStatus) : (s.putCrane c x).bookings = s.bookings := rfl
@[simp] theorem State.putCrane_plans (s : State) (c : Slot) (x : CraneStatus) : (s.putCrane c x).plans = s.plans := rfl
@[simp] theorem State.putCrane_channels (s : State) (c : Slot) (x : CraneStatus) : (s.putCrane c x).channels = s.channels := rfl
@[simp] theorem State.putCrane_port (s : State) (c : Slot) (x : CraneStatus) : (s.putCrane c x).port = s.port := rfl

@[simp] theorem State.putWind_pending (s : State) (c : Slot) (x : Wind) : (s.putWind c x).pending = s.pending := rfl
@[simp] theorem State.putWind_events (s : State) (c : Slot) (x : Wind) : (s.putWind c x).events = s.events := rfl
@[simp] theorem State.putWind_power (s : State) (c : Slot) (x : Wind) : (s.putWind c x).power = s.power := rfl
@[simp] theorem State.putWind_geo (s : State) (c : Slot) (x : Wind) : (s.putWind c x).geo = s.geo := rfl
@[simp] theorem State.putWind_links (s : State) (c : Slot) (x : Wind) : (s.putWind c x).links = s.links := rfl
@[simp] theorem State.putWind_clock (s : State) (c : Slot) (x : Wind) : (s.putWind c x).clock = s.clock := rfl
@[simp] theorem State.putWind_engines (s : State) (c : Slot) (x : Wind) : (s.putWind c x).engines = s.engines := rfl
@[simp] theorem State.putWind_arb (s : State) (c : Slot) (x : Wind) : (s.putWind c x).arb = s.arb := rfl
@[simp] theorem State.putWind_bookings (s : State) (c : Slot) (x : Wind) : (s.putWind c x).bookings = s.bookings := rfl
@[simp] theorem State.putWind_plans (s : State) (c : Slot) (x : Wind) : (s.putWind c x).plans = s.plans := rfl
@[simp] theorem State.putWind_channels (s : State) (c : Slot) (x : Wind) : (s.putWind c x).channels = s.channels := rfl
@[simp] theorem State.putWind_status (s : State) (c : Slot) (x : Wind) : (s.putWind c x).status = s.status := rfl
@[simp] theorem State.putWind_port (s : State) (c : Slot) (x : Wind) : (s.putWind c x).port = s.port := rfl

@[simp] theorem State.putZone_pending (s : State) (z : ZoneId) (x : ZoneRecord) : (s.putZone z x).pending = s.pending := rfl
@[simp] theorem State.putZone_events (s : State) (z : ZoneId) (x : ZoneRecord) : (s.putZone z x).events = s.events := rfl
@[simp] theorem State.putZone_power (s : State) (z : ZoneId) (x : ZoneRecord) : (s.putZone z x).power = s.power := rfl
@[simp] theorem State.putZone_geo (s : State) (z : ZoneId) (x : ZoneRecord) : (s.putZone z x).geo = s.geo := rfl
@[simp] theorem State.putZone_links (s : State) (z : ZoneId) (x : ZoneRecord) : (s.putZone z x).links = s.links := rfl
@[simp] theorem State.putZone_clock (s : State) (z : ZoneId) (x : ZoneRecord) : (s.putZone z x).clock = s.clock := rfl
@[simp] theorem State.putZone_engines (s : State) (z : ZoneId) (x : ZoneRecord) : (s.putZone z x).engines = s.engines := rfl
@[simp] theorem State.putZone_wind (s : State) (z : ZoneId) (x : ZoneRecord) : (s.putZone z x).wind = s.wind := rfl
@[simp] theorem State.putZone_bookings (s : State) (z : ZoneId) (x : ZoneRecord) : (s.putZone z x).bookings = s.bookings := rfl
@[simp] theorem State.putZone_plans (s : State) (z : ZoneId) (x : ZoneRecord) : (s.putZone z x).plans = s.plans := rfl
@[simp] theorem State.putZone_channels (s : State) (z : ZoneId) (x : ZoneRecord) : (s.putZone z x).channels = s.channels := rfl
@[simp] theorem State.putZone_status (s : State) (z : ZoneId) (x : ZoneRecord) : (s.putZone z x).status = s.status := rfl
@[simp] theorem State.putZone_port (s : State) (z : ZoneId) (x : ZoneRecord) : (s.putZone z x).port = s.port := rfl

@[simp] theorem State.putStorm_pending (s : State) (c : Slot) (x : StormRecord) : (s.putStorm c x).pending = s.pending := rfl
@[simp] theorem State.putStorm_events (s : State) (c : Slot) (x : StormRecord) : (s.putStorm c x).events = s.events := rfl
@[simp] theorem State.putStorm_power (s : State) (c : Slot) (x : StormRecord) : (s.putStorm c x).power = s.power := rfl
@[simp] theorem State.putStorm_geo (s : State) (c : Slot) (x : StormRecord) : (s.putStorm c x).geo = s.geo := rfl
@[simp] theorem State.putStorm_links (s : State) (c : Slot) (x : StormRecord) : (s.putStorm c x).links = s.links := rfl
@[simp] theorem State.putStorm_clock (s : State) (c : Slot) (x : StormRecord) : (s.putStorm c x).clock = s.clock := rfl
@[simp] theorem State.putStorm_engines (s : State) (c : Slot) (x : StormRecord) : (s.putStorm c x).engines = s.engines := rfl
@[simp] theorem State.putStorm_wind (s : State) (c : Slot) (x : StormRecord) : (s.putStorm c x).wind = s.wind := rfl
@[simp] theorem State.putStorm_bookings (s : State) (c : Slot) (x : StormRecord) : (s.putStorm c x).bookings = s.bookings := rfl
@[simp] theorem State.putStorm_plans (s : State) (c : Slot) (x : StormRecord) : (s.putStorm c x).plans = s.plans := rfl
@[simp] theorem State.putStorm_channels (s : State) (c : Slot) (x : StormRecord) : (s.putStorm c x).channels = s.channels := rfl
@[simp] theorem State.putStorm_status (s : State) (c : Slot) (x : StormRecord) : (s.putStorm c x).status = s.status := rfl
@[simp] theorem State.putStorm_port (s : State) (c : Slot) (x : StormRecord) : (s.putStorm c x).port = s.port := rfl

@[simp] theorem State.putSlot_pending (s : State) (c : Slot) (x : CraneSlot) : (s.putSlot c x).pending = s.pending := rfl
@[simp] theorem State.putSlot_events (s : State) (c : Slot) (x : CraneSlot) : (s.putSlot c x).events = s.events := rfl
@[simp] theorem State.putSlot_power (s : State) (c : Slot) (x : CraneSlot) : (s.putSlot c x).power = s.power := rfl
@[simp] theorem State.putSlot_links (s : State) (c : Slot) (x : CraneSlot) : (s.putSlot c x).links = s.links := rfl
@[simp] theorem State.putSlot_clock (s : State) (c : Slot) (x : CraneSlot) : (s.putSlot c x).clock = s.clock := rfl
@[simp] theorem State.putSlot_engines (s : State) (c : Slot) (x : CraneSlot) : (s.putSlot c x).engines = s.engines := rfl
@[simp] theorem State.putSlot_arb (s : State) (c : Slot) (x : CraneSlot) : (s.putSlot c x).arb = s.arb := rfl
@[simp] theorem State.putSlot_wind (s : State) (c : Slot) (x : CraneSlot) : (s.putSlot c x).wind = s.wind := rfl
@[simp] theorem State.putSlot_bookings (s : State) (c : Slot) (x : CraneSlot) : (s.putSlot c x).bookings = s.bookings := rfl
@[simp] theorem State.putSlot_plans (s : State) (c : Slot) (x : CraneSlot) : (s.putSlot c x).plans = s.plans := rfl
@[simp] theorem State.putSlot_channels (s : State) (c : Slot) (x : CraneSlot) : (s.putSlot c x).channels = s.channels := rfl
@[simp] theorem State.putSlot_status (s : State) (c : Slot) (x : CraneSlot) : (s.putSlot c x).status = s.status := rfl
@[simp] theorem State.putSlot_port (s : State) (c : Slot) (x : CraneSlot) : (s.putSlot c x).port = s.port := rfl

@[simp] theorem State.putPool_pending (s : State) (l : List PoolRecord) : (s.putPool l).pending = s.pending := rfl
@[simp] theorem State.putPool_events (s : State) (l : List PoolRecord) : (s.putPool l).events = s.events := rfl
@[simp] theorem State.putPool_power (s : State) (l : List PoolRecord) : (s.putPool l).power = s.power := rfl
@[simp] theorem State.putPool_geo (s : State) (l : List PoolRecord) : (s.putPool l).geo = s.geo := rfl
@[simp] theorem State.putPool_links (s : State) (l : List PoolRecord) : (s.putPool l).links = s.links := rfl
@[simp] theorem State.putPool_clock (s : State) (l : List PoolRecord) : (s.putPool l).clock = s.clock := rfl
@[simp] theorem State.putPool_engines (s : State) (l : List PoolRecord) : (s.putPool l).engines = s.engines := rfl
@[simp] theorem State.putPool_wind (s : State) (l : List PoolRecord) : (s.putPool l).wind = s.wind := rfl
@[simp] theorem State.putPool_bookings (s : State) (l : List PoolRecord) : (s.putPool l).bookings = s.bookings := rfl
@[simp] theorem State.putPool_plans (s : State) (l : List PoolRecord) : (s.putPool l).plans = s.plans := rfl
@[simp] theorem State.putPool_channels (s : State) (l : List PoolRecord) : (s.putPool l).channels = s.channels := rfl
@[simp] theorem State.putPool_status (s : State) (l : List PoolRecord) : (s.putPool l).status = s.status := rfl
@[simp] theorem State.putPool_port (s : State) (l : List PoolRecord) : (s.putPool l).port = s.port := rfl
@[simp] theorem State.putBooking_pending (s : State) (b : Booking) : (s.putBooking b).pending = s.pending := rfl
@[simp] theorem State.putBooking_events (s : State) (b : Booking) : (s.putBooking b).events = s.events := rfl
@[simp] theorem State.putBooking_power (s : State) (b : Booking) : (s.putBooking b).power = s.power := rfl
@[simp] theorem State.putBooking_geo (s : State) (b : Booking) : (s.putBooking b).geo = s.geo := rfl
@[simp] theorem State.putBooking_links (s : State) (b : Booking) : (s.putBooking b).links = s.links := rfl
@[simp] theorem State.putBooking_clock (s : State) (b : Booking) : (s.putBooking b).clock = s.clock := rfl
@[simp] theorem State.putBooking_engines (s : State) (b : Booking) : (s.putBooking b).engines = s.engines := rfl
@[simp] theorem State.putBooking_arb (s : State) (b : Booking) : (s.putBooking b).arb = s.arb := rfl
@[simp] theorem State.putBooking_wind (s : State) (b : Booking) : (s.putBooking b).wind = s.wind := rfl
@[simp] theorem State.putBooking_plans (s : State) (b : Booking) : (s.putBooking b).plans = s.plans := rfl
@[simp] theorem State.putBooking_channels (s : State) (b : Booking) : (s.putBooking b).channels = s.channels := rfl
@[simp] theorem State.putBooking_status (s : State) (b : Booking) : (s.putBooking b).status = s.status := rfl
@[simp] theorem State.putBooking_port (s : State) (b : Booking) : (s.putBooking b).port = s.port := rfl
@[simp] theorem mark_pending (k : ReportKey) (s : State) : (mark k s).pending = s.pending := rfl
@[simp] theorem mark_events (k : ReportKey) (s : State) : (mark k s).events = s.events := rfl
@[simp] theorem mark_power (k : ReportKey) (s : State) : (mark k s).power = s.power := rfl
@[simp] theorem mark_geo (k : ReportKey) (s : State) : (mark k s).geo = s.geo := rfl
@[simp] theorem mark_links (k : ReportKey) (s : State) : (mark k s).links = s.links := rfl
@[simp] theorem mark_clock (k : ReportKey) (s : State) : (mark k s).clock = s.clock := rfl
@[simp] theorem mark_engines (k : ReportKey) (s : State) : (mark k s).engines = s.engines := rfl
@[simp] theorem mark_arb (k : ReportKey) (s : State) : (mark k s).arb = s.arb := rfl
@[simp] theorem mark_wind (k : ReportKey) (s : State) : (mark k s).wind = s.wind := rfl
@[simp] theorem mark_bookings (k : ReportKey) (s : State) : (mark k s).bookings = s.bookings := rfl
@[simp] theorem mark_plans (k : ReportKey) (s : State) : (mark k s).plans = s.plans := rfl
@[simp] theorem mark_channels (k : ReportKey) (s : State) : (mark k s).channels = s.channels := rfl
@[simp] theorem mark_status (k : ReportKey) (s : State) : (mark k s).status = s.status := rfl
@[simp] theorem markIf_pending (b : Bool) (k : ReportKey) (s : State) : (markIf b k s).pending = s.pending := by cases b <;> rfl
@[simp] theorem markIf_events (b : Bool) (k : ReportKey) (s : State) : (markIf b k s).events = s.events := by cases b <;> rfl
@[simp] theorem markIf_power (b : Bool) (k : ReportKey) (s : State) : (markIf b k s).power = s.power := by cases b <;> rfl
@[simp] theorem markIf_geo (b : Bool) (k : ReportKey) (s : State) : (markIf b k s).geo = s.geo := by cases b <;> rfl
@[simp] theorem markIf_links (b : Bool) (k : ReportKey) (s : State) : (markIf b k s).links = s.links := by cases b <;> rfl
@[simp] theorem markIf_clock (b : Bool) (k : ReportKey) (s : State) : (markIf b k s).clock = s.clock := by cases b <;> rfl
@[simp] theorem markIf_engines (b : Bool) (k : ReportKey) (s : State) : (markIf b k s).engines = s.engines := by cases b <;> rfl
@[simp] theorem markIf_arb (b : Bool) (k : ReportKey) (s : State) : (markIf b k s).arb = s.arb := by cases b <;> rfl
@[simp] theorem markIf_wind (b : Bool) (k : ReportKey) (s : State) : (markIf b k s).wind = s.wind := by cases b <;> rfl
@[simp] theorem markIf_bookings (b : Bool) (k : ReportKey) (s : State) : (markIf b k s).bookings = s.bookings := by cases b <;> rfl
@[simp] theorem markIf_plans (b : Bool) (k : ReportKey) (s : State) : (markIf b k s).plans = s.plans := by cases b <;> rfl
@[simp] theorem markIf_channels (b : Bool) (k : ReportKey) (s : State) : (markIf b k s).channels = s.channels := by cases b <;> rfl
@[simp] theorem markIf_status (b : Bool) (k : ReportKey) (s : State) : (markIf b k s).status = s.status := by cases b <;> rfl
@[simp] theorem addError_pending (e : ErrorFlag) (s : State) : (addError e s).pending = s.pending := by
  unfold addError; split <;> rfl
@[simp] theorem addError_events (e : ErrorFlag) (s : State) : (addError e s).events = s.events := by
  unfold addError; split <;> rfl
@[simp] theorem addError_power (e : ErrorFlag) (s : State) : (addError e s).power = s.power := by
  unfold addError; split <;> rfl
@[simp] theorem addError_geo (e : ErrorFlag) (s : State) : (addError e s).geo = s.geo := by
  unfold addError; split <;> rfl
@[simp] theorem addError_links (e : ErrorFlag) (s : State) : (addError e s).links = s.links := by
  unfold addError; split <;> rfl
@[simp] theorem addError_clock (e : ErrorFlag) (s : State) : (addError e s).clock = s.clock := by
  unfold addError; split <;> rfl
@[simp] theorem addError_engines (e : ErrorFlag) (s : State) : (addError e s).engines = s.engines := by
  unfold addError; split <;> rfl
@[simp] theorem addError_arb (e : ErrorFlag) (s : State) : (addError e s).arb = s.arb := by
  unfold addError; split <;> rfl
@[simp] theorem addError_wind (e : ErrorFlag) (s : State) : (addError e s).wind = s.wind := by
  unfold addError; split <;> rfl
@[simp] theorem addError_bookings (e : ErrorFlag) (s : State) : (addError e s).bookings = s.bookings := by
  unfold addError; split <;> rfl
@[simp] theorem addError_plans (e : ErrorFlag) (s : State) : (addError e s).plans = s.plans := by
  unfold addError; split <;> rfl
@[simp] theorem addError_channels (e : ErrorFlag) (s : State) : (addError e s).channels = s.channels := by
  unfold addError; split <;> rfl
@[simp] theorem addError_status (e : ErrorFlag) (s : State) : (addError e s).status = s.status := by
  unfold addError; split <;> rfl
@[simp] theorem lineHigh_pending (s : State) : (lineHigh s).pending = s.pending := rfl
@[simp] theorem lineHigh_events (s : State) : (lineHigh s).events = s.events := rfl
@[simp] theorem lineHigh_geo (s : State) : (lineHigh s).geo = s.geo := rfl
@[simp] theorem lineHigh_links (s : State) : (lineHigh s).links = s.links := rfl
@[simp] theorem lineHigh_clock (s : State) : (lineHigh s).clock = s.clock := rfl
@[simp] theorem lineHigh_engines (s : State) : (lineHigh s).engines = s.engines := rfl
@[simp] theorem lineHigh_arb (s : State) : (lineHigh s).arb = s.arb := rfl
@[simp] theorem lineHigh_wind (s : State) : (lineHigh s).wind = s.wind := rfl
@[simp] theorem lineHigh_bookings (s : State) : (lineHigh s).bookings = s.bookings := rfl
@[simp] theorem lineHigh_plans (s : State) : (lineHigh s).plans = s.plans := rfl
@[simp] theorem lineHigh_channels (s : State) : (lineHigh s).channels = s.channels := rfl
@[simp] theorem lineHigh_status (s : State) : (lineHigh s).status = s.status := rfl
@[simp] theorem lineHigh_port (s : State) : (lineHigh s).port = s.port := rfl
@[simp] theorem lineHigh_on (s : State) : (lineHigh s).power.on = s.power.on := rfl
@[simp] theorem lineHigh_lowFor (s : State) : (lineHigh s).power.lowFor = none := rfl
@[simp] theorem lineHigh_startCause (s : State) : (lineHigh s).power.startCause = s.power.startCause := rfl
@[simp] theorem nextEvent_pending (s : State) : (nextEvent s).pending = s.pending := rfl
@[simp] theorem nextEvent_power (s : State) : (nextEvent s).power = s.power := rfl
@[simp] theorem nextEvent_geo (s : State) : (nextEvent s).geo = s.geo := rfl
@[simp] theorem nextEvent_links (s : State) : (nextEvent s).links = s.links := rfl
@[simp] theorem nextEvent_clock (s : State) : (nextEvent s).clock = s.clock := rfl
@[simp] theorem nextEvent_engines (s : State) : (nextEvent s).engines = s.engines := rfl
@[simp] theorem nextEvent_arb (s : State) : (nextEvent s).arb = s.arb := rfl
@[simp] theorem nextEvent_wind (s : State) : (nextEvent s).wind = s.wind := rfl
@[simp] theorem nextEvent_bookings (s : State) : (nextEvent s).bookings = s.bookings := rfl
@[simp] theorem nextEvent_plans (s : State) : (nextEvent s).plans = s.plans := rfl
@[simp] theorem nextEvent_channels (s : State) : (nextEvent s).channels = s.channels := rfl
@[simp] theorem nextEvent_status (s : State) : (nextEvent s).status = s.status := rfl
@[simp] theorem nextEvent_port (s : State) : (nextEvent s).port = s.port := rfl
@[simp] theorem nextEvent_events (s : State) : (nextEvent s).events = s.events + 1 := rfl
@[simp] theorem passMs_pending (s : State) : (passMs s).pending = s.pending := rfl
@[simp] theorem passMs_events (s : State) : (passMs s).events = s.events := rfl
@[simp] theorem passMs_geo (s : State) : (passMs s).geo = s.geo := rfl
@[simp] theorem passMs_links (s : State) : (passMs s).links = s.links := rfl
@[simp] theorem passMs_engines (s : State) : (passMs s).engines = s.engines := rfl
@[simp] theorem passMs_wind (s : State) : (passMs s).wind = s.wind := rfl
@[simp] theorem passMs_bookings (s : State) : (passMs s).bookings = s.bookings := rfl
@[simp] theorem passMs_plans (s : State) : (passMs s).plans = s.plans := rfl
@[simp] theorem passMs_status (s : State) : (passMs s).status = s.status := rfl
@[simp] theorem passMs_port (s : State) : (passMs s).port = s.port := rfl
@[simp] theorem passMs_uptime (s : State) : (passMs s).clock.uptime = s.clock.uptime + 1 := rfl
@[simp] theorem passMs_lowFor (s : State) : (passMs s).power.lowFor = s.power.lowFor.map (· + 1) := rfl
@[simp] theorem Channel.atAdmission_reasons (ch : Channel) : ch.atAdmission.reasons = .empty := rfl
@[simp] theorem Channel.atAdmission_booking (ch : Channel) : ch.atAdmission.booking = ch.booking := rfl
@[simp] theorem State.putReceiver_pending (s : State) (r : Receiver) : (s.putReceiver r).pending = s.pending := rfl
@[simp] theorem State.putReceiver_events (s : State) (r : Receiver) : (s.putReceiver r).events = s.events := rfl
@[simp] theorem State.putReceiver_power (s : State) (r : Receiver) : (s.putReceiver r).power = s.power := rfl
@[simp] theorem State.putReceiver_geo (s : State) (r : Receiver) : (s.putReceiver r).geo = s.geo := rfl
@[simp] theorem State.putReceiver_links (s : State) (r : Receiver) : (s.putReceiver r).links = s.links := rfl
@[simp] theorem State.putReceiver_clock (s : State) (r : Receiver) : (s.putReceiver r).clock = s.clock := rfl
@[simp] theorem State.putReceiver_engines (s : State) (r : Receiver) : (s.putReceiver r).engines = s.engines := rfl
@[simp] theorem State.putReceiver_arb (s : State) (r : Receiver) : (s.putReceiver r).arb = s.arb := rfl
@[simp] theorem State.putReceiver_wind (s : State) (r : Receiver) : (s.putReceiver r).wind = s.wind := rfl
@[simp] theorem State.putReceiver_bookings (s : State) (r : Receiver) : (s.putReceiver r).bookings = s.bookings := rfl
@[simp] theorem State.putReceiver_plans (s : State) (r : Receiver) : (s.putReceiver r).plans = s.plans := rfl
@[simp] theorem State.putReceiver_channels (s : State) (r : Receiver) : (s.putReceiver r).channels = s.channels := rfl
@[simp] theorem State.putReceiver_status (s : State) (r : Receiver) : (s.putReceiver r).status = s.status := rfl

/-! ## Other fields of the same record -/

@[simp] theorem State.putZone_pool (s : State) (z : ZoneId) (x : ZoneRecord) : (s.putZone z x).arb.pool = s.arb.pool := rfl
@[simp] theorem State.putZone_storms (s : State) (z : ZoneId) (x : ZoneRecord) : (s.putZone z x).arb.storms = s.arb.storms := rfl
@[simp] theorem State.putZone_stamp (s : State) (z : ZoneId) (x : ZoneRecord) : (s.putZone z x).arb.stamp = s.arb.stamp := rfl
@[simp] theorem State.putStorm_zones (s : State) (c : Slot) (x : StormRecord) : (s.putStorm c x).arb.zones = s.arb.zones := rfl
@[simp] theorem State.putStorm_pool (s : State) (c : Slot) (x : StormRecord) : (s.putStorm c x).arb.pool = s.arb.pool := rfl
@[simp] theorem State.putStorm_stamp (s : State) (c : Slot) (x : StormRecord) : (s.putStorm c x).arb.stamp = s.arb.stamp := rfl
@[simp] theorem State.putPool_zones (s : State) (l : List PoolRecord) : (s.putPool l).arb.zones = s.arb.zones := rfl
@[simp] theorem State.putPool_storms (s : State) (l : List PoolRecord) : (s.putPool l).arb.storms = s.arb.storms := rfl
@[simp] theorem State.putPool_pool (s : State) (l : List PoolRecord) : (s.putPool l).arb.pool = l := rfl
@[simp] theorem State.putPool_stamp (s : State) (l : List PoolRecord) : (s.putPool l).arb.stamp = s.arb.stamp := rfl
@[simp] theorem State.putWind_declaration (s : State) (c : Slot) (x : Wind) : (s.putWind c x).wind.declaration = s.wind.declaration := rfl
@[simp] theorem State.putWind_bucketPhase (s : State) (c : Slot) (x : Wind) : (s.putWind c x).wind.bucketPhase = s.wind.bucketPhase := rfl
@[simp] theorem State.putSlot_mode (s : State) (c : Slot) (x : CraneSlot) : (s.putSlot c x).geo.mode = s.geo.mode := rfl
@[simp] theorem State.putSlot_profile (s : State) (c : Slot) (x : CraneSlot) : (s.putSlot c x).geo.profile = s.geo.profile := rfl
@[simp] theorem State.putSlot_directory (s : State) (c : Slot) (x : CraneSlot) : (s.putSlot c x).geo.directory = s.geo.directory := rfl
@[simp] theorem State.putSlot_image (s : State) (c : Slot) (x : CraneSlot) : (s.putSlot c x).geo.image = s.geo.image := rfl

/-! ## Reading back -/

theorem putAt_get {α : Type} {n : Nat} (v : Vector α n) (i j : Fin n) (x : α) :
    (putAt v i x).get j = if i = j then x else v.get j := by
  simp only [putAt, Vector.get_eq_getElem, Vector.getElem_set, Fin.ext_iff]

@[simp] theorem putAt_get_same {α : Type} {n : Nat} (v : Vector α n) (i : Fin n) (x : α) : (putAt v i x).get i = x := by
  simp [putAt_get]

theorem putAt_get_other {α : Type} {n : Nat} (v : Vector α n) {i j : Fin n} (x : α) (h : i ≠ j) :
    (putAt v i x).get j = v.get j := by simp [putAt_get, h]

theorem State.putLink_link (s : State) (c d : Slot) (x : Link) : (s.putLink c x).link d = if c = d then x else s.link d :=
  putAt_get ..
theorem State.putEngine_engine (s : State) (c d : Slot) (x : Engine) :
    (s.putEngine c x).engine d = if c = d then x else s.engine d := putAt_get ..
theorem State.putChannel_channel (s : State) (c d : Slot) (x : Channel) :
    (s.putChannel c x).channel d = if c = d then x else s.channel d := putAt_get ..
theorem State.putCrane_crane (s : State) (c d : Slot) (x : CraneStatus) :
    (s.putCrane c x).crane d = if c = d then x else s.crane d := putAt_get ..
theorem State.putWind_windOf (s : State) (c d : Slot) (x : Wind) :
    (s.putWind c x).windOf d = if c = d then x else s.windOf d := putAt_get ..
theorem State.putZone_zone (s : State) (z y : ZoneId) (x : ZoneRecord) :
    (s.putZone z x).zone y = if z = y then x else s.zone y := putAt_get ..
theorem modCrane_crane (c d : Slot) (f : CraneStatus → CraneStatus) (s : State) :
    (modCrane c f s).crane d = if c = d then f (s.crane c) else s.crane d := State.putCrane_crane ..
theorem modZone_zone (z y : ZoneId) (f : ZoneRecord → ZoneRecord) (s : State) :
    (modZone z f s).zone y = if z = y then f (s.zone z) else s.zone y := State.putZone_zone ..
@[simp] theorem modCrane_port (c : Slot) (f : CraneStatus → CraneStatus) (s : State) : (modCrane c f s).port = s.port := rfl
@[simp] theorem modZone_port (z : ZoneId) (f : ZoneRecord → ZoneRecord) (s : State) : (modZone z f s).port = s.port := rfl
theorem State.putStorm_storm (s : State) (c d : Slot) (x : StormRecord) :
    (s.putStorm c x).storm d = if c = d then x else s.storm d := putAt_get ..
theorem State.putSlot_slotOf (s : State) (c d : Slot) (x : CraneSlot) :
    (s.putSlot c x).slotOf d = if c = d then x else s.slotOf d := putAt_get ..

end Sys2Proof.Machine
end

