-- ==== Sys2Proof/Laws/Quiet.lean ====
section
/-! SUPPORT. What every operation of the blocks leaves alone. `Quiet s t` says that t comes of s by work that leaves the
queue of commands, the supply, the clock, the geometry, the plans and the Site Port alone but for report keys, and keeps
what is well kept. One lemma per operation; the lemmas are cited, and the operations not unfolded, by what follows. -/

set_option linter.unusedTactic false
set_option linter.unreachableTactic false

namespace Sys2Proof.Machine

/-- A port after work that only marks and removes report keys. -/
structure SitePort.Quiet (p q : SitePort) : Prop where
  receiver : q.receiver = p.receiver
  queue : q.queue = p.queue
  hand : q.hand = p.hand
  slot : q.slot = p.slot
  tx : q.tx = p.tx
  masks : q.masks = p.masks
  errors : q.errors = p.errors
  resetProgress : q.resetProgress = p.resetProgress
  nodup : p.reports.Nodup → q.reports.Nodup
  unmasked : (∀ k ∈ p.reports, k.kind ∉ p.masks) → ∀ k ∈ q.reports, k.kind ∉ q.masks

/-- A state after work of the blocks (see the head of this file). -/
structure Quiet (s t : State) : Prop where
  pending : t.pending = s.pending
  events : t.events = s.events
  power : t.power = s.power
  clock : t.clock = s.clock
  geo : t.geo = s.geo
  plans : t.plans = s.plans
  port : s.port.Quiet t.port
  links : (∀ c, (s.link c).WellKept) → ∀ c, (t.link c).WellKept

theorem SitePort.Quiet.refl (p : SitePort) : p.Quiet p := ⟨rfl, rfl, rfl, rfl, rfl, rfl, rfl, rfl, id, id⟩

theorem SitePort.Quiet.trans {p q r : SitePort} (h : p.Quiet q) (k : q.Quiet r) : p.Quiet r :=
  ⟨k.1.trans h.1, k.2.trans h.2, k.3.trans h.3, k.4.trans h.4, k.5.trans h.5, k.6.trans h.6, k.7.trans h.7,
    k.8.trans h.8, k.9 ∘ h.9, k.10 ∘ h.10⟩

theorem Quiet.refl (s : State) : Quiet s s := ⟨rfl, rfl, rfl, rfl, rfl, rfl, .refl _, id⟩

theorem Quiet.trans {s t u : State} (h : Quiet s t) (k : Quiet t u) : Quiet s u :=
  ⟨k.1.trans h.1, k.2.trans h.2, k.3.trans h.3, k.4.trans h.4, k.5.trans h.5, k.6.trans h.6, h.7.trans k.7, k.8 ∘ h.8⟩

variable {s t : State}

/-! ## Marks and records -/

theorem SitePort.marked_quiet (k : ReportKey) (p : SitePort) : p.Quiet (p.marked k) := by
  unfold SitePort.marked
  split
  · exact .refl p
  · rename_i h
    simp only [Bool.or_eq_true, List.contains_iff_mem, not_or] at h
    refine ⟨rfl, rfl, rfl, rfl, rfl, rfl, rfl, rfl, fun n => ?_, fun n k' hk => ?_⟩
    · rw [List.nodup_append]
      refine ⟨n, by simp, ?_⟩
      intro a ha b hb
      simp only [List.mem_singleton] at hb
      subst hb
      exact fun e => h.2 (e ▸ ha)
    · simp only [List.mem_append, List.mem_singleton] at hk
      rcases hk with hk | rfl
      · exact n k' hk
      · exact h.1

theorem mark_quiet (k : ReportKey) (h : Quiet s t) : Quiet s (mark k t) :=
  h.trans ⟨rfl, rfl, rfl, rfl, rfl, rfl, SitePort.marked_quiet k _, id⟩

theorem markIf_quiet (b : Bool) (k : ReportKey) (h : Quiet s t) : Quiet s (markIf b k t) := by
  cases b
  · exact h
  · exact mark_quiet k h

theorem quiet_arb (a : Arbiter) (h : Quiet s t) : Quiet s { t with arb := a } :=
  h.trans ⟨rfl, rfl, rfl, rfl, rfl, rfl, .refl _, id⟩
theorem quiet_wind (w : WindMonitor) (h : Quiet s t) : Quiet s { t with wind := w } :=
  h.trans ⟨rfl, rfl, rfl, rfl, rfl, rfl, .refl _, id⟩
theorem putEngine_quiet (c : Slot) (x : Engine) (h : Quiet s t) : Quiet s (t.putEngine c x) :=
  h.trans ⟨rfl, rfl, rfl, rfl, rfl, rfl, .refl _, id⟩
theorem putChannel_quiet (c : Slot) (x : Channel) (h : Quiet s t) : Quiet s (t.putChannel c x) :=
  h.trans ⟨rfl, rfl, rfl, rfl, rfl, rfl, .refl _, id⟩
theorem putCrane_quiet (c : Slot) (x : CraneStatus) (h : Quiet s t) : Quiet s (t.putCrane c x) :=
  h.trans ⟨rfl, rfl, rfl, rfl, rfl, rfl, .refl _, id⟩
theorem putWind_quiet (c : Slot) (x : Wind) (h : Quiet s t) : Quiet s (t.putWind c x) :=
  h.trans ⟨rfl, rfl, rfl, rfl, rfl, rfl, .refl _, id⟩
theorem putZone_quiet (z : ZoneId) (x : ZoneRecord) (h : Quiet s t) : Quiet s (t.putZone z x) :=
  h.trans ⟨rfl, rfl, rfl, rfl, rfl, rfl, .refl _, id⟩
theorem putStorm_quiet (c : Slot) (x : StormRecord) (h : Quiet s t) : Quiet s (t.putStorm c x) :=
  h.trans ⟨rfl, rfl, rfl, rfl, rfl, rfl, .refl _, id⟩
theorem putPool_quiet (l : List PoolRecord) (h : Quiet s t) : Quiet s (t.putPool l) :=
  h.trans ⟨rfl, rfl, rfl, rfl, rfl, rfl, .refl _, id⟩
theorem putBooking_quiet (b : Booking) (h : Quiet s t) : Quiet s (t.putBooking b) :=
  h.trans ⟨rfl, rfl, rfl, rfl, rfl, rfl, .refl _, id⟩
theorem quiet_bookings (l : List Booking) (h : Quiet s t) : Quiet s { t with bookings := l } :=
  h.trans ⟨rfl, rfl, rfl, rfl, rfl, rfl, .refl _, id⟩

theorem freeBooking_quiet (n : Nat) (h : Quiet s t) : Quiet s (freeBooking n t) :=
  h.trans ⟨rfl, rfl, rfl, rfl, rfl, rfl,
    ⟨rfl, rfl, rfl, rfl, rfl, rfl, rfl, rfl, fun d => d.filter _, fun d k hk => d k (List.mem_of_mem_filter hk)⟩, id⟩

theorem putLink_quiet (c : Slot) (x : Link) (hx : (∀ d, (t.link d).WellKept) → x.WellKept) (h : Quiet s t) :
    Quiet s (t.putLink c x) :=
  h.trans ⟨rfl, rfl, rfl, rfl, rfl, rfl, .refl _, fun k d => by
    rw [State.putLink_link]; split
    · exact hx k
    · exact k d⟩

/-- A link change is quiet when the new link is well kept wherever every link was at the start. -/
theorem updLink_quiet_of (c : Slot) (f : Link → Link) (hf : (∀ d, (s.link d).WellKept) → (f (t.link c)).WellKept)
    (h : Quiet s t) : Quiet s (updLink c f t) := by
  unfold updLink
  refine markIf_quiet _ _ ⟨h.1, h.2, h.3, h.4, h.5, h.6, h.7, fun k d => ?_⟩
  rw [State.putLink_link]
  split
  · exact hf k
  · exact h.8 k d

theorem updLink_quiet (c : Slot) (f : Link → Link) (hf : (t.link c).WellKept → (f (t.link c)).WellKept)
    (h : Quiet s t) : Quiet s (updLink c f t) := by
  unfold updLink
  exact markIf_quiet _ _ (putLink_quiet c _ (fun k => hf (k c)) h)

theorem forEach_quiet {α : Type} (l : List α) (f : α → State → State) (hf : ∀ a u, Quiet s u → Quiet s (f a u))
    (h : Quiet s t) : Quiet s (forEach l f t) := by
  unfold forEach
  induction l generalizing t with
  | nil => exact h
  | cons a l ih => exact ih (hf a t h)

/-- The part that a `Quiet` step leaves as it was, read off at once. -/
theorem Quiet.port_tx (h : Quiet s t) : t.port.tx = s.port.tx := h.port.tx

/-! ## The operations, in the order of their files -/


/-! ### Ops -/

theorem updEngine_quiet (c : Slot) (f : Engine → Engine) (h : Quiet s t) : Quiet s (updEngine c f t) := by
  unfold updEngine
  repeat' first
    | with_reducible assumption
    | with_reducible apply putEngine_quiet
    | split
    | intro _

theorem setRecovery_quiet (c : Slot) (on : Bool) (h : Quiet s t) : Quiet s (setRecovery c on t) := by
  unfold setRecovery
  dsimp only
  repeat' first
    | with_reducible assumption
    | with_reducible apply mark_quiet
    | with_reducible apply putCrane_quiet
    | with_reducible apply updEngine_quiet
    | split
    | intro _

theorem updChannel_quiet (c : Slot) (f : Channel → Channel) (h : Quiet s t) : Quiet s (updChannel c f t) := by
  unfold updChannel
  repeat' first
    | with_reducible assumption
    | with_reducible apply markIf_quiet
    | with_reducible apply putChannel_quiet
    | split
    | intro _

theorem updCrane_quiet (c : Slot) (f : CraneStatus → CraneStatus) (h : Quiet s t) : Quiet s (updCrane c f t) := by
  unfold updCrane
  repeat' first
    | with_reducible assumption
    | with_reducible apply markIf_quiet
    | with_reducible apply putCrane_quiet
    | split
    | intro _

theorem modCrane_quiet (c : Slot) (f : CraneStatus → CraneStatus) (h : Quiet s t) : Quiet s (modCrane c f t) :=
  putCrane_quiet _ _ h

theorem modZone_quiet (z : ZoneId) (f : ZoneRecord → ZoneRecord) (h : Quiet s t) : Quiet s (modZone z f t) :=
  putZone_quiet _ _ h

theorem updWind_quiet (c : Slot) (f : Wind → Wind) (h : Quiet s t) : Quiet s (updWind c f t) := by
  unfold updWind
  repeat' first
    | with_reducible assumption
    | with_reducible apply markIf_quiet
    | with_reducible apply putWind_quiet
    | split
    | intro _

theorem updZone_quiet (z : ZoneId) (f : ZoneRecord → ZoneRecord) (h : Quiet s t) : Quiet s (updZone z f t) := by
  unfold updZone
  repeat' first
    | with_reducible assumption
    | with_reducible apply markIf_quiet
    | with_reducible apply putZone_quiet
    | split
    | intro _

theorem updEvict_quiet (c : Slot) (f : List ZoneId → List ZoneId) (h : Quiet s t) : Quiet s (updEvict c f t) := by
  unfold updEvict
  repeat' first
    | with_reducible assumption
    | with_reducible apply markIf_quiet
    | with_reducible apply updEngine_quiet
    | split
    | intro _

theorem updBooking_quiet (n : Nat) (f : Booking → Booking) (h : Quiet s t) : Quiet s (updBooking n f t) := by
  unfold updBooking
  dsimp only
  repeat' first
    | assumption
    | apply freeBooking_quiet
    | apply markIf_quiet
    | apply putBooking_quiet
    | split

/-! ### Link -/

theorem noticeEntered_quiet (c : Slot) (h : Quiet s t) : Quiet s (noticeEntered c t) := by
  unfold noticeEntered
  split <;> exact updChannel_quiet _ _ h

theorem placeFreed_quiet (c : Slot)
    (room : (∀ d, (s.link d).WellKept) → (t.link c).notices.length < Config.noticeCapacity) (h : Quiet s t) :
    Quiet s (placeFreed c t) := by
  unfold placeFreed
  split
  · split
    · refine noticeEntered_quiet c (updLink_quiet_of c _ (fun k => ⟨?_, (h.8 k c).2⟩) h)
      simpa using room k
    · exact h
  · exact h

theorem updLink_link_same (c : Slot) (f : Link → Link) (s : State) : (updLink c f s).link c = f (s.link c) := by
  simp [updLink, State.link, State.putLink]

theorem kickCab_quiet (c : Slot) (h : Quiet s t) : Quiet s (kickCab c t) := by
  unfold kickCab
  split
  · exact h
  · split
    · exact updLink_quiet c _ (fun k => k) h
    · split
      · exact h
      · rename_i n rest hn
        refine placeFreed_quiet c (fun k => ?_) (updLink_quiet c _ (fun k => ⟨?_, k.2⟩) h)
        · have := (h.8 k c).1
          rw [hn] at this
          rw [updLink_link_same]
          exact this
        · have := k.1
          rw [hn] at this
          exact Nat.le_of_succ_le this

theorem placeFrame_quiet (c : Slot) (computed : Bool) (f : LimitFrame) (h : Quiet s t) :
    Quiet s (placeFrame c computed f t) := by
  unfold placeFrame
  exact kickCab_quiet c (updLink_quiet c _ (fun k => ⟨k.1, k.2.1, Nat.mod_lt _ (by decide), k.2.2.2⟩) h)

theorem placeLinkMade_quiet (c : Slot) (h : Quiet s t) : Quiet s (placeLinkMade c t) := by
  unfold placeLinkMade
  repeat' first
    | with_reducible assumption
    | with_reducible apply placeFrame_quiet
    | split
    | intro _

theorem repeatLimit_quiet (c : Slot) (h : Quiet s t) : Quiet s (repeatLimit c t) := by
  unfold repeatLimit
  split
  · exact kickCab_quiet c (updLink_quiet c _ (fun k => k) h)
  · exact h

theorem cabTxFinished_quiet (c : Slot) (h : Quiet s t) : Quiet s (cabTxFinished c t) := by
  unfold cabTxFinished
  split
  · exact h
  · exact kickCab_quiet c (updLink_quiet c _ (fun k => k) h)

theorem offerNotice_quiet (c : Slot) (h : Quiet s t) : Quiet s (offerNotice c t) := by
  unfold offerNotice
  split
  · exact h
  · split
    · rename_i room
      refine kickCab_quiet c (noticeEntered_quiet c (updLink_quiet c _ (fun k => ⟨?_, k.2⟩) h))
      simpa using room
    · exact updChannel_quiet _ _ h

/-! ### Claims -/

theorem tellGranted_quiet (c : Slot) (stamp : Nat) (h : Quiet s t) : Quiet s (tellGranted c stamp t) := by
  unfold tellGranted
  repeat' first
    | with_reducible assumption
    | with_reducible apply updChannel_quiet
    | split
    | intro _

theorem tellWithdrawn_quiet (c : Slot) (stamp : Nat) (h : Quiet s t) : Quiet s (tellWithdrawn c stamp t) := by
  unfold tellWithdrawn
  repeat' first
    | with_reducible assumption
    | with_reducible apply updChannel_quiet
    | split
    | intro _

theorem tellLost_quiet (c : Slot) (booking : Nat) (z : ZoneId) (cause : LossCause)
    (h : Quiet s t) : Quiet s (tellLost c booking z cause t) := by
  unfold tellLost
  repeat' first
    | with_reducible assumption
    | with_reducible apply updChannel_quiet
    | split
    | intro _

theorem announceFreed_quiet (h : Quiet s t) : Quiet s (announceFreed t) := by
  unfold announceFreed
  repeat' first
    | with_reducible assumption
    | with_reducible apply forEach_quiet
    | with_reducible apply updChannel_quiet
    | split
    | intro _

theorem takePool_quiet (c : Slot) (kind : PoolKind) (priority : Nat) (booking : Option Nat) (zones : List ClaimZone)
    (dwell : Dwell) (h : Quiet s t) : Quiet s (takePool c kind priority booking zones dwell t) := quiet_arb _ h

theorem updPool_quiet (stamp : Nat) (f : PoolRecord → PoolRecord) (h : Quiet s t) : Quiet s (updPool stamp f t) := by
  unfold updPool
  repeat' first
    | with_reducible assumption
    | with_reducible apply putPool_quiet
    | split
    | intro _

theorem updClaimZones_quiet (ref : ClaimRef) (f : List ClaimZone → List ClaimZone)
    (h : Quiet s t) : Quiet s (updClaimZones ref f t) := by
  unfold updClaimZones
  repeat' first
    | with_reducible assumption
    | with_reducible apply putStorm_quiet
    | with_reducible apply updPool_quiet
    | split
    | intro _

theorem setStatus_quiet (ref : ClaimRef) (z : ZoneId) (st : ZoneStatus)
    (h : Quiet s t) : Quiet s (setStatus ref z st t) := by
  unfold setStatus
  repeat' first
    | with_reducible assumption
    | with_reducible apply updClaimZones_quiet
    | split
    | intro _

theorem dropZone_quiet (ref : ClaimRef) (z : ZoneId) (h : Quiet s t) : Quiet s (dropZone ref z t) := by
  unfold dropZone
  repeat' first
    | with_reducible assumption
    | with_reducible apply updClaimZones_quiet
    | split
    | intro _

theorem retypeTransit_quiet (stamp : Nat) (z : ZoneId) (h : Quiet s t) : Quiet s (retypeTransit stamp z t) := by
  unfold retypeTransit
  repeat' first
    | with_reducible assumption
    | with_reducible apply updPool_quiet
    | split
    | intro _

theorem settleMarked_quiet (stamp : Nat) (h : Quiet s t) : Quiet s (settleMarked stamp t) := by
  unfold settleMarked
  repeat' first
    | with_reducible assumption
    | with_reducible apply updPool_quiet
    | with_reducible apply retypeTransit_quiet
    | split
    | intro _

theorem convertToTransit_quiet (ref : ClaimRef) (c : Slot) (z : ZoneId)
    (h : Quiet s t) : Quiet s (convertToTransit ref c z t) := by
  unfold convertToTransit
  dsimp only
  repeat' first
    | with_reducible assumption
    | with_reducible apply updZone_quiet
    | with_reducible apply takePool_quiet
    | with_reducible apply dropZone_quiet
    | split
    | intro _

theorem handOn_quiet (h : Quiet s t) : Quiet s (handOn t) := by
  unfold handOn
  dsimp only
  repeat' first
    | with_reducible assumption
    | with_reducible apply announceFreed_quiet
    | with_reducible apply settleMarked_quiet
    | with_reducible apply convertToTransit_quiet
    | split
    | intro _

theorem tidyClaim_quiet (ref : ClaimRef) (h : Quiet s t) : Quiet s (tidyClaim ref t) := by
  unfold tidyClaim
  repeat' first
    | with_reducible assumption
    | with_reducible apply putPool_quiet
    | with_reducible apply settleMarked_quiet
    | with_reducible apply handOn_quiet
    | split
    | intro _

theorem placeEntry_quiet (ref : ClaimRef) (z : ZoneId) (h : Quiet s t) : Quiet s (placeEntry ref z t) := by
  unfold placeEntry
  repeat' first
    | with_reducible assumption
    | with_reducible apply updZone_quiet
    | split
    | intro _

theorem removeEntry_quiet (ref : ClaimRef) (z : ZoneId) (h : Quiet s t) : Quiet s (removeEntry ref z t) := by
  unfold removeEntry
  repeat' first
    | with_reducible assumption
    | with_reducible apply updZone_quiet
    | split
    | intro _

theorem withdrawPool_quiet (stamp : Nat) (h : Quiet s t) : Quiet s (withdrawPool stamp t) := by
  unfold withdrawPool
  dsimp only
  repeat' first
    | with_reducible assumption
    | with_reducible apply forEach_quiet
    | with_reducible apply updClaimZones_quiet
    | with_reducible apply tidyClaim_quiet
    | with_reducible apply removeEntry_quiet
    | split
    | intro _

theorem clearEvictees_quiet (z : ZoneId) (h : Quiet s t) : Quiet s (clearEvictees z t) := by
  unfold clearEvictees
  dsimp only
  repeat' first
    | with_reducible assumption
    | with_reducible apply forEach_quiet
    | with_reducible apply modZone_quiet
    | with_reducible apply updEvict_quiet
    | split
    | intro _

theorem evictFrom_quiet (c : Slot) (z : ZoneId) (h : Quiet s t) : Quiet s (evictFrom c z t) := by
  unfold evictFrom
  dsimp only
  repeat' first
    | with_reducible assumption
    | with_reducible apply mark_quiet
    | with_reducible apply forEach_quiet
    | with_reducible apply modZone_quiet
    | with_reducible apply updEvict_quiet
    | split
    | intro _

theorem endEvictions_quiet (c : Slot) (h : Quiet s t) : Quiet s (endEvictions c t) := by
  unfold endEvictions
  repeat' first
    | with_reducible assumption
    | with_reducible apply forEach_quiet
    | with_reducible apply updEngine_quiet
    | with_reducible apply updZone_quiet
    | split
    | intro _

/-! ### Arbiter -/

theorem grantPoolZone_quiet (n : Nat) (c : Slot) (z : ZoneId) (h : Quiet s t) : Quiet s (grantPoolZone n c z t) := by
  unfold grantPoolZone
  dsimp only
  repeat' first
    | with_reducible assumption
    | with_reducible apply updZone_quiet
    | with_reducible apply updPool_quiet
    | with_reducible apply setStatus_quiet
    | split
    | intro _

theorem loseZone_quiet (cause : LossCause) (z : ZoneId) (ref : ClaimRef)
    (h : Quiet s t) : Quiet s (loseZone cause z ref t) := by
  unfold loseZone
  dsimp only
  repeat' first
    | with_reducible assumption
    | with_reducible apply tellLost_quiet
    | with_reducible apply dropZone_quiet
    | with_reducible apply tidyClaim_quiet
    | split
    | intro _

theorem stormTakes_quiet (c : Slot) (z : ZoneId) (co : List Nat) (h : Quiet s t) : Quiet s (stormTakes c z co t) := by
  unfold stormTakes
  dsimp only
  repeat' first
    | with_reducible assumption
    | with_reducible apply mark_quiet
    | with_reducible apply modZone_quiet
    | with_reducible apply setStatus_quiet
    | with_reducible apply evictFrom_quiet
    | split
    | intro _

theorem stormGrant_quiet (c : Slot) (z : ZoneId) (h : Quiet s t) : Quiet s (stormGrant c z t) := by
  unfold stormGrant
  repeat' first
    | with_reducible assumption
    | with_reducible apply forEach_quiet
    | with_reducible apply loseZone_quiet
    | with_reducible apply stormTakes_quiet
    | split
    | intro _

theorem grantCandidate_quiet (z : ZoneId) (ref : ClaimRef) (h : Quiet s t) : Quiet s (grantCandidate z ref t) := by
  unfold grantCandidate
  dsimp only
  repeat' first
    | with_reducible assumption
    | with_reducible apply forEach_quiet
    | with_reducible apply updZone_quiet
    | with_reducible apply tellGranted_quiet
    | with_reducible apply grantPoolZone_quiet
    | with_reducible apply stormGrant_quiet
    | split
    | intro _

theorem grantAll_quiet (n : Nat) (due : List ZoneId) (h : Quiet s t) : Quiet s (grantAll n due t).2 := by
  induction n generalizing t due with
  | zero => exact h
  | succ n ih =>
    unfold grantAll
    split
    · exact h
    · exact ih _ (grantCandidate_quiet _ _ h)

theorem settleReservation_quiet (z : ZoneId) (h : Quiet s t) : Quiet s (settleReservation z t) := by
  unfold settleReservation
  repeat' first
    | with_reducible assumption
    | with_reducible apply updZone_quiet
    | split
    | intro _

theorem settleZones_quiet (old : State) (extra : List ZoneId) (h : Quiet s t) : Quiet s (settleZones old extra t) := by
  unfold settleZones
  dsimp only
  repeat' first
    | with_reducible assumption
    | with_reducible apply forEach_quiet
    | with_reducible apply grantAll_quiet
    | with_reducible apply settleReservation_quiet
    | split
    | intro _

theorem convertHolding_quiet (ref : ClaimRef) (c : Slot) (z : ZoneId)
    (h : Quiet s t) : Quiet s (convertHolding ref c z t) := by
  unfold convertHolding
  dsimp only
  repeat' first
    | with_reducible assumption
    | with_reducible apply updClaimZones_quiet
    | with_reducible apply retypeTransit_quiet
    | with_reducible apply settleMarked_quiet
    | with_reducible apply convertToTransit_quiet
    | with_reducible apply tidyClaim_quiet
    | split
    | intro _

theorem releaseZone_quiet (ref : ClaimRef) (z : ZoneId) (h : Quiet s t) : Quiet s (releaseZone ref z t) := by
  unfold releaseZone
  dsimp only
  repeat' first
    | with_reducible assumption
    | with_reducible apply mark_quiet
    | with_reducible apply modZone_quiet
    | with_reducible apply dropZone_quiet
    | with_reducible apply tidyClaim_quiet
    | with_reducible apply clearEvictees_quiet
    | with_reducible apply convertHolding_quiet
    | split
    | intro _

theorem releaseBookingZones_quiet (booking : Nat) (zones : List ZoneId)
    (h : Quiet s t) : Quiet s (releaseBookingZones booking zones t) := by
  unfold releaseBookingZones
  repeat' first
    | with_reducible assumption
    | with_reducible apply forEach_quiet
    | with_reducible apply settleZones_quiet
    | with_reducible apply releaseZone_quiet
    | split
    | intro _

theorem withdrawBooking_quiet (booking : Nat) (h : Quiet s t) : Quiet s (withdrawBooking booking t) := by
  unfold withdrawBooking
  repeat' first
    | with_reducible assumption
    | with_reducible apply forEach_quiet
    | with_reducible apply withdrawPool_quiet
    | with_reducible apply settleZones_quiet
    | split
    | intro _

theorem withdrawClaim_quiet (stamp : Nat) (h : Quiet s t) : Quiet s (withdrawClaim stamp t) := by
  unfold withdrawClaim
  repeat' first
    | with_reducible assumption
    | with_reducible apply withdrawPool_quiet
    | with_reducible apply settleZones_quiet
    | split
    | intro _

theorem withdrawTold_quiet (c : Slot) (stamp : Nat) (h : Quiet s t) : Quiet s (withdrawTold c stamp t) := by
  unfold withdrawTold
  repeat' first
    | with_reducible assumption
    | with_reducible apply tellWithdrawn_quiet
    | with_reducible apply withdrawPool_quiet
    | split
    | intro _

theorem withdrawCrane_quiet (c : Slot) (h : Quiet s t) : Quiet s (withdrawCrane c t) := by
  unfold withdrawCrane
  dsimp only
  repeat' first
    | with_reducible assumption
    | with_reducible apply forEach_quiet
    | with_reducible apply updEngine_quiet
    | with_reducible apply setStatus_quiet
    | with_reducible apply removeEntry_quiet
    | with_reducible apply settleZones_quiet
    | with_reducible apply withdrawTold_quiet
    | split
    | intro _

theorem requestTransit_quiet (c : Slot) (z : ZoneId) (h : Quiet s t) : Quiet s (requestTransit c z t) := by
  unfold requestTransit
  repeat' first
    | with_reducible assumption
    | with_reducible apply takePool_quiet
    | with_reducible apply placeEntry_quiet
    | split
    | intro _

theorem transitHandOver_quiet (c : Slot) (zones : List ZoneId)
    (h : Quiet s t) : Quiet s (transitHandOver c zones t) := by
  unfold transitHandOver
  dsimp only
  repeat' first
    | with_reducible assumption
    | with_reducible apply forEach_quiet
    | with_reducible apply updEngine_quiet
    | with_reducible apply withdrawPool_quiet
    | with_reducible apply settleZones_quiet
    | with_reducible apply requestTransit_quiet
    | split
    | intro _

theorem waitForStorm_quiet (c : Slot) (z : ZoneId) (h : Quiet s t) : Quiet s (requestStorm.waitForStorm c z t) := by
  unfold requestStorm.waitForStorm
  split
  · exact h
  · exact placeEntry_quiet _ _ (setStatus_quiet _ _ _ (withdrawTold_quiet _ _ h))
  · exact placeEntry_quiet _ _ (setStatus_quiet _ _ _ h)

theorem requestStorm_quiet (c : Slot) (z : ZoneId) (h : Quiet s t) : Quiet s (requestStorm c z t) := by
  unfold requestStorm
  dsimp only
  repeat' first
    | with_reducible assumption
    | with_reducible apply waitForStorm_quiet
    | with_reducible apply stormTakes_quiet
    | with_reducible apply tidyClaim_quiet
    | with_reducible apply dropZone_quiet
    | split

theorem retypeStanding_quiet (n booking priority : Nat)
    (h : Quiet s t) : Quiet s (retypeStanding n booking priority t) := by
  unfold retypeStanding
  repeat' first
    | with_reducible assumption
    | with_reducible apply updPool_quiet
    | split
    | intro _

theorem requestStandingZone_quiet (n : Nat) (c : Slot) (z : ZoneId)
    (h : Quiet s t) : Quiet s (requestStandingZone n c z t) := by
  unfold requestStandingZone
  repeat' first
    | with_reducible assumption
    | with_reducible apply updZone_quiet
    | with_reducible apply setStatus_quiet
    | with_reducible apply dropZone_quiet
    | with_reducible apply tidyClaim_quiet
    | with_reducible apply placeEntry_quiet
    | with_reducible apply withdrawPool_quiet
    | split
    | intro _

theorem requestStanding_quiet (c : Slot) (booking priority : Nat) (zones : List ZoneId) (h : Quiet s t) :
    Quiet s (requestStanding c booking priority zones t).1 := by
  unfold requestStanding
  dsimp only
  repeat' first
    | with_reducible assumption
    | with_reducible apply retypeStanding_quiet
    | with_reducible apply settleZones_quiet
    | with_reducible apply forEach_quiet
    | with_reducible apply requestStandingZone_quiet
    | with_reducible apply takePool_quiet
    | split
    | intro _

theorem joinGrant_quiet (c : Slot) (z : ZoneId) (h : Quiet s t) : Quiet s (joinGrant c z t) := by
  unfold joinGrant
  dsimp only
  repeat' first
    | with_reducible assumption
    | with_reducible apply updZone_quiet
    | with_reducible apply takePool_quiet
    | split
    | intro _

theorem judgeDwells_quiet (c : Slot) (h : Quiet s t) : Quiet s (judgeDwells c t) := by
  unfold judgeDwells
  dsimp only
  repeat' first
    | with_reducible assumption
    | with_reducible apply putPool_quiet
    | split
    | intro _

theorem replaceDeferred_quiet (c : Slot) (h : Quiet s t) : Quiet s (replaceDeferred c t) := by
  unfold replaceDeferred
  repeat' first
    | with_reducible assumption
    | with_reducible apply forEach_quiet
    | with_reducible apply requestStorm_quiet
    | split
    | intro _

theorem handOver_quiet (c : Slot) (join : Bool) (occupancy reach : List ZoneId)
    (h : Quiet s t) : Quiet s (handOver c join occupancy reach t) := by
  unfold handOver
  dsimp only
  repeat' first
    | with_reducible assumption
    | with_reducible apply forEach_quiet
    | with_reducible apply updEngine_quiet
    | with_reducible apply endEvictions_quiet
    | with_reducible apply settleZones_quiet
    | with_reducible apply joinGrant_quiet
    | with_reducible apply judgeDwells_quiet
    | with_reducible apply replaceDeferred_quiet
    | split
    | intro _

theorem arbiterStale_quiet (c : Slot) (h : Quiet s t) : Quiet s (arbiterStale c t) := by
  unfold arbiterStale
  dsimp only
  repeat' first
    | with_reducible assumption
    | with_reducible apply putPool_quiet
    | with_reducible apply updEngine_quiet
    | with_reducible apply settleZones_quiet
    | split
    | intro _

theorem expireDwell_quiet (z : ZoneId) (h : Quiet s t) : Quiet s (expireDwell z t) := by
  unfold expireDwell
  repeat' first
    | with_reducible assumption
    | with_reducible apply settleZones_quiet
    | with_reducible apply releaseZone_quiet
    | split
    | intro _

theorem closeTheZone_quiet (z : ZoneId) (h : Quiet s t) : Quiet s (closeTheZone z t) :=
  settleZones_quiet _ _ (placeEntry_quiet _ _ (quiet_arb _ (updZone_quiet _ _ h)))

theorem openTheZone_quiet (z : ZoneId) (h : Quiet s t) : Quiet s (openTheZone z t) := by
  unfold openTheZone
  repeat' first
    | with_reducible assumption
    | with_reducible apply updZone_quiet
    | with_reducible apply settleZones_quiet
    | split
    | intro _

theorem withdrawClosure_quiet (z : ZoneId) (h : Quiet s t) : Quiet s (withdrawClosure z t) := by
  unfold withdrawClosure
  repeat' first
    | with_reducible assumption
    | with_reducible apply updZone_quiet
    | with_reducible apply settleZones_quiet
    | split
    | intro _

theorem forceFree_quiet (z : ZoneId) (h : Quiet s t) : Quiet s (forceFree z t) := by
  unfold forceFree
  dsimp only
  repeat' first
    | with_reducible assumption
    | with_reducible apply mark_quiet
    | with_reducible apply forEach_quiet
    | with_reducible apply modZone_quiet
    | with_reducible apply setStatus_quiet
    | with_reducible apply clearEvictees_quiet
    | with_reducible apply loseZone_quiet
    | with_reducible apply settleZones_quiet
    | split
    | intro _

theorem stampStorm_quiet (c : Slot) (h : Quiet s t) : Quiet s (stampStorm c t) := by
  unfold stampStorm
  split
  · exact quiet_arb _ (putStorm_quiet _ _ h)
  · exact h

theorem addStormZones_quiet (c : Slot) (zones : List ZoneId) (st : ZoneStatus)
    (h : Quiet s t) : Quiet s (addStormZones c zones st t) := by
  unfold addStormZones
  dsimp only
  repeat' first
    | with_reducible assumption
    | with_reducible apply putStorm_quiet
    | split
    | intro _

theorem unmarkStorm_quiet (c : Slot) (h : Quiet s t) : Quiet s (unmarkStorm c t) := by
  unfold unmarkStorm
  repeat' first
    | with_reducible assumption
    | with_reducible apply updClaimZones_quiet
    | split
    | intro _

theorem withdrawStorm_quiet (c : Slot) (h : Quiet s t) : Quiet s (withdrawStorm c t) := by
  unfold withdrawStorm
  dsimp only
  repeat' first
    | with_reducible assumption
    | with_reducible apply forEach_quiet
    | with_reducible apply updClaimZones_quiet
    | with_reducible apply removeEntry_quiet
    | with_reducible apply settleZones_quiet
    | split
    | intro _

theorem releaseStorm_quiet (c : Slot) (h : Quiet s t) : Quiet s (releaseStorm c t) := by
  unfold releaseStorm
  repeat' first
    | with_reducible assumption
    | with_reducible apply forEach_quiet
    | with_reducible apply settleZones_quiet
    | with_reducible apply releaseZone_quiet
    | split
    | intro _

theorem removeFromZone_quiet (c : Slot) (mine : List ClaimRef) (z : ZoneId)
    (h : Quiet s t) : Quiet s (removeFromZone c mine z t) := by
  unfold removeFromZone
  dsimp only
  repeat' first
    | with_reducible assumption
    | with_reducible apply updZone_quiet
    | with_reducible apply clearEvictees_quiet
    | split
    | intro _

theorem arbiterRemove_quiet (c : Slot) (h : Quiet s t) : Quiet s (arbiterRemove c t) := by
  unfold arbiterRemove
  dsimp only
  repeat' first
    | with_reducible assumption
    | with_reducible apply putStorm_quiet
    | with_reducible apply putPool_quiet
    | with_reducible apply forEach_quiet
    | with_reducible apply updEngine_quiet
    | with_reducible apply handOn_quiet
    | with_reducible apply settleZones_quiet
    | with_reducible apply removeFromZone_quiet
    | split
    | intro _

theorem arbiterCleared_quiet (h : Quiet s t) : Quiet s (arbiterCleared t) :=
  quiet_arb _ (forEach_quiet _ _ (fun _ _ k => updZone_quiet _ _ k) h)

/-! ### Booking -/

theorem addReason_quiet (c : Slot) (f : Reasons → Reasons) (h : Quiet s t) : Quiet s (addReason c f t) := by
  unfold addReason
  dsimp only
  repeat' first
    | with_reducible assumption
    | with_reducible apply updChannel_quiet
    | with_reducible apply withdrawClaim_quiet
    | split
    | intro _

theorem judgeChannelWind_quiet (c : Slot) (h : Quiet s t) : Quiet s (judgeChannelWind c t) := by
  unfold judgeChannelWind
  dsimp only
  repeat' first
    | with_reducible assumption
    | with_reducible apply updChannel_quiet
    | with_reducible apply addReason_quiet
    | split
    | intro _

theorem startIdle_quiet (c : Slot) (b : Booking) (h : Quiet s t) : Quiet s (startIdle c b t) := by
  unfold startIdle
  dsimp only
  repeat' first
    | with_reducible assumption
    | with_reducible apply updChannel_quiet
    | with_reducible apply updBooking_quiet
    | with_reducible apply judgeChannelWind_quiet
    | split
    | intro _

theorem startOver_quiet (c : Slot) (n : Nat) (returnsTo : Option Nat)
    (h : Quiet s t) : Quiet s (startOver c n returnsTo t) := by
  unfold startOver
  dsimp only
  repeat' first
    | with_reducible assumption
    | with_reducible apply updChannel_quiet
    | with_reducible apply updBooking_quiet
    | with_reducible apply judgeChannelWind_quiet
    | split
    | intro _

theorem interruptWith_quiet (c : Slot) (x u : Nat) (h : Quiet s t) : Quiet s (interruptWith c x u t) := by
  unfold interruptWith
  dsimp only
  repeat' first
    | with_reducible assumption
    | with_reducible apply updChannel_quiet
    | with_reducible apply updBooking_quiet
    | with_reducible apply withdrawBooking_quiet
    | with_reducible apply startOver_quiet
    | split
    | intro _

theorem urgentStart_quiet (c : Slot) (u : Booking) (h : Quiet s t) : Quiet s (urgentStart c u t) := by
  unfold urgentStart
  repeat' first
    | with_reducible assumption
    | with_reducible apply startIdle_quiet
    | with_reducible apply interruptWith_quiet
    | split
    | intro _

theorem gate_quiet (c : Slot) (h : Quiet s t) : Quiet s (gate c t) := by
  unfold gate
  repeat' first
    | with_reducible assumption
    | with_reducible apply startIdle_quiet
    | with_reducible apply urgentStart_quiet
    | split
    | intro _

theorem forgetLosses_quiet (n : Nat) (h : Quiet s t) : Quiet s (forgetLosses n t) := by
  unfold forgetLosses
  split
  · exact updChannel_quiet _ _ h
  · exact h

theorem endSteps_quiet (n : Nat) (st : BookingState) (out : BookingOutcome)
    (h : Quiet s t) : Quiet s (endSteps n st out t) := by
  unfold endSteps
  repeat' first
    | with_reducible assumption
    | with_reducible apply forgetLosses_quiet
    | with_reducible apply updBooking_quiet
    | with_reducible apply releaseBookingZones_quiet
    | with_reducible apply withdrawBooking_quiet
    | split
    | intro _

theorem idleAndGate_quiet (c : Slot) (h : Quiet s t) : Quiet s (idleAndGate c t) := by
  unfold idleAndGate
  repeat' first
    | with_reducible assumption
    | with_reducible apply updChannel_quiet
    | with_reducible apply gate_quiet
    | split
    | intro _

theorem resumeBooking_quiet (c : Slot) (x : Booking) (saved : SavedContext)
    (h : Quiet s t) : Quiet s (resumeBooking c x saved t) := by
  unfold resumeBooking
  dsimp only
  repeat' first
    | with_reducible assumption
    | with_reducible apply updChannel_quiet
    | with_reducible apply updBooking_quiet
    | with_reducible apply judgeChannelWind_quiet
    | with_reducible apply endSteps_quiet
    | with_reducible apply idleAndGate_quiet
    | split
    | intro _

theorem endBooking_quiet (c : Slot) (n : Nat) (st : BookingState) (out : BookingOutcome)
    (h : Quiet s t) : Quiet s (endBooking c n st out t) := by
  unfold endBooking
  dsimp only
  repeat' first
    | with_reducible assumption
    | with_reducible apply endSteps_quiet
    | with_reducible apply idleAndGate_quiet
    | with_reducible apply resumeBooking_quiet
    | split
    | intro _

theorem endCurrent_quiet (c : Slot) (st : BookingState) (code : OutcomeCode)
    (h : Quiet s t) : Quiet s (endCurrent c st code t) := by
  unfold endCurrent
  repeat' first
    | with_reducible assumption
    | with_reducible apply endBooking_quiet
    | split
    | intro _

theorem cancelInterrupted_quiet (b : Booking) (code : OutcomeCode)
    (h : Quiet s t) : Quiet s (cancelInterrupted b code t) := by
  unfold cancelInterrupted
  dsimp only
  repeat' first
    | with_reducible assumption
    | with_reducible apply forEach_quiet
    | with_reducible apply updChannel_quiet
    | with_reducible apply forgetLosses_quiet
    | with_reducible apply updBooking_quiet
    | with_reducible apply releaseBookingZones_quiet
    | split
    | intro _

theorem cancelBooking_quiet (b : Booking) (h : Quiet s t) : Quiet s (cancelBooking b t) := by
  unfold cancelBooking
  repeat' first
    | with_reducible assumption
    | with_reducible apply updBooking_quiet
    | with_reducible apply endBooking_quiet
    | with_reducible apply cancelInterrupted_quiet
    | split
    | intro _

theorem supersede_quiet (c : Slot) (n : Nat) (h : Quiet s t) : Quiet s (supersede c n t) := by
  unfold supersede
  repeat' first
    | with_reducible assumption
    | with_reducible apply startOver_quiet
    | with_reducible apply endSteps_quiet
    | split
    | intro _

theorem holdBack_quiet (c : Slot) (h : Quiet s t) : Quiet s (holdBack c t) := by
  unfold holdBack
  repeat' first
    | with_reducible assumption
    | with_reducible apply forEach_quiet
    | with_reducible apply updBooking_quiet
    | split
    | intro _

theorem letForward_quiet (c : Slot) (h : Quiet s t) : Quiet s (letForward c t) := by
  unfold letForward
  repeat' first
    | with_reducible assumption
    | with_reducible apply forEach_quiet
    | with_reducible apply updBooking_quiet
    | split
    | intro _

theorem lockoutBookings_quiet (c : Slot) (h : Quiet s t) : Quiet s (lockoutBookings c t) := by
  unfold lockoutBookings
  dsimp only
  repeat' first
    | with_reducible assumption
    | with_reducible apply updChannel_quiet
    | with_reducible apply endSteps_quiet
    | with_reducible apply cancelInterrupted_quiet
    | with_reducible apply holdBack_quiet
    | split
    | intro _

theorem cancelRemoved_quiet (c : Slot) (h : Quiet s t) : Quiet s (cancelRemoved c t) := by
  unfold cancelRemoved
  repeat' first
    | with_reducible assumption
    | with_reducible apply forEach_quiet
    | with_reducible apply updBooking_quiet
    | split
    | intro _

theorem minuteToBookings_quiet (p : Option Nat) (n : Nat) (h : Quiet s t) : Quiet s (minuteToBookings p n t) := by
  unfold minuteToBookings
  repeat' first
    | with_reducible assumption
    | with_reducible apply forEach_quiet
    | with_reducible apply updBooking_quiet
    | split
    | intro _

/-! ### Channel -/

theorem completeStep_quiet (c : Slot) (next : Nat) (h : Quiet s t) : Quiet s (completeStep c next t) := by
  unfold completeStep
  repeat' first
    | with_reducible assumption
    | with_reducible apply updChannel_quiet
    | split
    | intro _

theorem claimWaits_quiet (c : Slot) (claim : ChannelClaim) (h : Quiet s t) : Quiet s (claimWaits c claim t) := by
  unfold claimWaits
  repeat' first
    | with_reducible assumption
    | with_reducible apply updChannel_quiet
    | split
    | intro _

theorem sendClaim_quiet (c : Slot) (b : Booking) (zs : List Nat) (h : Quiet s t) : Quiet s (sendClaim c b zs t) := by
  have r := requestStanding_quiet c b.number b.priority (stepZones zs) h
  unfold sendClaim
  split
  · exact endCurrent_quiet _ _ _ h
  · generalize requestStanding c b.number b.priority (stepZones zs) t = q at r
    obtain ⟨u, a⟩ := q
    cases a
    · exact completeStep_quiet _ _ r
    all_goals exact claimWaits_quiet _ _ r

theorem startWait_quiet (c : Slot) (seconds : Nat) (h : Quiet s t) : Quiet s (startWait c seconds t) := by
  unfold startWait
  repeat' first
    | with_reducible assumption
    | with_reducible apply updChannel_quiet
    | split
    | intro _

theorem beginStep_quiet (c : Slot) (b : Booking) (step : PlanStep)
    (h : Quiet s t) : Quiet s (beginStep c b step t) := by
  unfold beginStep
  dsimp only
  repeat' first
    | with_reducible assumption
    | with_reducible apply updChannel_quiet
    | with_reducible apply offerNotice_quiet
    | with_reducible apply releaseBookingZones_quiet
    | with_reducible apply endCurrent_quiet
    | with_reducible apply completeStep_quiet
    | with_reducible apply sendClaim_quiet
    | with_reducible apply startWait_quiet
    | split
    | intro _

theorem channelAct_quiet (c : Slot) (h : Quiet s t) : Quiet s (channelAct c t) := by
  unfold channelAct
  repeat' first
    | with_reducible assumption
    | with_reducible apply offerNotice_quiet
    | with_reducible apply endCurrent_quiet
    | with_reducible apply sendClaim_quiet
    | with_reducible apply beginStep_quiet
    | split
    | intro _

theorem runSteps_quiet (c : Slot) (n : Nat) (h : Quiet s t) : Quiet s (runSteps c n t) := by
  induction n generalizing t with
  | zero => exact h
  | succ n ih =>
    unfold runSteps
    split
    · exact ih (channelAct_quiet c h)
    · exact h

theorem runChannel_quiet (c : Slot) (h : Quiet s t) : Quiet s (runChannel c t) := by
  unfold runChannel
  repeat' first
    | with_reducible assumption
    | with_reducible apply runSteps_quiet
    | split
    | intro _

theorem runNew_quiet (c : Slot) (old : State) (h : Quiet s t) : Quiet s (runNew c old t) := by
  unfold runNew
  split
  · exact runChannel_quiet c h
  · exact h

theorem gateAndRun_quiet (c : Slot) (h : Quiet s t) : Quiet s (gateAndRun c t) := by
  unfold gateAndRun
  repeat' first
    | with_reducible assumption
    | with_reducible apply gate_quiet
    | with_reducible apply runNew_quiet
    | split
    | intro _

theorem resumeIfActive_quiet (c : Slot) (old : State) (h : Quiet s t) : Quiet s (resumeIfActive c old t) := by
  unfold resumeIfActive
  split
  · exact runChannel_quiet c h
  · exact h

theorem removeReason_quiet (c : Slot) (f : Reasons → Reasons) (h : Quiet s t) : Quiet s (removeReason c f t) := by
  unfold removeReason
  repeat' first
    | with_reducible assumption
    | with_reducible apply updChannel_quiet
    | with_reducible apply resumeIfActive_quiet
    | split
    | intro _

theorem liftPause_quiet (c : Slot) (h : Quiet s t) : Quiet s (liftPause c t) := by
  unfold liftPause
  repeat' first
    | with_reducible assumption
    | with_reducible apply updChannel_quiet
    | with_reducible apply resumeIfActive_quiet
    | split
    | intro _

theorem takeNextStep_quiet (c : Slot) (h : Quiet s t) : Quiet s (takeNextStep c t) := by
  unfold takeNextStep
  repeat' first
    | with_reducible assumption
    | with_reducible apply runChannel_quiet
    | split
    | intro _

theorem resendClaim_quiet (c : Slot) (h : Quiet s t) : Quiet s (resendClaim c t) := by
  unfold resendClaim
  repeat' first
    | with_reducible assumption
    | with_reducible apply sendClaim_quiet
    | with_reducible apply runNew_quiet
    | split
    | intro _

theorem takeRetry_quiet (c : Slot) (h : Quiet s t) : Quiet s (takeRetry c t) := by
  unfold takeRetry
  repeat' first
    | with_reducible assumption
    | with_reducible apply resendClaim_quiet
    | split
    | intro _

theorem retryAlreadyWaiting_quiet (c : Slot) (h : Quiet s t) : Quiet s (retryAlreadyWaiting c t) := by
  unfold retryAlreadyWaiting
  repeat' first
    | with_reducible assumption
    | with_reducible apply resendClaim_quiet
    | split
    | intro _

theorem judgeAwait_quiet (c : Slot) (p : Pose) (old : State) (h : Quiet s t) : Quiet s (judgeAwait c p old t) := by
  unfold judgeAwait
  repeat' first
    | with_reducible assumption
    | with_reducible apply completeStep_quiet
    | split

theorem offerAck_quiet (c : Slot) (code : Byte) (h : Quiet s t) : Quiet s (offerAck c code t) := by
  unfold offerAck
  repeat' first
    | with_reducible assumption
    | with_reducible apply completeStep_quiet
    | split
    | intro _

theorem expireWait_quiet (c : Slot) (h : Quiet s t) : Quiet s (expireWait c t) := by
  unfold expireWait
  dsimp only
  repeat' first
    | with_reducible assumption
    | with_reducible apply updChannel_quiet
    | with_reducible apply withdrawClaim_quiet
    | with_reducible apply endCurrent_quiet
    | with_reducible apply completeStep_quiet
    | with_reducible apply runNew_quiet
    | split
    | intro _

theorem countTick_quiet (c : Slot) (h : Quiet s t) : Quiet s (countTick c t) := by
  unfold countTick
  dsimp only
  repeat' first
    | with_reducible assumption
    | with_reducible apply updChannel_quiet
    | with_reducible apply completeStep_quiet
    | split
    | intro _

theorem recordLoss_quiet (c : Slot) (x : Loss) (h : Quiet s t) : Quiet s (recordLoss c x t) := by
  unfold recordLoss
  repeat' first
    | with_reducible assumption
    | with_reducible apply updChannel_quiet
    | split
    | intro _

theorem takeLosses_quiet (c : Slot) (h : Quiet s t) : Quiet s (takeLosses c t) := by
  unfold takeLosses
  dsimp only
  repeat' first
    | with_reducible assumption
    | with_reducible apply forEach_quiet
    | with_reducible apply updChannel_quiet
    | with_reducible apply endCurrent_quiet
    | with_reducible apply runNew_quiet
    | with_reducible apply recordLoss_quiet
    | split
    | intro _

theorem expireCalm_quiet (c : Slot) (h : Quiet s t) : Quiet s (expireCalm c t) := by
  unfold expireCalm
  repeat' first
    | with_reducible assumption
    | with_reducible apply updChannel_quiet
    | with_reducible apply removeReason_quiet
    | split
    | intro _

/-! ### Wind -/

theorem recomputeValues_quiet (c : Slot) (h : Quiet s t) : Quiet s (recomputeValues c t) := by
  unfold recomputeValues
  repeat' first
    | with_reducible assumption
    | with_reducible apply updWind_quiet
    | split
    | intro _

theorem requestNewZone_quiet (c : Slot) (z : ZoneId) (h : Quiet s t) : Quiet s (requestNewZone c z t) := by
  unfold requestNewZone
  repeat' first
    | with_reducible assumption
    | with_reducible apply requestStorm_quiet
    | with_reducible apply addStormZones_quiet
    | split
    | intro _

theorem buildStorm_quiet (c : Slot) (h : Quiet s t) : Quiet s (buildStorm c t) := by
  unfold buildStorm
  dsimp only
  repeat' first
    | with_reducible assumption
    | with_reducible apply mark_quiet
    | with_reducible apply forEach_quiet
    | with_reducible apply evictFrom_quiet
    | with_reducible apply settleZones_quiet
    | with_reducible apply stampStorm_quiet
    | with_reducible apply addStormZones_quiet
    | with_reducible apply unmarkStorm_quiet
    | with_reducible apply requestNewZone_quiet
    | split
    | intro _

theorem completeExit_quiet (c : Slot) (h : Quiet s t) : Quiet s (completeExit c t) := by
  unfold completeExit
  repeat' first
    | with_reducible assumption
    | with_reducible apply mark_quiet
    | with_reducible apply updWind_quiet
    | with_reducible apply withdrawStorm_quiet
    | with_reducible apply releaseStorm_quiet
    | split
    | intro _

theorem beginExit_quiet (c : Slot) (h : Quiet s t) : Quiet s (beginExit c t) := by
  unfold beginExit
  repeat' first
    | with_reducible assumption
    | with_reducible apply updWind_quiet
    | with_reducible apply completeExit_quiet
    | split
    | intro _

theorem enterStorm_quiet (c : Slot) (h : Quiet s t) : Quiet s (enterStorm c t) := by
  unfold enterStorm
  repeat' first
    | with_reducible assumption
    | with_reducible apply updWind_quiet
    | with_reducible apply buildStorm_quiet
    | split
    | intro _

theorem refreshStorm_quiet (c : Slot) (h : Quiet s t) : Quiet s (refreshStorm c t) := by
  unfold refreshStorm
  dsimp only
  repeat' first
    | with_reducible assumption
    | with_reducible apply markIf_quiet
    | with_reducible apply updWind_quiet
    | split
    | intro _

theorem recomputeEffective_quiet (c : Slot) (h : Quiet s t) : Quiet s (recomputeEffective c t) := by
  unfold recomputeEffective
  dsimp only
  repeat' first
    | with_reducible assumption
    | with_reducible apply updWind_quiet
    | with_reducible apply judgeChannelWind_quiet
    | with_reducible apply gateAndRun_quiet
    | with_reducible apply beginExit_quiet
    | with_reducible apply enterStorm_quiet
    | split
    | intro _

theorem riseOwn_quiet (c : Slot) (h : Quiet s t) : Quiet s (riseOwn c t) := by
  unfold riseOwn
  dsimp only
  repeat' first
    | with_reducible assumption
    | with_reducible apply updWind_quiet
    | split
    | intro _

theorem judgeRelease_quiet (c : Slot) (h : Quiet s t) : Quiet s (judgeRelease c t) := by
  unfold judgeRelease
  repeat' first
    | with_reducible assumption
    | with_reducible apply updWind_quiet
    | split
    | intro _

theorem evaluate_quiet (c : Slot) (h : Quiet s t) : Quiet s (evaluate c t) := by
  unfold evaluate
  repeat' first
    | with_reducible assumption
    | with_reducible apply judgeChannelWind_quiet
    | with_reducible apply recomputeEffective_quiet
    | with_reducible apply riseOwn_quiet
    | with_reducible apply judgeRelease_quiet
    | split
    | intro _

theorem evaluateCrane_quiet (c : Slot) (h : Quiet s t) : Quiet s (evaluateCrane c t) := by
  unfold evaluateCrane
  repeat' first
    | with_reducible assumption
    | with_reducible apply gateAndRun_quiet
    | with_reducible apply recomputeValues_quiet
    | with_reducible apply evaluate_quiet
    | split
    | intro _

theorem reevaluateBorrower_quiet (c : Slot) (h : Quiet s t) : Quiet s (reevaluateBorrower c t) := by
  unfold reevaluateBorrower
  repeat' first
    | with_reducible assumption
    | with_reducible apply evaluateCrane_quiet
    | split
    | intro _

theorem reevaluateBorrowers_quiet (skip : Option Slot) (h : Quiet s t) : Quiet s (reevaluateBorrowers skip t) := by
  unfold reevaluateBorrowers
  repeat' first
    | with_reducible assumption
    | with_reducible apply forEach_quiet
    | with_reducible apply reevaluateBorrower_quiet
    | split
    | intro _

theorem examineBrake_quiet (c : Slot) (p : Pose) (h : Quiet s t) : Quiet s (examineBrake c p t) := by
  unfold examineBrake
  repeat' first
    | with_reducible assumption
    | with_reducible apply completeExit_quiet
    | split
    | intro _

theorem windTakesPose_quiet (c : Slot) (p : Pose) (h : Quiet s t) : Quiet s (windTakesPose c p t) := by
  unfold windTakesPose
  dsimp only
  repeat' first
    | with_reducible assumption
    | with_reducible apply updWind_quiet
    | with_reducible apply gateAndRun_quiet
    | with_reducible apply recomputeValues_quiet
    | with_reducible apply evaluate_quiet
    | with_reducible apply reevaluateBorrowers_quiet
    | with_reducible apply examineBrake_quiet
    | split
    | intro _

theorem closeBuckets_quiet (h : Quiet s t) : Quiet s (closeBuckets t) := by
  unfold closeBuckets
  split
  · exact forEach_quiet _ _ (fun _ _ k => evaluateCrane_quiet _ k)
      (forEach_quiet _ _ (fun _ _ k => updWind_quiet _ _ k) (quiet_wind _ h))
  · exact h

theorem windStale_quiet (c : Slot) (h : Quiet s t) : Quiet s (windStale c t) := by
  unfold windStale
  repeat' first
    | with_reducible assumption
    | with_reducible apply updChannel_quiet
    | with_reducible apply updWind_quiet
    | with_reducible apply reevaluateBorrowers_quiet
    | split
    | intro _

theorem expireCalmDown_quiet (c : Slot) (h : Quiet s t) : Quiet s (expireCalmDown c t) := by
  unfold expireCalmDown
  dsimp only
  repeat' first
    | with_reducible assumption
    | with_reducible apply updWind_quiet
    | with_reducible apply recomputeEffective_quiet
    | split
    | intro _

theorem expireStormAfterHold_quiet (c : Slot) (h : Quiet s t) : Quiet s (expireStormAfterHold c t) := by
  unfold expireStormAfterHold
  repeat' first
    | with_reducible assumption
    | with_reducible apply updWind_quiet
    | with_reducible apply recomputeEffective_quiet
    | split
    | intro _

theorem profileTimers_quiet (old : SiteProfile) (h : Quiet s t) : Quiet s (profileTimers old t) := by
  unfold profileTimers
  dsimp only
  repeat' first
    | with_reducible assumption
    | with_reducible apply forEach_quiet
    | with_reducible apply updWind_quiet
    | with_reducible apply expireCalmDown_quiet
    | with_reducible apply expireStormAfterHold_quiet
    | split
    | intro _

theorem declare_quiet (level : WindLevel) (h : Quiet s t) : Quiet s (declare level t) := by
  unfold declare
  split
  · exact h
  · exact forEach_quiet _ _ (fun _ _ k => recomputeEffective_quiet _ k)
      (forEach_quiet _ _ (fun _ _ k => mark_quiet _ k) (quiet_wind _ h))

theorem clearWind_quiet (c : Slot) (h : Quiet s t) : Quiet s (clearWind c t) := by
  unfold clearWind
  repeat' first
    | with_reducible assumption
    | with_reducible apply updWind_quiet
    | split
    | intro _

/-! ### CraneState -/

theorem firstFault_quiet (c : Slot) (cause : FaultCause) (cell : Option CellPos)
    (h : Quiet s t) : Quiet s (firstFault c cause cell t) := by
  unfold firstFault
  dsimp only
  repeat' first
    | with_reducible assumption
    | with_reducible apply mark_quiet
    | with_reducible apply modCrane_quiet
    | with_reducible apply withdrawCrane_quiet
    | with_reducible apply addReason_quiet
    | split
    | intro _

theorem escalate_quiet (c : Slot) (cause : FaultCause) (cell : Option CellPos)
    (h : Quiet s t) : Quiet s (escalate c cause cell t) := by
  unfold escalate
  dsimp only
  repeat' first
    | with_reducible assumption
    | with_reducible apply mark_quiet
    | with_reducible apply setRecovery_quiet
    | with_reducible apply modCrane_quiet
    | with_reducible apply withdrawCrane_quiet
    | with_reducible apply lockoutBookings_quiet
    | split
    | intro _

theorem setCondition_quiet (c : Slot) (met : Bool) (h : Quiet s t) : Quiet s (setCondition c met t) := by
  unfold setCondition
  repeat' first
    | with_reducible assumption
    | with_reducible apply updCrane_quiet
    | split
    | intro _

theorem raiseInFault_quiet (c : Slot) (f : ActiveFault) (cause : FaultCause) (cell : Option CellPos)
    (h : Quiet s t) : Quiet s (raiseInFault c f cause cell t) := by
  unfold raiseInFault
  repeat' first
    | with_reducible assumption
    | with_reducible apply updCrane_quiet
    | with_reducible apply escalate_quiet
    | with_reducible apply setCondition_quiet
    | split
    | intro _

theorem raise_quiet (c : Slot) (cause : FaultCause) (cell : Option CellPos)
    (h : Quiet s t) : Quiet s (raise c cause cell t) := by
  unfold raise
  dsimp only
  repeat' first
    | with_reducible assumption
    | with_reducible apply updCrane_quiet
    | with_reducible apply firstFault_quiet
    | with_reducible apply raiseInFault_quiet
    | split
    | intro _

theorem clearTheFault_quiet (c : Slot) (way : EndWay) (place : ClearPlace)
    (h : Quiet s t) : Quiet s (clearTheFault c way place t) := by
  unfold clearTheFault
  dsimp only
  repeat' first
    | with_reducible assumption
    | with_reducible apply mark_quiet
    | with_reducible apply setRecovery_quiet
    | with_reducible apply modCrane_quiet
    | with_reducible apply placeLinkMade_quiet
    | with_reducible apply gateAndRun_quiet
    | with_reducible apply removeReason_quiet
    | split
    | intro _

theorem judgeAutoClear_quiet (c : Slot) (place : ClearPlace) (h : Quiet s t) : Quiet s (judgeAutoClear c place t) := by
  unfold judgeAutoClear
  repeat' first
    | with_reducible assumption
    | with_reducible apply clearTheFault_quiet
    | split
    | intro _

theorem conditionHolds_quiet (c : Slot) (cause : FaultCause) (place : ClearPlace)
    (h : Quiet s t) : Quiet s (conditionHolds c cause place t) := by
  unfold conditionHolds
  repeat' first
    | with_reducible assumption
    | with_reducible apply setCondition_quiet
    | with_reducible apply judgeAutoClear_quiet
    | split
    | intro _

theorem conditionCeases_quiet (c : Slot) (cause : FaultCause)
    (h : Quiet s t) : Quiet s (conditionCeases c cause t) := by
  unfold conditionCeases
  repeat' first
    | with_reducible assumption
    | with_reducible apply setCondition_quiet
    | split
    | intro _

theorem linkReturns_quiet (c : Slot) (h : Quiet s t) : Quiet s (linkReturns c t) := by
  unfold linkReturns
  repeat' first
    | with_reducible assumption
    | with_reducible apply updCrane_quiet
    | split
    | intro _

theorem releaseEStop_quiet (c : Slot) (h : Quiet s t) : Quiet s (releaseEStop c t) := by
  unfold releaseEStop
  repeat' first
    | with_reducible assumption
    | with_reducible apply updCrane_quiet
    | split
    | intro _

theorem craneTakesPose_quiet (c : Slot) (p : Pose) (k : Bool) (h : Quiet s t) : Quiet s (craneTakesPose c p k t) := by
  unfold craneTakesPose
  dsimp only
  repeat' first
    | with_reducible assumption
    | with_reducible apply setCondition_quiet
    | with_reducible apply raise_quiet
    | with_reducible apply judgeAutoClear_quiet
    | with_reducible apply releaseEStop_quiet
    | split
    | intro _

theorem judgePresent_quiet (c : Slot) (join : Bool) (intrusion : Option CellPos) (check : Option RecoveryCheck)
    (h : Quiet s t) : Quiet s (judgePresent c join intrusion check t) := by
  unfold judgePresent
  dsimp only
  repeat' first
    | with_reducible assumption
    | with_reducible apply updCrane_quiet
    | with_reducible apply raise_quiet
    | with_reducible apply conditionHolds_quiet
    | with_reducible apply conditionCeases_quiet
    | split
    | intro _

theorem judgeChart_quiet (c : Slot) (overload : Bool) (h : Quiet s t) : Quiet s (judgeChart c overload t) := by
  unfold judgeChart
  repeat' first
    | with_reducible assumption
    | with_reducible apply raise_quiet
    | with_reducible apply conditionHolds_quiet
    | split
    | intro _

/-! ### Engine -/

theorem concludeComputation_quiet (c : Slot) (before : Engine) (k : Computation)
    (h : Quiet s t) : Quiet s (concludeComputation c before k t) := by
  unfold concludeComputation
  dsimp only
  repeat' first
    | with_reducible assumption
    | with_reducible apply markIf_quiet
    | with_reducible apply updEngine_quiet
    | with_reducible apply placeFrame_quiet
    | split
    | intro _

theorem compute_quiet (c : Slot) (r : CraneRecord) (p : Pose) (h : Quiet s t) : Quiet s (compute c r p t) := by
  unfold compute
  dsimp only
  repeat' first
    | with_reducible assumption
    | with_reducible apply updEngine_quiet
    | with_reducible apply transitHandOver_quiet
    | with_reducible apply handOver_quiet
    | with_reducible apply judgePresent_quiet
    | with_reducible apply judgeChart_quiet
    | with_reducible apply concludeComputation_quiet
    | split
    | intro _

/-! ### Cab -/

theorem takeInvalid_quiet (c : Slot) (q : Quantity) (h : Quiet s t) : Quiet s (takeInvalid c q t) := by
  unfold takeInvalid
  have r : Quiet s (updLink c (fun l =>
      { l with invalidStreak := min 255 ((t.link c).invalidStreak + 1), lastInvalid := some q }) t) :=
    updLink_quiet c _ (fun k => ⟨k.1, Nat.min_le_left _ _, k.2.2⟩) h
  dsimp only
  split
  · exact raise_quiet _ _ _ r
  · exact r

theorem poseStage3_quiet (c : Slot) (r : CraneRecord) (p : Pose) (h : Quiet s t) : Quiet s (poseStage3 c r p t) := by
  unfold poseStage3
  repeat' first
    | with_reducible assumption
    | with_reducible apply judgeAwait_quiet
    | with_reducible apply retryAlreadyWaiting_quiet
    | with_reducible apply compute_quiet
    | with_reducible apply placeLinkMade_quiet
    | split

theorem handOn3_quiet (c : Slot) (r : CraneRecord) (p : Pose) (k : Bool) (h : Quiet s t) :
    Quiet s (handOn3 c r p k t) := by
  unfold handOn3
  dsimp only
  repeat' first
    | with_reducible assumption
    | with_reducible apply gateAndRun_quiet
    | with_reducible apply windTakesPose_quiet
    | with_reducible apply craneTakesPose_quiet
    | with_reducible apply poseStage3_quiet
    | split
    | intro _

theorem acceptPose_quiet (c : Slot) (r : CraneRecord) (p : Pose) (h : Quiet s t) : Quiet s (acceptPose c r p t) := by
  unfold acceptPose
  have k : Quiet s (updLink c (Link.accepts p) t) := updLink_quiet c _ (fun k => ⟨k.1, Nat.zero_le _, k.2.2⟩) h
  dsimp only
  split
  · exact handOn3_quiet c r p _ k
  · exact handOn3_quiet c r p _ (linkReturns_quiet c k)

theorem takePose_quiet (c : Slot) (f : PoseFrame) (h : Quiet s t) : Quiet s (takePose c f t) := by
  unfold takePose
  repeat' first
    | with_reducible assumption
    | with_reducible apply takeInvalid_quiet
    | with_reducible apply acceptPose_quiet
    | split
    | intro _

theorem takeEStop_quiet (c : Slot) (h : Quiet s t) : Quiet s (takeEStop c t) := by
  unfold takeEStop
  repeat' first
    | with_reducible assumption
    | with_reducible apply raise_quiet
    | split
    | intro _

theorem takeAck_quiet (c : Slot) (code : Byte) (h : Quiet s t) : Quiet s (takeAck c code t) := by
  unfold takeAck
  split
  · exact offerAck_quiet _ _ (mark_quiet _
      (updLink_quiet c _ (fun k => ⟨k.1, k.2.1, k.2.2.1, Nat.mod_lt _ (by decide)⟩) h))
  · exact h

theorem becomeStale_quiet (c : Slot) (h : Quiet s t) : Quiet s (becomeStale c t) := by
  unfold becomeStale
  split
  · exact windStale_quiet c (arbiterStale_quiet c (conditionCeases_quiet c _
      (placeLinkMade_quiet c (updLink_quiet c _ (fun k => k) h))))
  · exact h

theorem becomeLost_quiet (c : Slot) (h : Quiet s t) : Quiet s (becomeLost c t) := by
  unfold becomeLost
  split
  · exact withdrawCrane_quiet c (raise_quiet c _ _ (updLink_quiet c _ (fun k => k) h))
  · exact h

end Sys2Proof.Machine
end

