-- ==== Sys2Proof/Laws/Served.lean ====
section
/-! SUPPORT. What a request leaves alone. `Served s t` says that t comes of s by the checks and effects of a request or by
a start-up action of survey entry, survey exit, configuration, removal or admission: the queue of commands, the supply, the
uptime, and the port's receiver, input queue, request in hand, reply slot and transmitter are as they were. One lemma per
request; `dispatch_served` gathers them. -/

namespace Sys2Proof.Machine

/-- A state after a request is served, before its reply is placed (see the head of this file). -/
structure Served (s t : State) : Prop where
  pending : t.pending = s.pending
  events : t.events = s.events
  power : t.power = s.power
  uptime : t.clock.uptime = s.clock.uptime
  receiver : t.port.receiver = s.port.receiver
  queue : t.port.queue = s.port.queue
  hand : t.port.hand = s.port.hand
  slot : t.port.slot = s.port.slot
  tx : t.port.tx = s.port.tx
  reports : s.port.reports.Nodup ∧ (∀ k ∈ s.port.reports, k.kind ∉ s.port.masks) →
    t.port.reports.Nodup ∧ ∀ k ∈ t.port.reports, k.kind ∉ t.port.masks
  errors : s.port.errors.Nodup → t.port.errors.Nodup
  links : (∀ c, (s.link c).WellKept) → ∀ c, (t.link c).WellKept

theorem Served.refl (s : State) : Served s s := ⟨rfl, rfl, rfl, rfl, rfl, rfl, rfl, rfl, rfl, id, id, id⟩

theorem Served.trans {s t u : State} (h : Served s t) (k : Served t u) : Served s u :=
  ⟨k.1.trans h.1, k.2.trans h.2, k.3.trans h.3, k.4.trans h.4, k.5.trans h.5, k.6.trans h.6, k.7.trans h.7,
    k.8.trans h.8, k.9.trans h.9, k.10 ∘ h.10, k.11 ∘ h.11, k.12 ∘ h.12⟩

theorem Quiet.served {s t : State} (h : Quiet s t) : Served s t :=
  ⟨h.1, h.2, h.3, by rw [h.4], h.7.1, h.7.2, h.7.3, h.7.4, h.7.5, fun k => ⟨h.7.9 k.1, h.7.10 k.2⟩,
    fun k => by rw [h.7.7]; exact k, h.8⟩

/-- Work of the blocks after a served state. -/
theorem Served.quiet {s t u : State} (h : Served s t) (k : Quiet t u) : Served s u := h.trans k.served

variable {s t : State}

theorem served_geo (g : Geometry) (h : Served s t) : Served s { t with geo := g } := ⟨h.1, h.2, h.3, h.4, h.5, h.6, h.7,
  h.8, h.9, h.10, h.11, h.12⟩
theorem served_plans (p : Vector (Option Plan) 32) (h : Served s t) : Served s { t with plans := p } :=
  ⟨h.1, h.2, h.3, h.4, h.5, h.6, h.7, h.8, h.9, h.10, h.11, h.12⟩
theorem served_clock (k : Clock) (e : k.uptime = t.clock.uptime) (h : Served s t) : Served s { t with clock := k } :=
  ⟨h.1, h.2, h.3, e.trans h.4, h.5, h.6, h.7, h.8, h.9, h.10, h.11, h.12⟩

theorem putSlot_served (s : State) (c : Slot) (x : CraneSlot) : Served s (s.putSlot c x) := served_geo _ (.refl s)

/-- A served state with its answer. -/
theorem pair_served {a : Answer} (h : Served s t) : Served s (t, a).1 := h

/-! ## Survey, configuration, removal, admission -/

theorem clearEngine_quiet (c : Slot) (h : Quiet s t) : Quiet s (clearEngine c t) :=
  putEngine_quiet _ _ (updEvict_quiet _ _ (setRecovery_quiet _ _ h))

theorem failAtExit_quiet (n : Nat) (h : Quiet s t) : Quiet s (failAtExit n t) := by
  unfold failAtExit
  repeat' first
    | with_reducible assumption
    | with_reducible apply updBooking_quiet
    | split

theorem enterSurvey_served (s : State) : Served s (enterSurvey s) :=
  (served_geo _ (Served.refl s)).quiet
    (forEach_quiet _ _ (fun _ _ k => placeLinkMade_quiet _ k)
      (forEach_quiet _ _ (fun _ _ k => updWind_quiet _ _ (updCrane_quiet _ _ (updChannel_quiet _ _ k)))
        (forEach_quiet _ _ (fun _ _ k => clearEngine_quiet _ k) (arbiterCleared_quiet (Quiet.refl _)))))

theorem beginExitWrite_served (s : State) : Served s (beginExitWrite s) :=
  (served_plans _ (served_geo _ (Served.refl s))).quiet
    (forEach_quiet _ _ (fun _ _ k => failAtExit_quiet _ k) (Quiet.refl _))

theorem joinAtExit_quiet (c : Slot) (h : Quiet s t) : Quiet s (joinAtExit c t) :=
  letForward_quiet _ (updChannel_quiet _ _ (updCrane_quiet _ _ h))

theorem completeSurveyExit_served (s : State) : Served s (completeSurveyExit s) :=
  (served_geo _ (Served.refl s)).quiet
    (forEach_quiet _ _ (fun _ _ k => gateAndRun_quiet _ k)
      (forEach_quiet _ _ (fun _ _ k => buildStorm_quiet _ k)
        (forEach_quiet _ _ (fun _ _ k => placeLinkMade_quiet _ k)
          (forEach_quiet _ _ (fun _ _ k => updWind_quiet _ _ (updChannel_quiet _ _ k))
            (forEach_quiet _ _ (fun _ _ k => joinAtExit_quiet _ k)
              (forEach_quiet _ _ (fun _ _ k => clearEngine_quiet _ k) (arbiterCleared_quiet (Quiet.refl _))))))))

theorem clearForSlot_quiet (c : Slot) (h : Quiet s t) : Quiet s (clearForSlot c t) :=
  clearEngine_quiet _ (clearWind_quiet _ (updChannel_quiet _ _ h))

theorem Link.emptied_wellKept (st : LinkState) {l : Link} (h : l.WellKept) : (l.emptied st).WellKept :=
  ⟨Nat.zero_le _, Nat.zero_le _, h.2.2.1, by show 0 < 65536; decide⟩

theorem Link.becomesConfigured_wellKept {l : Link} (h : l.WellKept) : l.becomesConfigured.WellKept :=
  ⟨Nat.zero_le _, Nat.zero_le _, h.2.2.1, by show 0 < 65536; decide⟩

theorem Link.becomesUnused_wellKept {l : Link} (h : l.WellKept) : l.becomesUnused.WellKept :=
  ⟨Nat.zero_le _, Nat.zero_le _, h.2.2.1, by show 0 < 65536; decide⟩

theorem configureSlot_served (c : Slot) (r : CraneRecord) (s : State) : Served s (configureSlot c r s) := by
  refine (putSlot_served s c { CraneSlot.unconfigured with record := some r }).quiet ?_
  have h := Quiet.refl (s.putSlot c { CraneSlot.unconfigured with record := some r })
  unfold configureSlot
  dsimp only [State.putExcluded]
  exact reevaluateBorrowers_quiet _ (recomputeValues_quiet _ (placeLinkMade_quiet _
    (updLink_quiet _ _ Link.becomesConfigured_wellKept
      (letForward_quiet _ (updCrane_quiet _ _ (clearForSlot_quiet _ h))))))

theorem unconfigureSlot_served (c : Slot) (s : State) : Served s (unconfigureSlot c s) := by
  refine (putSlot_served s c .unconfigured).quiet ?_
  have h := Quiet.refl (s.putSlot c .unconfigured)
  unfold unconfigureSlot
  dsimp only [State.putExcluded]
  exact reevaluateBorrowers_quiet _ (updLink_quiet _ _ Link.becomesUnused_wellKept
    (holdBack_quiet _ (updCrane_quiet _ _ (clearForSlot_quiet _ h))))

theorem removeCrane_served (c : Slot) (s : State) : Served s (removeCrane c s) := by
  refine (putSlot_served s c { s.slotOf c with excluded := true }).quiet ?_
  have h := Quiet.refl (s.putSlot c { s.slotOf c with excluded := true })
  unfold removeCrane
  dsimp only [State.putExcluded]
  exact reevaluateBorrowers_quiet _ (placeLinkMade_quiet _ (updLink_quiet _ _ (fun k => Link.emptied_wellKept _ k)
    (clearEngine_quiet _ (clearWind_quiet _ (arbiterRemove_quiet _ (releaseEStop_quiet _ (updCrane_quiet _ _
      (updChannel_quiet _ _ (cancelRemoved_quiet _ h)))))))))

theorem admitCrane_served (c : Slot) (s : State) : Served s (admitCrane c s) := by
  refine (putSlot_served s c { s.slotOf c with excluded := false }).quiet ?_
  have h := Quiet.refl (s.putSlot c { s.slotOf c with excluded := false })
  unfold admitCrane
  dsimp only [State.putExcluded]
  refine reevaluateBorrowers_quiet _ (recomputeValues_quiet _ ?_)
  generalize hu : placeLinkMade c _ = u
  have k : Quiet (s.putSlot c { s.slotOf c with excluded := false }) u := by
    rw [← hu]
    exact placeLinkMade_quiet _ (updLink_quiet _ _ (fun k => Link.emptied_wellKept _ k)
      (clearEngine_quiet _ (letForward_quiet _ (updChannel_quiet _ _ (updCrane_quiet _ _ h)))))
  split
  · exact buildStorm_quiet _ k
  · exact k

/-! ## Forms of requests -/

theorem onSlot_served {n : Nat} {f : Slot → State → State × Answer} (hf : ∀ c, Served s (f c s).1) :
    Served s (onSlot n f s).1 := by
  unfold onSlot
  split
  · exact .refl s
  · exact hf _

theorem onCrane_served {n : Nat} {f : Slot → State → State × Answer} (hf : ∀ c, Served s (f c s).1) :
    Served s (onCrane n f s).1 := by
  refine onSlot_served fun c => ?_
  split
  · exact hf _
  · exact .refl s

theorem readingOf_served (n : Nat) (f : State → Slot → ReplyBody) : Served s (readingOf n f s).1 :=
  onCrane_served fun _ => .refl s

theorem inOperate_served {f : State → State × Answer} (hf : Served s (f s).1) : Served s (inOperate f s).1 := by
  unfold inOperate
  split
  · exact hf
  · exact .refl s

theorem inSurvey_served {f : State → State × Answer} (hf : Served s (f s).1) : Served s (inSurvey f s).1 := by
  unfold inSurvey
  split
  · exact .refl s
  · exact hf

theorem onZone_served {n : Nat} {f : ZoneId → State → State × Answer} (hf : ∀ z, Served s (f z s).1) :
    Served s (onZone n f s).1 := by
  refine inOperate_served ?_
  split
  · exact .refl s
  · exact hf _

/-! ## The requests -/

theorem doReset_served : Served s (doReset s).1 := ⟨rfl, rfl, rfl, rfl, rfl, rfl, rfl, rfl, rfl, id, id, id⟩

theorem doReadErrors_served : Served s (doReadErrors s).1 :=
  ⟨rfl, rfl, rfl, rfl, rfl, rfl, rfl, rfl, rfl, id, fun _ => List.nodup_nil, id⟩

theorem masked_served (kinds : List KeyKind) : Served s { s with port := s.port.masked kinds } :=
  ⟨rfl, rfl, rfl, rfl, rfl, rfl, rfl, rfl, rfl, fun k => ⟨k.1.filter _, fun x hx => by
    have := List.of_mem_filter hx
    simpa [SitePort.masked] using this⟩, id, id⟩

theorem doSetReportMask_served (kinds : List KeyKind) : Served s (doSetReportMask kinds s).1 := by
  unfold doSetReportMask
  dsimp only
  split
  · exact (masked_served _).quiet (forEach_quiet _ _ (fun _ _ k => freeBooking_quiet _ k) (Quiet.refl _))
  · exact masked_served _

theorem relaySkip_room {c : Slot} (h : s.relaySkip? c = none) : (s.link c).notices.length < Config.noticeCapacity := by
  unfold State.relaySkip? at h
  split at h
  · cases h
  · split at h
    · cases h
    · split at h
      · cases h
      · omega

theorem relayOne_quiet (n : CabNotice) (c : Slot) (r : State × List Slot × List (Slot × SkipReason))
    (h : Quiet s r.1) : Quiet s (relayOne n c r).1 := by
  unfold relayOne
  split
  · exact h
  · rename_i e
    refine kickCab_quiet c (updLink_quiet c _ (fun k => ⟨?_, k.2⟩) h)
    simpa using relaySkip_room e

theorem doRelay_served (dest : RelayDest) (code : Byte) (ack : Bool) (text : List Byte) :
    Served s (doRelay dest code ack text s).1 := by
  unfold doRelay
  dsimp only
  split
  · exact .refl s
  · split
    · exact .refl s
    · split
      · exact .refl s
      · rename_i cranes _
        have go : ∀ (l : List Slot) (r : State × List Slot × List (Slot × SkipReason)), Quiet s r.1 →
            Quiet s (l.foldl (fun r c => relayOne (.text code ack text) c r) r).1 := by
          intro l
          induction l with
          | nil => exact fun r h => h
          | cons c l ih => exact fun r h => ih _ (relayOne_quiet _ c r h)
        exact pair_served (Quiet.served (go _ _ (Quiet.refl s)))

theorem deliverMinute_quiet (p : Option Nat) (n : Nat) (h : Quiet s t) : Quiet s (deliverMinute p n t) :=
  forEach_quiet _ _ (fun _ _ k => gateAndRun_quiet _ k) (minuteToBookings_quiet _ _ h)

theorem setMinute_served (m : Nat) (h : Served s t) : Served s (setMinute m t) := by
  have k : Served s { t with clock := { t.clock with minute := some m, minutePhase := some t.now } } :=
    served_clock _ rfl h
  unfold setMinute
  dsimp only
  split
  · exact k.quiet (deliverMinute_quiet _ _ (Quiet.refl _))
  · split
    · exact k.quiet (deliverMinute_quiet _ _ (Quiet.refl _))
    · exact k

theorem doSetClock_served (m p : Option Nat) : Served s (doSetClock m p s).1 := by
  unfold doSetClock
  dsimp only
  split
  · split
    · exact .refl s
    · split
      · exact served_clock _ rfl (setMinute_served _ (.refl s))
      · exact setMinute_served _ (.refl s)
  · split
    · exact .refl s
    · split
      · exact served_clock _ rfl (.refl s)
      · exact .refl s

theorem doEnterSurvey_served : Served s (doEnterSurvey s).1 := by
  refine inOperate_served ?_
  split
  · exact .refl s
  · exact pair_served (enterSurvey_served s)

theorem doLeaveSurvey_served : Served s (doLeaveSurvey s).1 := by
  unfold doLeaveSurvey
  split
  · exact .refl s
  · split
    · exact .refl s
    · exact beginExitWrite_served s

theorem doLoadCrane_served (n : Nat) (f : Option CraneFields) : Served s (doLoadCrane n f s).1 := by
  refine inSurvey_served ?_
  split
  · exact .refl s
  · split
    · refine pair_served ?_
      split
      · exact unconfigureSlot_served _ s
      · exact .refl s
    · split
      · exact .refl s
      · refine pair_served ?_
        split
        · exact served_geo _ (.refl s)
        · exact configureSlot_served _ _ s

theorem doLoadCells_served (n : Nat) (tb : CellTable) (first count : Nat) (classes : List Byte) :
    Served s (doLoadCells n tb first count classes s).1 := by
  refine inSurvey_served (onCrane_served fun c => ?_)
  repeat' split
  all_goals first
    | with_reducible exact pair_served (.refl s)
    | exact pair_served (served_geo _ (.refl s))

theorem doLoadChart_served (n : Nat) (caps : Vector Nat 8) : Served s (doLoadChart n caps s).1 := by
  refine inSurvey_served (onCrane_served fun c => ?_)
  split
  · exact served_geo _ (.refl s)
  · exact .refl s

theorem doLoadProfile_served (p : SiteProfile) : Served s (doLoadProfile p s).1 := by
  refine inSurvey_served ?_
  split
  · refine pair_served ?_
    exact (served_geo _ (.refl s)).quiet (profileTimers_quiet _ (Quiet.refl _))
  · exact .refl s

theorem doRemoveCrane_served (n : Nat) : Served s (doRemoveCrane n s).1 := by
  refine onCrane_served fun c => ?_
  split
  · exact .refl s
  · exact pair_served (removeCrane_served c s)

theorem doAdmitCrane_served (n : Nat) : Served s (doAdmitCrane n s).1 := by
  refine onCrane_served fun c => ?_
  split
  · exact pair_served (admitCrane_served c s)
  · exact .refl s

theorem doLoadPlan_served (n : Nat) (fields : List StepField) : Served s (doLoadPlan n fields s).1 := by
  unfold doLoadPlan
  repeat' split
  all_goals first
    | with_reducible exact pair_served (.refl s)
    | exact served_plans _ (.refl s)

theorem admissionEffect_quiet (b : Booking) (h : Quiet s t) : Quiet s (admissionEffect b t) := by
  unfold admissionEffect
  repeat' first
    | with_reducible assumption
    | with_reducible apply gateAndRun_quiet
    | with_reducible apply runNew_quiet
    | with_reducible apply supersede_quiet
    | split

theorem doBook_served (f : BookFields) : Served s (doBook f s).1 := by
  unfold doBook
  repeat' split
  all_goals first
    | with_reducible exact pair_served (.refl s)
    | exact pair_served (Quiet.served (admissionEffect_quiet _ (mark_quiet _ (quiet_bookings _ (Quiet.refl s)))))

theorem doCancel_served (n : Nat) : Served s (doCancel n s).1 := by
  unfold doCancel
  repeat' split
  all_goals first
    | with_reducible exact pair_served (.refl s)
    | exact pair_served (Quiet.served (runNew_quiet _ _ (cancelBooking_quiet _ (Quiet.refl s))))

theorem doSuspendChannel_served (n : Nat) : Served s (doSuspendChannel n s).1 := by
  refine onCrane_served fun c => ?_
  split
  · exact .refl s
  · exact pair_served (Quiet.served (addReason_quiet _ _ (Quiet.refl s)))

theorem doResumeChannel_served (n : Nat) : Served s (doResumeChannel n s).1 := by
  refine onCrane_served fun c => ?_
  split
  · exact pair_served (Quiet.served (removeReason_quiet _ _ (Quiet.refl s)))
  · exact .refl s

theorem doStepMode_served (n : Nat) (on : Bool) : Served s (doStepMode n on s).1 := by
  refine onCrane_served fun c => ?_
  split
  · exact .refl s
  · exact pair_served (Quiet.served (updChannel_quiet _ _ (Quiet.refl s)))

theorem doContinue_served (n : Nat) : Served s (doContinue n s).1 := by
  refine onSlot_served fun c => ?_
  split
  · exact pair_served (Quiet.served (liftPause_quiet _ (Quiet.refl s)))
  · exact .refl s

theorem doCloseZone_served (n : Nat) : Served s (doCloseZone n s).1 := by
  refine onZone_served fun z => ?_
  repeat' split
  all_goals first
    | with_reducible exact pair_served (.refl s)
    | exact pair_served (Quiet.served (closeTheZone_quiet _ (Quiet.refl s)))

theorem doOpenZone_served (n : Nat) : Served s (doOpenZone n s).1 := by
  refine onZone_served fun z => ?_
  split
  · exact pair_served (Quiet.served (openTheZone_quiet _ (Quiet.refl s)))
  · split
    · exact pair_served (Quiet.served (withdrawClosure_quiet _ (Quiet.refl s)))
    · exact pair_served (.refl s)

theorem doForceRelease_served (n : Nat) : Served s (doForceRelease n s).1 := by
  refine onZone_served fun z => ?_
  split
  · exact .refl s
  · exact pair_served (Quiet.served (forceFree_quiet _ (Quiet.refl s)))

theorem doReadZone_served (n : Nat) : Served s (doReadZone n s).1 := by
  unfold doReadZone
  split <;> exact .refl s

theorem doDeclareWind_served (level : Nat) : Served s (doDeclareWind level s).1 := by
  unfold doDeclareWind
  split
  · exact .refl s
  · exact pair_served (Quiet.served (declare_quiet _ (Quiet.refl s)))

theorem doClearFault_served (n : Nat) : Served s (doClearFault n s).1 := by
  refine onCrane_served fun c => ?_
  repeat' split
  all_goals first
    | with_reducible exact pair_served (.refl s)
    | exact pair_served (Quiet.served (clearTheFault_quiet _ _ _ (Quiet.refl s)))

theorem doRecover_served (n : Nat) : Served s (doRecover n s).1 := by
  refine onCrane_served fun c => inOperate_served ?_
  split
  · exact pair_served (Quiet.served (setRecovery_quiet _ _ (Quiet.refl s)))
  · exact .refl s

theorem leaveLockout_quiet (c : Slot) (h : Quiet s t) : Quiet s (leaveLockout c t) :=
  mark_quiet _ (placeLinkMade_quiet _ (letForward_quiet _ (removeReason_quiet _ _ (setRecovery_quiet _ _
    (modCrane_quiet _ _ h)))))

theorem doClearLockout_served (n : Nat) : Served s (doClearLockout n s).1 := by
  refine onCrane_served fun c => inOperate_served ?_
  split
  · exact pair_served (Quiet.served (leaveLockout_quiet _ (Quiet.refl s)))
  · exact .refl s

theorem doReadCrane_served (n : Nat) : Served s (doReadCrane n s).1 := by
  refine onSlot_served fun c => ?_
  split <;> exact .refl s

theorem doReadBooking_served (n : Nat) : Served s (doReadBooking n s).1 := by
  unfold doReadBooking
  split <;> exact .refl s

/-- What dispatching any request leaves alone. -/
theorem dispatch_served (r : Request) (s : State) : Served s (dispatch r s).1 := by
  cases r with
  | identify => exact .refl s
  | reset => exact doReset_served
  | setClock m p => exact doSetClock_served m p
  | readClock => exact .refl s
  | enterSurvey => exact doEnterSurvey_served
  | leaveSurvey => exact doLeaveSurvey_served
  | loadCrane n f => exact doLoadCrane_served n f
  | loadCells n tb first count classes => exact doLoadCells_served n tb first count classes
  | loadChart n caps => exact doLoadChart_served n caps
  | loadProfile p => exact doLoadProfile_served p
  | loadPlan n steps => exact doLoadPlan_served n steps
  | book f => exact doBook_served f
  | cancel n => exact doCancel_served n
  | suspendChannel n => exact doSuspendChannel_served n
  | resumeChannel n => exact doResumeChannel_served n
  | stepMode n on => exact doStepMode_served n on
  | continueStep n => exact doContinue_served n
  | closeZone n => exact doCloseZone_served n
  | openZone n => exact doOpenZone_served n
  | forceRelease n => exact doForceRelease_served n
  | declareWind l => exact doDeclareWind_served l
  | clearFault n => exact doClearFault_served n
  | recover n => exact doRecover_served n
  | clearLockout n => exact doClearLockout_served n
  | removeCrane n => exact doRemoveCrane_served n
  | admitCrane n => exact doAdmitCrane_served n
  | relay d code ack text => exact doRelay_served d code ack text
  | readCrane n => exact doReadCrane_served n
  | readZone n => exact doReadZone_served n
  | readBooking n => exact doReadBooking_served n
  | readChannel n => exact readingOf_served n _
  | readWind n => exact readingOf_served n _
  | readFault n => exact readingOf_served n _
  | readErrors => exact doReadErrors_served
  | setReportMask ks => exact doSetReportMask_served ks

end Sys2Proof.Machine
end

