-- ==== Sys2Proof/Laws/Refresh.lean ====
section
/-! SUPPORT. What bringing the storm marks up to date does: it changes the storm phase and the storm-blocked mark of wind
records, and marks report keys; nothing else. -/

namespace Sys2Proof.Machine

/-- t is s but for the storm phase and storm-blocked mark of its wind records and for report keys added. -/
structure Refreshed (s t : State) : Prop where
  quiet : Quiet s t
  links : t.links = s.links
  engines : t.engines = s.engines
  arb : t.arb = s.arb
  bookings : t.bookings = s.bookings
  channels : t.channels = s.channels
  status : t.status = s.status
  declaration : t.wind.declaration = s.wind.declaration
  bucketPhase : t.wind.bucketPhase = s.wind.bucketPhase
  wind : ∀ c, t.windOf c = { s.windOf c with phase := (t.windOf c).phase, blocked := (t.windOf c).blocked }

theorem Refreshed.refl (s : State) : Refreshed s s := ⟨.refl s, rfl, rfl, rfl, rfl, rfl, rfl, rfl, rfl, fun _ => rfl⟩

theorem Refreshed.trans {s t u : State} (h : Refreshed s t) (k : Refreshed t u) : Refreshed s u :=
  ⟨h.1.trans k.1, k.2.trans h.2, k.3.trans h.3, k.4.trans h.4, k.5.trans h.5, k.6.trans h.6, k.7.trans h.7,
    k.8.trans h.8, k.9.trans h.9, fun c => by rw [k.10 c, h.10 c]⟩

/-- A wind record change that touches only phase and mark. -/
theorem updWind_refreshed (c : Slot) (f : Wind → Wind)
    (hf : ∀ w, f w = { w with phase := (f w).phase, blocked := (f w).blocked }) (s : State) :
    Refreshed s (updWind c f s) := by
  refine ⟨updWind_quiet c f (.refl s), ?_, ?_, ?_, ?_, ?_, ?_, ?_, ?_, ?_⟩
  all_goals first
    | (intro d
       have e : (updWind c f s).windOf d = (s.putWind c (f (s.windOf c))).windOf d := by
         unfold updWind State.windOf; simp
       rw [e, State.putWind_windOf]
       split
       · rename_i h; subst h; exact hf _
       · rfl)
    | (unfold updWind; simp)

theorem markIf_refreshed (b : Bool) (k : ReportKey) {s t : State} (h : Refreshed s t) : Refreshed s (markIf b k t) := by
  refine h.trans ⟨markIf_quiet _ _ (.refl t), ?_, ?_, ?_, ?_, ?_, ?_, ?_, ?_, fun d => ?_⟩ <;> simp [State.windOf]

theorem refreshStorm_refreshed (c : Slot) (s : State) : Refreshed s (refreshStorm c s) :=
  markIf_refreshed _ _ ((updWind_refreshed c (fun w => { w with phase := s.stormPhase c }) (fun _ => rfl) s).trans
    (updWind_refreshed c (fun w => { w with blocked := s.stormBlocked c }) (fun _ => rfl) _))

/-- What `refreshAll` does. -/
theorem refreshAll_refreshed (s : State) : Refreshed s (refreshAll s) := by
  unfold refreshAll forEach
  have go : ∀ (l : List Slot) (u : State), Refreshed s u → Refreshed s (l.foldl (fun s a => refreshStorm a s) u) := by
    intro l
    induction l with
    | nil => exact fun u h => h
    | cons c l ih => exact fun u h => ih _ (h.trans (refreshStorm_refreshed c u))
  exact go _ s (.refl s)

end Sys2Proof.Machine
end

