-- ==== Sys2Proof/Tests/Slice0.lean ====
section
/-! SUPPORT. The writer's tests: terms that the checks refuse, worked examples of the manual, single steps, and for every
statement with hypotheses a state and operands that meet them. -/

namespace Sys2Proof.Tests

open Sys2Proof Sys2Proof.Machine

set_option Elab.async false

/-! ## Well-formedness -/

/-- A site frame carries at most 1,198 field bytes (R193). -/
theorem test_wf_load_cells : (Instr.loadCells 0 0 .jib 0 128 (List.replicate 1199 0)).wf = false ∧
    (Instr.loadCells 0 0 .jib 0 128 (List.replicate 1198 0)).wf = true := by decide +kernel
theorem test_wf_relay : (Instr.relay 0 .all 0 false (List.replicate 256 0)).wf = false ∧
    (Instr.relay 0 .all 0 false (List.replicate 255 0)).wf = true := by decide +kernel
theorem test_wf_mask : (Instr.setReportMask 0 [.crane, .crane]).wf = false ∧
    (Instr.setReportMask 0 [.crane, .zone]).wf = true := by decide
theorem test_wf_profile_sets :
    (Instr.loadProfile 0 { SiteProfile.default with autoClear := [.overload, .overload] }).wf = false ∧
    (Instr.loadProfile 0 { SiteProfile.default with reportKinds := [.wind, .wind] }).wf = false ∧
    (Instr.loadProfile 0 SiteProfile.default).wf = true := by decide
theorem test_wf_plan_lists : (Instr.loadPlan 0 0 (List.replicate 256 (.step .endStep))).wf = false ∧
    (Instr.loadPlan 0 0 [.step (.claim (List.replicate 256 0) 1 .fail)]).wf = false ∧
    (Instr.loadPlan 0 0 [.step (.release (.named (List.replicate 256 0)))]).wf = false ∧
    (Instr.loadPlan 0 0 [.step .endStep, .misfit 3, .unknownKind 77]).wf = true := by decide +kernel
theorem test_wf_unknown_kind : (Instr.unknownRequest 0 5).wf = false ∧ (Instr.unknownRequest 0 36).wf = true ∧
    (Instr.unknownRequest 0 0).wf = true := by decide

/-- The opcode table gives no row a bit pattern, so no table word spells a command. -/
theorem test_no_word_spells_a_command (nbits w : Nat) : decodeTableWord nbits w = none := rfl

/-! ## Frames (R193, R194) -/

/-- The usual check value of the CRC-16 of R193's description, over the nine characters "1" to "9". -/
theorem test_crc_check_value :
    crc16 [0x31, 0x32, 0x33, 0x34, 0x35, 0x36, 0x37, 0x38, 0x39] = 0x29B1#16 := by decide +kernel
/-- An ACK of code A5 has its code escaped as A6 85. -/
theorem test_escaped_ack : (cabFrame [2, 0xA5]).take 5 = [0xA5, 2, 2, 0xA6, 0x85] ∧
    checkCabFrame (cabFrame [2, 0xA5]) = some (.ack 0xA5) := by decide +kernel
/-- A frame whose last CRC byte is changed fails the check. -/
theorem test_bad_crc : checkCabFrame [0xA5, 1, 3, 0, 0] = none := by decide +kernel
/-- A limit frame carries 22 bytes after its length, and a pose report 21 (R193, R194). -/
theorem test_lengths (g : StampedFrame) (p : PoseFrame) : (limitFrameBytes g).length = 22 ∧ (poseBytes p).length = 21 := by
  constructor <;> rfl

/-! ## Worked examples of the manual -/

/-- A crane record of the manual's own examples: minimum radius 2,500 mm, jib length 60,000 mm, 600 su/s (R26). -/
def record : CraneRecord where
  baseEast := 0
  baseNorth := 0
  bearingOffset := 0
  jibLength := 60000
  minRadius := 2500
  edges := #v[10000, 20000, 30000, 40000, 50000, 55000, 58000]
  tipOverhang := none
  maxSlewRate := 600
  slewDecel := 300
  reactionTime := 400
  slewMargin := 182
  slowBand := 512
  lookAhead := 2048
  driftCoeff := 4
  maxRadialSpeed := 600
  radialDecel := 250
  radiusMargin := 500
  radialSlowBand := 3000
  kind := .flat

/-- R26's examples of rates: −700 is clamped to −600, 750 to 600, and 760 is invalid. -/
theorem test_r26_rates : judgeRate 600 (-700) = some (-600) ∧ judgeRate 600 750 = some 600 ∧ judgeRate 600 760 = none := by
  decide
/-- R26's examples of radii: 61,000 is clamped to 60,000, 61,001 is invalid, and 1,600 is clamped to 2,500. -/
theorem test_r26_radii : judgeRadius 2500 60000 61000 = some 60000 ∧ judgeRadius 2500 60000 61001 = none ∧
    judgeRadius 2500 60000 1600 = some 2500 := by decide
/-- R25's example: with last sequence 122, sequence 20 has d = 154 and is old. -/
theorem test_r25_restarted_cab : (20#8 - 122#8).toNat = 154 := by decide
/-- The jib length lies in band 7, and the minimum radius in band 0 (R3). -/
theorem test_r3_ends : record.band 60000 = 7 ∧ record.band 2500 = 0 ∧ record.band 9999 = 0 ∧ record.band 10000 = 1 := by
  decide +kernel
/-- A mean is rounded half up (R107). -/
theorem test_r107_half_up : roundedMean 5 2 = some 3 ∧ roundedMean 7 3 = some 2 ∧ roundedMean 0 0 = none := by decide

/-! ## Small states -/

/-- The part in OPERATE with nothing configured. -/
def oper : State := { State.reset with geo := { State.reset.geo with mode := .operate } }
/-- A state with crane 0 configured. -/
def withCrane (s : State) : State := s.putSlot 0 { CraneSlot.unconfigured with record := some record }
/-- A NORMAL booking 1 of crane 0 with plan 0 and window 100 to 200. -/
def lift : Booking where
  number := 1
  crane := 0
  kind := .normal
  start := 100
  finish := 200
  priority := 0
  mass := 0
  windLimit := none
  pick := ⟨0, 0⟩
  set := ⟨0, 0⟩
  plan := 0
  repeatOverride := none
  stepMode := false
  state := .running
  startReached := true
  windowEnded := false
  outcome := none
  saved := none
  returnsTo := none
  contention := 0
/-- The booking that `liftFields` carries, in the kinds it may have. -/
def carried (k : BookingKind) : Booking := { lift with kind := k, state := .pending, startReached := false }
/-- The operands of BOOK that carry `lift`. -/
def liftFields : BookFields where
  number := 1
  crane := 0
  kind := 0
  start := 100
  finish := 200
  priority := 0
  mass := 0
  windLimit := none
  pick := ⟨0, 0⟩
  set := ⟨0, 0⟩
  plan := 0
  repeatOverride := none
  stepMode := false
/-- A state with a booking in the table. -/
def withBooking (b : Booking) (s : State) : State := { s with bookings := [b] }
/-- Plan 0 with some steps, VALID. -/
def withPlan (steps : List PlanStep) (s : State) : State :=
  { s with plans := putAt s.plans 0 (some { steps := steps, failure := none }) }
/-- The channel of crane 0 with booking 1 in a phase. -/
def onChannel (ph : ChannelPhase) (s : State) : State :=
  s.putChannel 0 { Channel.cleared with booking := some 1, phase := ph }
/-- Crane 0 runs booking 1 at step 0 of a plan of some steps, in a phase. -/
def running (steps : List PlanStep) (ph : ChannelPhase) : State :=
  onChannel ph (withPlan steps (withBooking lift oper))
/-- A pose accepted at uptime 0 with no motion, no load and sequence 7. -/
def still : Pose where
  sequence := 7
  cabBearing := 0
  siteBearing := 0
  slewRate := 0
  radius := 20000
  radialSpeed := 0
  hookHeight := 0
  load := 0
  windSample := 50
  windValid := true
  emergencyStop := false
  brakeReleased := false
  operatorPresent := true
  sensorFault := false
  acceptedAt := 0
/-- Crane 0's link in a state with a last pose. -/
def linked (st : LinkState) (s : State) : State :=
  s.putLink 0 { Link.unused with state := st, lastPose := some still }
/-- Crane 0's operating state. -/
def craneIs (st : OpState) (s : State) : State := s.putCrane 0 (.fresh st)
/-- The present uptime. -/
def atMs (t : Ms) (s : State) : State := { s with clock := { s.clock with uptime := BitVec.ofNat 48 t } }
/-- The pose frame of `still` with a sequence. -/
def stillFrame (sequence : Byte) : PoseFrame where
  sequence := sequence
  cabBearing := 0
  slewRate := 0
  radius := 20000
  radialSpeed := 0
  hookHeight := 0
  load := 0
  windSample := 50
  flags := 0x14
/-- Zone 0 held by crane 0 by its pool claim of stamp 5. -/
def heldZone (kind : PoolKind) (s : State) : State :=
  let r : PoolRecord := {
    stamp := 5, id := 0, crane := 0, kind := kind, priority := 0, booking := some 1
    zones := [⟨0, .granted, none⟩], dwell := ⟨3000, true⟩ }
  (s.putPool [r]).putZone 0 { ZoneRecord.free with holding := .held 0 (.pool 5) }
/-- Zone 0 is a HOOK zone of crane 0. -/
def hookZone (s : State) : State :=
  { s with geo := { s.geo with directory := putAt s.geo.directory 0 { kind := .hook, members := [0] } } }

/-! ## Single steps -/

/-- What an outcome's next state has of something. -/
def after {α : Type} (o : Host.Outcome State Fault Refusal) (f : State → α) : Option α :=
  match o with
  | .next t => some (f t)
  | _ => none
/-- The reply of a request taken on an idle line. -/
def replyOf (i : Instr) (s : State) : Option (Option PortOutbound) := after (exec i s) fun t => t.port.tx

theorem test_identify_after_reset :
    after (exec (.identify 9) State.reset) (fun t => match t.port.tx with
      | some (.reply ⟨9, 1, .ok, .identity _ _ _ cause mode valid _⟩) => some (cause, mode, valid)
      | _ => none) = some (some (.powerOn, .survey, false)) := by decide +kernel
theorem test_unknown_request : replyOf (.unknownRequest 3 99) State.reset = some (some (.reply ⟨3, 99, .unknownRequest, .empty⟩)) ∧
    after (exec (.unknownRequest 3 99) State.reset) (·.port.errors) = some [.unknownRequest] := by decide +kernel
theorem test_set_clock_backward : replyOf (.setClock 1 (some 89) none) { State.reset with clock := { State.reset.clock with minute := some 100, minutePhase := some 0 } } =
    some (some (.reply ⟨1, 3, .badValue, .empty⟩)) := by decide +kernel
theorem test_set_clock_back_ten : after (exec (.setClock 1 (some 90) none) { State.reset with clock := { State.reset.clock with minute := some 100, minutePhase := some 0 } })
    (·.clock.minute) = some (some 90) := by decide +kernel
theorem test_step_takes_front : after (step { State.reset with pending := [.reset 4, .identify 5] }) (·.pending) = some [.identify 5] := by
  decide +kernel
theorem test_idle_passes_time : after (step State.reset) (·.clock.uptime) = some 1 := by decide +kernel
theorem test_load_crane_configures :
    after (exec (.loadCrane 1 0 (some { record.toCraneDims with kind := 0 })) State.reset)
      (fun t => ((t.crane 0).state, (t.link 0).state, (t.link 0).generation, t.configured 0)) =
    some (.joining, .waiting, 1, true) := by decide +kernel
theorem test_estop_in_service : after (exec (.estop 0) (linked .live (craneIs .inService oper)))
    (fun t => ((t.crane 0).state, (t.crane 0).eStop, (t.crane 0).fault)) =
    some (.fault, true, some ⟨.eStop, false, false⟩) := by decide +kernel
theorem test_link_stale_at_750 : after (exec (.linkStale 0) (atMs 750 (linked .live oper))) (fun t => (t.link 0).state) =
    some .stale := by decide +kernel
theorem test_link_not_stale_at_749 : after (exec (.linkStale 0) (atMs 749 (linked .live oper))) (fun t => (t.link 0).state) =
    some .live := by decide +kernel
theorem test_minute_advance_at_60000 :
    after (exec .minuteAdvance (atMs 60000 { oper with clock := { oper.clock with minute := some 4, minutePhase := some 0 } }))
      (fun t => (t.clock.minute, t.clock.minutePhase)) = some (some 5, some 60000) := by decide +kernel
theorem test_hold_two_ticks : after (exec .holdTick (atMs 1000 ((running [.hold 2, .endStep] .holding).putChannel 0
      { Channel.cleared with booking := some 1, phase := .holding, hold := some 2 }))) (fun t => (t.channel 0).hold) =
    some (some 1) := by decide +kernel
theorem test_loop_counts_down : after (exec (.nextStep 0) ((running [.repeatStep 2, .loop, .endStep] .starting).putChannel 0
      { Channel.cleared with booking := some 1, step := 1, repeatCounter := 2, loopStart := 1, stepMode := true }))
      (fun t => ((t.channel 0).repeatCounter, (t.channel 0).step, (t.channel 0).state)) =
    some (1, 1, .stepPause) := by decide +kernel
theorem test_force_release_frees : after (exec (.forceRelease 0 0) (heldZone .transit oper))
    (fun t => ((t.zone 0).holding, t.arb.pool.length)) = some (.free, 0) := by decide +kernel
theorem test_close_free_hook_zone : replyOf (.closeZone 2 0) (hookZone oper) =
    some (some (.reply ⟨2, 18, .ok, .closure none⟩)) := by decide +kernel
theorem test_declare_storm : after (exec (.declareWind 0 3) State.reset) (fun t => (t.effective 0, t.wind.declaration)) =
    some (.storm, .storm) := by decide +kernel
theorem test_sequence_checks : judgePose record 0 { stillFrame 8 with load := 65001 } = .invalid .load ∧
    judgePose record 0 { stillFrame 8 with hookHeight := 250001, load := 65001 } = .invalid .hookHeight := by decide +kernel

/-! ## The hypotheses of the statements can be met -/

theorem test_reset_is_ready : State.reset.Ready := ⟨rfl, rfl, rfl, rfl, rfl⟩
theorem test_oper_is_ready : oper.Ready := ⟨rfl, rfl, rfl, rfl, rfl⟩
theorem test_reset_takes_nothing : State.reset.NoTake := .inl rfl

theorem test_witness_StepRunsFront :
    ({ State.reset with pending := [.identify 0] } : State).pending = .identify 0 :: [] := rfl
theorem test_witness_IdleStepPassesTime : State.reset.pending = [] ∧ State.reset.power.on = true ∧
    dueEvents State.reset = [] := by decide +kernel
theorem test_witness_PowerAndLineGoDown : State.reset.power.on = true ∧ State.reset.NoTake ∧
    ({ State.reset with power := { State.reset.power with on := false } } : State).power.on = false := ⟨rfl, .inl rfl, rfl⟩
/-- The reset line low for some ms. -/
def lowFor (t : Ms) (s : State) : State := { s with power := { s.power with lowFor := some t } }
/-- A reply of an IDENTIFY. -/
def someReply : Reply := ⟨0, 1, .ok, .empty⟩
/-- A reply waits on an idle line, and requests behind it. -/
def replyWaits (queue : List QueuedRequest) : State :=
  { State.reset with port := { State.reset.port with slot := some someReply, queue := queue } }
theorem test_witness_ResetLine :
    ((lowFor 10 State.reset).power.on = true ∧ (lowFor 10 State.reset).power.lowFor = some 10 ∧
      State.reset.power.lowFor = none) ∧
    ((lowFor 9 (replyWaits [])).power.on = true ∧ (lowFor 9 (replyWaits [])).power.lowFor = some 9 ∧
      (lowFor 9 (replyWaits [])).port.queue = [] ∧ (lowFor 9 (replyWaits [])).port.slot = some someReply ∧
      (lowFor 9 (replyWaits [])).port.tx = none) ∧
    ((lowFor 9 (replyWaits [⟨3, .typed .identify⟩])).port.queue = ⟨3, .typed .identify⟩ :: [] ∧
      (lowFor 9 (replyWaits [⟨3, .typed .identify⟩])).port.hand = none ∧
      (lowFor 9 (replyWaits [⟨3, .typed .identify⟩])).port.resetProgress = .none) :=
  ⟨⟨rfl, rfl, rfl⟩, ⟨rfl, rfl, rfl, rfl, rfl⟩, rfl, rfl, rfl⟩
theorem test_witness_SiteResetStarts :
    ({ State.reset with port := { State.reset.port with resetProgress := .due } } : State).port.resetProgress = .due ∧
    State.reset.power.on = true ∧ State.reset.port.resetProgress ≠ .due ∧ State.reset.NoTake :=
  ⟨rfl, rfl, by decide, .inl rfl⟩
theorem test_witness_SiteFrameIsReceived : (List.replicate 1198 (0xA5 : Byte)).length ≤ 1198 ∧
    State.reset.power.on = true ∧ State.reset.port.receiver = .hunting ∧
    (State.reset.portReady = false ∨ State.reset.port.queue = []) := by decide +kernel
/-- A receiver inside a frame since uptime 0, at an uptime. -/
def inside (t : Ms) : State := atMs t { State.reset with port := { State.reset.port with receiver := .inFrame [0] false 0 } }
theorem test_witness_BrokenFrameIsDiscarded :
    ((inside 100).power.on = true ∧ (inside 100).NoTake ∧ (inside 100).port.receiver = .inFrame [0] false 0 ∧
      0 + 100 ≤ (inside 100).now ∧ (inside 99).now < 0 + 100) ∧
    (State.reset.NoTake ∧ State.reset.port.receiver = .hunting) :=
  ⟨⟨rfl, .inl rfl, rfl, by decide, by decide⟩, .inl rfl, rfl⟩
/-- The transmitter sends a reply, with some reply slot, reports and bookings. -/
def sending (slot : Option Reply) (reports : List ReportKey) (bs : List Booking) : State :=
  { State.reset with
    port := { State.reset.port with tx := some (.reply someReply), slot := slot, reports := reports }, bookings := bs }
theorem test_witness_SiteTxDoneChooses :
    ((sending none [] []).power.on = true ∧ (sending none [] []).power.lowFor = none ∧
      (sending none [] []).port.tx = some (.reply someReply) ∧ (sending none [] []).port.resetProgress = .none ∧
      (sending none [] []).port.queue = []) ∧
    (sending (some someReply) [] []).port.slot = some someReply ∧
    (refreshAll { sending none [.crane 0, .zone 1] [] with
      port := { (sending none [.crane 0, .zone 1] []).port with tx := none } }).port.reports = .crane 0 :: [.zone 1] ∧
    (refreshAll { sending none [.crane 0, .zone 1] [] with
      port := { (sending none [.crane 0, .zone 1] []).port with tx := none } }).endedKey (.crane 0) = none ∧
    (refreshAll { sending none [.booking 1] [{ lift with state := .done }] with
      port := { (sending none [.booking 1] [{ lift with state := .done }]).port with tx := none } }).endedKey (.booking 1) =
        some 1 ∧
    (refreshAll { sending none [] [] with
      port := { (sending none [] []).port with tx := none } }).port.reports = [] := by decide +kernel
/-- A frame is being sent in a state. -/
def sends (f : PortOutbound) (s : State) : State := { s with port := { s.port with tx := some f } }
theorem test_witness_TxDoneTakesNext : (sends (.reply someReply) (replyWaits [⟨3, .typed .readClock⟩])).power.on = true ∧
    (sends (.reply someReply) (replyWaits [⟨3, .typed .readClock⟩])).port.queue = ⟨3, .typed .readClock⟩ :: [] ∧
    (sends (.reply someReply) (replyWaits [⟨3, .typed .readClock⟩])).port.slot = some someReply ∧
    (sends (.reply someReply) (replyWaits [⟨3, .typed .readClock⟩])).port.hand = none ∧
    (dispatch .readClock State.reset).2.isSome = true := ⟨rfl, rfl, rfl, rfl, by decide +kernel⟩
/-- A RESET has been taken. -/
def resetTaken (slot : Option Reply) : State :=
  { State.reset with port := { State.reset.port with slot := slot, resetProgress := .taken } }
theorem test_witness_TxDoneDuringReset :
    (sends (.reply ⟨4, 2, .ok, .empty⟩) (resetTaken none)).port.resetProgress = .taken ∧
    (sends (.reply ⟨4, 2, .ok, .empty⟩) (resetTaken none)).port.slot = none ∧
    (∀ tag body, PortOutbound.reply ⟨3, 2, .badLength, .empty⟩ ≠ .reply ⟨tag, 2, .ok, body⟩) ∧
    (sends (.reply ⟨3, 2, .badLength, .empty⟩) (resetTaken (some ⟨4, 2, .ok, .empty⟩))).port.slot =
      some ⟨4, 2, .ok, .empty⟩ ∧
    State.reset.port.tx = none ∧ State.reset.NoTake := ⟨rfl, rfl, by simp, rfl, rfl, .inl rfl⟩
/-- A malformed frame of kind 2 ends being sent with a RESET behind it: the RESET's own reply goes out first (R183). -/
theorem test_malformed_reset_does_not_reset :
    after (exec .siteTxDone (sends (.reply ⟨3, 2, .badLength, .empty⟩) (resetTaken (some ⟨4, 2, .ok, .empty⟩))))
      (fun t => (t.port.tx, t.port.resetProgress)) = some (some (.reply ⟨4, 2, .ok, .empty⟩), .taken) := by decide +kernel
theorem test_witness_ReadyPortAnswers : (Instr.readErrors 0).request? = some (0, .readErrors) ∧ State.reset.Ready ∧
    (dispatch .readErrors State.reset.judging).2 = some (okWith (.errors [])) :=
  ⟨rfl, test_reset_is_ready, by decide +kernel⟩
/-- A port with a request in hand and some requests queued. -/
def busy (n : Nat) : State :=
  { State.reset with
    port := { State.reset.port with hand := some 0, queue := List.replicate n ⟨0, .typed .identify⟩ } }
theorem test_witness_BusyPortQueues : (Instr.identify 0).request? = some (0, .identify) ∧ (busy 3).power.on = true ∧
    (busy 3).port.hand ≠ none ∧ (busy 3).port.queue.length < 4 ∧ (busy 4).port.hand ≠ none ∧
    4 ≤ (busy 4).port.queue.length := by decide +kernel
theorem test_witness_PortRequestsAnswer : State.reset.Ready ∧ ((0 : Byte).toNat = 0 ∨ 35 < (0 : Byte).toNat) ∧
    ((36 : Byte).toNat = 0 ∨ 35 < (36 : Byte).toNat) := ⟨test_reset_is_ready, by decide, by decide⟩
theorem test_witness_MisfitIsAnswered : State.reset.Ready ∧ State.reset.port.receiver = .hunting ∧
    ([] : List Byte).length ≤ 1198 ∧ decodeRequest (28 : Byte).toNat [] = .misfit ∧
    decodeRequest (1 : Byte).toNat [0] = .misfit ∧ 1 ≤ (28 : Byte).toNat ∧ (28 : Byte).toNat ≤ 35 ∧
    decodeRequest (35 : Byte).toNat [0, 0] = .misfit := by
  unfold State.Ready; decide +kernel
/-- The reply of a code alone on the line: start byte, four bytes, CRC over them (R193). -/
theorem test_code_only_reply : ((PortOutbound.reply ⟨9, 2, .ok, .empty⟩).lineBytes.take 7) =
    [0xA5, 0, 4, 128, 9, 2, 0] ∧ (PortOutbound.reply ⟨9, 2, .ok, .empty⟩).lineBytes.length = 9 := by decide +kernel
theorem test_witness_ReadingsAnswer : (withCrane oper).Ready ∧ (withCrane oper).configured 0 = true ∧
    (withCrane oper).configured 11 = false ∧ ((withCrane oper).readCrane 0).isSome = true ∧
    (withCrane oper).readCrane 11 = none ∧ ((running [.endStep] .starting).readBooking 1).isSome = true ∧
    (running [.endStep] .starting).Ready ∧ oper.readBooking 1 = none ∧ 12 ≤ 12 ∧ 48 ≤ 48 := by
  unfold State.Ready; decide +kernel
theorem test_witness_ReportMaskIsSet : (withBooking { lift with state := .done } oper).Ready ∧
    KeyKind.booking ∉ [KeyKind.crane] ∧ KeyKind.booking ∈ [KeyKind.booking] :=
  ⟨⟨rfl, rfl, rfl, rfl, rfl⟩, by decide, by decide⟩
theorem test_witness_RelayReachesCranes : (linked .live (withCrane oper)).Ready ∧ (List.replicate 40 (0x7E : Byte)).length ≤ 40 ∧
    (∀ b ∈ List.replicate 40 (0x7E : Byte), 0x20 ≤ b.toNat ∧ b.toNat ≤ 0x7E) ∧
    (linked .live (withCrane oper)).configured 0 = true ∧ (linked .live (withCrane oper)).relaySkip? 0 = none ∧
    (withCrane oper).relaySkip? 0 = some .notLive := by
  refine ⟨⟨rfl, rfl, rfl, rfl, rfl⟩, ?_, ?_, ?_, ?_, ?_⟩ <;> decide +kernel
theorem test_witness_RelayDestinations : (∃ c : Slot, c.val = 0 ∧ (linked .live (withCrane oper)).configured c = true) ∧
    11 < 12 ∧ Parts.relayed (linked .live (withCrane oper)) (.one 0) = [0] ∧
    Parts.relayed (linked .live (withCrane oper)) (.allExcept 11) = [0] ∧
    Parts.relayed (linked .live (withCrane oper)) (.allExcept 0) = [] ∧
    ((linked .live (withCrane oper)).link 0).tx = none ∧ ((linked .live (withCrane oper)).link 0).notices = [] ∧
    ((linked .live (withCrane oper)).channel 0).phase ≠ .waitingSlot ∧ 40 < (List.replicate 41 (0x20 : Byte)).length ∧
    (∃ b ∈ [(0x7F : Byte)], b.toNat < 0x20 ∨ 0x7E < b.toNat) ∧ (∃ b ∈ [(0x1F : Byte)], b.toNat < 0x20 ∨ 0x7E < b.toNat) ∧
    (linked .live (withCrane oper)).configured 1 = false := by decide +kernel
/-- The site minute, set at uptime 0. -/
def atMinute (m : Nat) (s : State) : State := { s with clock := { s.clock with minute := some m, minutePhase := some 0 } }
theorem test_witness_ClockIsSet : (atMinute 100 oper).Ready ∧
    (∃ k now, some 89 = some k ∧ (atMinute 100 oper).clock.minute = some now ∧ k + 10 < now) ∧
    (∃ k, some 16777216 = some k ∧ 16777215 < k) ∧ (∃ k, some 240 = some k ∧ 239 < k) ∧
    (∀ k, some 90 = some k → k ≤ 16777215 ∧ ∀ now, (atMinute 100 oper).clock.minute = some now → now ≤ k + 10) ∧
    (∀ k, some 239 = some k → k ≤ 239) := by
  refine ⟨⟨rfl, rfl, rfl, rfl, rfl⟩, ⟨89, 100, rfl, rfl, by decide⟩, ⟨_, rfl, by decide⟩, ⟨_, rfl, by decide⟩, ?_, ?_⟩
  · rintro _ ⟨⟩
    refine ⟨by decide, ?_⟩
    rintro _ ⟨⟩
    decide
  · rintro _ ⟨⟩
    decide
theorem test_witness_MinuteIsDelivered :
    ((atMs 60000 (atMinute 16777214 oper)).power.on = true ∧ (atMs 60000 (atMinute 16777214 oper)).NoTake ∧
      (atMs 60000 (atMinute 16777214 oper)).clock.minute = some 16777214 ∧
      (atMs 60000 (atMinute 16777214 oper)).clock.minutePhase = some 0 ∧
      0 + 60000 ≤ (atMs 60000 (atMinute 16777214 oper)).now) ∧
    (atMs 60000 (atMinute 16777215 oper)).clock.minute = some 16777215 ∧ lift.start < lift.finish ∧
    (∀ k, some 99 = some k → k < lift.start ∧ k < 100) ∧ (∀ k, some 199 = some k → k < lift.finish ∧ k < 200) := by
  refine ⟨⟨rfl, .inl rfl, rfl, rfl, by decide⟩, rfl, by decide, ?_, ?_⟩ <;> rintro _ ⟨⟩ <;> decide
theorem test_witness_MinuteReachesTable :
    (atMs 60000 (atMinute 99 (withBooking { lift with state := .pending } State.reset))).NumbersUnique ∧
    (atMs 60000 (atMinute 99 (withBooking { lift with state := .pending } State.reset))).geo.mode = .survey ∧
    (atMs 60000 (atMinute 99 (withBooking { lift with state := .pending } State.reset))).Ready ∧
    Parts.afterMinute (some 99) 100 (atMinute 99 (withBooking { carried .normal with crane := 0 } (craneIs .joining oper))) =
      [{ carried .normal with startReached := true, state := .ready }] ∧
    (∀ now, (atMinute 99 State.reset).clock.minute = some now → now < 100) := by
  refine ⟨by unfold State.NumbersUnique; decide +kernel, rfl, ⟨rfl, rfl, rfl, rfl, rfl⟩, by decide +kernel, ?_⟩
  rintro _ ⟨⟩
  decide
/-- Crane 0 holds with some ticks to go, at the end of the first tick. -/
def holding (n : Nat) : State := atMs 1000 ((running [.hold 2, .endStep] .holding).putChannel 0
  { Channel.cleared with booking := some 1, phase := .holding, hold := some n })
theorem test_witness_HoldTicksCount : (holding 2).power.on = true ∧ (holding 2).NoTake ∧
    (holding 2).clock.tickBegan + (holding 2).clock.tickLength ≤ (holding 2).now ∧
    ((holding 2).channel 0).state = .active ∧ ((holding 2).channel 0).phase = .holding ∧
    ((holding 2).channel 0).hold = some 2 ∧ ((holding 1).channel 0).hold = some 1 :=
  ⟨rfl, .inl rfl, by decide +kernel⟩
theorem test_witness_OnlyStartsSetUptime : Instr.minuteAdvance ≠ .powerOn ∧ Instr.minuteAdvance ≠ .siteReset ∧
    (∀ m, Instr.minuteAdvance ≠ .resetLine m) ∧ ∃ t, exec .minuteAdvance State.reset = .next t :=
  ⟨by decide, by decide, by simp, _, rfl⟩
theorem test_witness_BandIsHighestEdgeBelow : record.minRadius ≤ 2500 ∧ 60000 ≤ record.jibLength ∧
    ∀ i, i < 8 → record.edge i < record.edge (i + 1) := by decide +kernel
theorem test_witness_CraneAndProfileAreLoaded : State.reset.Ready ∧ State.reset.geo.mode = .survey ∧
    (craneRecordOf? { record.toCraneDims with kind := 0 }) = some record ∧ State.reset.configured 0 = false ∧
    (withCrane State.reset).Ready ∧ (withCrane State.reset).configured 0 = true ∧ profileInRange SiteProfile.default = true := by
  unfold State.Ready; decide +kernel
theorem test_witness_LoadsAreRefused : oper.Ready ∧ oper.geo.mode = .operate ∧ State.reset.geo.mode = .survey ∧
    craneRecordOf? { record.toCraneDims with kind := 2 } = none ∧ State.reset.configured 0 = false ∧
    (withCrane State.reset).Ready ∧ (withCrane State.reset).configured 0 = true ∧ 128 < 127 + 2 ∧ 127 + 1 ≤ 128 ∧
    ([] : List Byte).length ≠ 1 * (if CellTable.jib = .tail then 1 else 8) ∧
    profileInRange { SiteProfile.default with prescaler := 240 } = false ∧
    (¬ Parts.Admitted .hook 112 ∧ ¬ Parts.Admitted .hook 4 ∧ ¬ Parts.Admitted .jib 1 ∧ ¬ Parts.Admitted .tail 3 ∧
      Parts.Admitted .hook 3 ∧ Parts.Admitted .jib 111) :=
  ⟨test_oper_is_ready, rfl, rfl, by decide +kernel, by decide +kernel, ⟨rfl, rfl, rfl, rfl, rfl⟩, by decide +kernel,
    by decide, by decide, by decide, by decide +kernel, by unfold Parts.Admitted; decide⟩
theorem test_witness_LoadCellsWritesRun : (withCrane State.reset).Ready ∧ (withCrane State.reset).geo.mode = .survey ∧
    (withCrane State.reset).configured 0 = true ∧ 127 + 1 ≤ 128 ∧ cellsOf? .tail [111] = some [.shared 47] ∧
    cellsOf? .hook (List.replicate 8 3) = some (List.replicate 8 .forbiddenLoaded) ∧
    cellsOf? .jib (List.replicate 8 2) = some (List.replicate 8 .forbidden) := by
  unfold State.Ready; decide +kernel
theorem test_witness_ChartIsLoaded : (withCrane State.reset).Ready ∧ (withCrane State.reset).geo.mode = .survey ∧
    oper.Ready ∧ oper.geo.mode = .operate ∧ (withCrane State.reset).configured 0 = true ∧
    (withCrane State.reset).configured 1 = false ∧ (∃ b : Band, 65000 < (Vector.replicate 8 65001).get b) ∧
    ∀ b : Band, (Vector.replicate 8 65000).get b ≤ 65000 := by
  unfold State.Ready; decide +kernel
theorem test_witness_OperateKeepsGeometry : oper.geo.mode = .operate := rfl
theorem test_witness_SurveyIsEntered : oper.Ready ∧ oper.geo.mode = .operate ∧ State.reset.geo.mode = .survey ∧
    (∀ b ∈ oper.bookings, b.state ≠ .running ∧ b.state ≠ .interrupted) ∧
    (∀ c, oper.configured c = true → oper.effective c ≠ .storm) ∧
    (∃ b ∈ (withBooking lift oper).bookings, b.state = .running ∨ b.state = .interrupted) := by
  unfold State.Ready; decide +kernel
theorem test_witness_SurveyExitBegins : State.reset.Ready ∧ State.reset.geo.mode = .survey ∧ oper.geo.mode = .operate ∧
    validateGeometry State.reset = none ∧
    validateGeometry (withCrane State.reset) = some (.geometryIncomplete, .missing 0 .jibGrid) :=
  ⟨test_reset_is_ready, rfl, rfl, by decide +kernel, by decide +kernel⟩
/-- Crane 0 as a slot with every cell of one class and a chart of one capacity, after a change of its record. -/
def filled (cell : Cell) (cap : Nat) (f : CraneRecord → CraneRecord) : CraneSlot :=
  { CraneSlot.unconfigured with
    record := some (f record), jib := Vector.replicate 128 (some (Vector.replicate 8 cell))
    tail := Vector.replicate 128 (some cell), hook := Vector.replicate 128 (some (Vector.replicate 8 cell))
    chart := some (Vector.replicate 8 cap) }
/-- A site of one slot in SURVEY. -/
def site (sl : CraneSlot) : State := State.reset.putSlot 0 sl
theorem test_witness_ValidationChecks : Parts.FirstMissing ((withCrane State.reset).slotOf 0) .jibGrid ∧
    Parts.EdgeFails (site (filled .free 5 fun r => { r with jibLength := 58000 })) 0 8 ∧
    (∃ sl, sl = { filled .free 5 id with chart := some #v[5, 5, 5, 5, 5, 5, 5, 6] } ∧ Parts.ChartFails (site sl) 0 7) ∧
    (deriveEntry (site (filled (.shared 47) 5 id)).geo.slots 47).members.length = 1 ∧
    (∀ z : ZoneId, (deriveEntry (site (filled .free 5 id)).geo.slots z).members.length ≠ 1) ∧
    State.reset.profile.watchGust < State.reset.profile.holdGust := by
  refine ⟨⟨0, by decide +kernel⟩, ⟨_, rfl, by decide +kernel⟩,
    ⟨_, rfl, by decide +kernel, _, rfl, by decide, by decide, 5, 6, by decide +kernel, by decide +kernel, by decide⟩, ?_⟩
  decide +kernel
/-- What each of the five checks answers first (R14). -/
theorem test_validation_codes :
    validateGeometry (site (filled .free 5 fun r => { r with jibLength := 58000 })) =
      some (.edgesNotAscending, .edge 0 8) ∧
    validateGeometry (site { filled .free 5 id with chart := some #v[5, 5, 5, 5, 5, 5, 5, 6] }) =
      some (.chartIncreases, .chartBand 0 7) ∧
    validateGeometry (site (filled (.shared 47) 5 id)) = some (.singleMemberZone, .zoneNamed 47) ∧
    validateGeometry (site (filled .free 5 id)) = none := by decide +kernel
/-- In SURVEY with plan 0 claiming zone 5 and plan 1 naming none, and a PENDING booking of a crane with a plan. -/
def judged (c : Slot) (p : PlanId) : State :=
  { site (filled .free 5 id) with
    plans := putAt (putAt State.reset.plans 0 (some ⟨[.claim [5] 1 .fail, .endStep], none⟩)) 1 (some ⟨[.endStep], none⟩)
    bookings := [{ carried .normal with crane := c, plan := p }] }
theorem test_witness_ExitJudgesPlans : (judged 0 0).Ready ∧ (judged 0 0).NumbersUnique ∧ (judged 0 0).geo.mode = .survey ∧
    validateGeometry (judged 0 0) = none ∧ (∃ pl, (judged 0 0).plan? 0 = some pl ∧ pl.failure = none ∧
      ∃ st ∈ pl.steps, ∃ z : ZoneId, z.val ∈ stepNames st ∧ (deriveEntry (judged 0 0).geo.slots z).members = []) ∧
    (judged 0 0).configured 1 = false ∧ (judged 0 1).configured 0 = true := by
  refine ⟨⟨rfl, rfl, rfl, rfl, rfl⟩, by unfold State.NumbersUnique; decide +kernel, rfl, by decide +kernel,
    ⟨_, rfl, rfl, _, .head _, 5, ?_⟩, by decide +kernel, by decide +kernel⟩
  decide +kernel
/-- Step 3 of an exit fails a booking of an unconfigured crane with NOT_CONFIGURED though its plan is INVALID (R139). -/
theorem test_exit_fails_bookings :
    (after (exec (.leaveSurvey 0) (sends (.reply someReply) (judged 1 0))) fun t => t.bookings.map (·.outcome)) =
      some [some ⟨.notConfigured, none⟩] ∧
    (after (exec (.leaveSurvey 0) (sends (.reply someReply) (judged 0 0))) fun t => t.bookings.map (·.outcome)) =
      some [some ⟨.planInvalid, none⟩] ∧
    (after (exec (.leaveSurvey 0) (sends (.reply someReply) (judged 0 1))) fun t => t.bookings) =
      some [{ carried .normal with plan := 1 }] := by
  decide +kernel
/-- A survey exit in flight. -/
def exiting : State := { State.reset with port := { State.reset.port with hand := some 6 } }
theorem test_witness_SurveyExitEnds : exiting.power.on = true ∧ exiting.port.slot = none ∧ exiting.port.queue = [] ∧
    exiting.port.resetProgress = .none ∧ (∀ c, (exiting.crane c).state ≠ .inService) ∧ exiting.port.hand = some 6 ∧
    State.reset.port.hand = none ∧ exiting.supervised 0 = false := by decide +kernel
theorem test_witness_SurveyExitLine : (sends (.reply someReply) exiting).port.tx = some (.reply someReply) ∧
    (sends (.reply someReply) exiting).port.hand = some 6 ∧ exiting.power.lowFor = none ∧ exiting.port.tx = none ∧
    ({ exiting with port := { exiting.port with queue := [⟨3, .typed .identify⟩] } } : State).port.queue =
      ⟨3, .typed .identify⟩ :: [] := ⟨rfl, rfl, rfl, rfl, rfl⟩
/-- Crane 0 configured and excluded. -/
def excluded : State := (withCrane oper).putExcluded 0 true
theorem test_witness_CraneIsRemoved : (withCrane oper).Ready ∧ ((withCrane oper).bookings.map (·.number)).Nodup ∧
    (withCrane oper).configured 0 = true ∧ ((withCrane oper).slotOf 0).excluded = false ∧
    (withCrane oper).configured 1 = false ∧ excluded.Ready ∧ excluded.configured 0 = true ∧
    (excluded.slotOf 0).excluded = true := by
  unfold State.Ready; decide +kernel
theorem test_witness_CraneIsAdmitted : excluded.Ready ∧ excluded.configured 0 = true ∧
    (excluded.slotOf 0).excluded = true ∧ excluded.configured 1 = false ∧ ((withCrane oper).slotOf 0).excluded = false := by
  unfold State.Ready; decide +kernel
theorem test_witness_PlanIsLoaded : oper.Ready ∧ (∃ b ∈ (withBooking lift oper).bookings, b.plan = 0) ∧
    (withBooking lift oper).Ready ∧ (∀ b ∈ (withBooking lift oper).bookings, b.plan ≠ 1) ∧
    1 ≤ (List.replicate 24 PlanStep.endStep).length ∧ (List.replicate 24 PlanStep.endStep).length ≤ 24 ∧
    (List.replicate 23 PlanStep.loop).length + ([] : List StepField).length < 24 := by
  unfold State.Ready; decide +kernel
theorem test_witness_PlanIsValidExactly : oper.verify [.hold 1, .check .windowOpen 0, .endStep] = none ∧
    oper.verify [.check .windowOpen 0, .endStep] = some ⟨.cycle, 0⟩ := by decide +kernel
/-- OPERATE at minute 50 with crane 0 configured and JOINING, and plan 0 VALID. -/
def bookable : State := withPlan [.endStep] (craneIs .joining (atMinute 50 ((withCrane oper).putSlot 0
  { CraneSlot.unconfigured with record := some record, chart := some (Vector.replicate 8 1000) })))
theorem test_witness_BookIsRefused : bookable.Ready ∧ bookingOf? { liftFields with kind := 4 } = none ∧
    bookingOf? liftFields = some (carried .normal) ∧ bookingOf? { liftFields with number := 0 } =
      some { carried .normal with number := 0 } ∧
    (∃ o ∈ (withBooking lift bookable).bookings, o.number = (carried .normal).number) ∧
    (∀ o ∈ bookable.bookings, o.number ≠ (carried .normal).number) ∧ bookable.clock.minute = some 50 ∧
    bookable.configured 0 = true ∧ (craneIs .lockout bookable).clock.minute = some 50 ∧
    ((craneIs .lockout bookable).crane 0).state = .lockout ∧ (bookable.crane 0).state = .joining ∧
    (carried .urgent).start > 50 ∧
    bookingOf? { liftFields with kind := 1 } = some (carried .urgent) ∧
    bookingOf? { liftFields with kind := 3, mass := 1 } = some { carried .service with mass := 1 } ∧
    bookingOf? { liftFields with finish := 821 } = some { carried .normal with finish := 821 } ∧ 100 + 720 < 821 ∧
    (withPlan [] oper).clock.minute = none ∧ (∀ p, oper.plan? 0 = some p → p.failure ≠ none) := by
  refine ⟨⟨rfl, rfl, rfl, rfl, rfl⟩, ?_⟩
  decide +kernel
/-- Booking 2 of crane 0 runs until minute 150. -/
def other (st : BookingState) (k : BookingKind) (back : Option Nat) : Booking :=
  { lift with number := 2, kind := k, finish := 150, state := st, returnsTo := back }
theorem test_witness_CombinationHolds :
    Parts.CombinationHolds (withBooking (other .running .normal none) bookable) (carried .supersede) 100 ∧
    Parts.CombinationHolds (withBooking (other .running .urgent none) bookable) (carried .urgent) 100 ∧
    Parts.CombinationHolds bookable (carried .service) 50 ∧
    (∃ o ∈ (withBooking (other .ready .urgent none) bookable).bookings, o.crane = 0 ∧ o.kind = .urgent ∧
      (o.state = .ready ∨ (o.state = .running ∧ o.returnsTo ≠ none))) ∧
    (∀ o ∈ bookable.bookings, o.crane = 0 → o.state ≠ .running) ∧
    (∃ o ∈ (withBooking (other .running .urgent (some 3)) bookable).bookings, o.crane = 0 ∧ o.state = .running ∧
      o.returnsTo ≠ none) := by
  simp only [Parts.CombinationHolds, carried]
  decide +kernel
/-- Checks 4 to 10 of R127 at their bounds: what BOOK of `lift` in a kind is refused with at a minute. -/
theorem test_book_checks :
    (withBooking (other .ready .urgent none) bookable).refuseBooking? (carried .urgent) 100 = some .nestDepth ∧
    bookable.refuseBooking? (carried .supersede) 100 = some .nothingToSupersede ∧
    (withBooking (other .running .urgent (some 3)) bookable).refuseBooking? (carried .supersede) 100 = some .nestDepth ∧
    bookable.refuseBooking? (carried .normal) 200 = some .windowInvalid ∧
    bookable.refuseBooking? { carried .normal with mass := 1001 } 50 = some .overChart ∧
    (withBooking (other .pending .normal none) bookable).refuseBooking? (carried .normal) 50 = some .overlap ∧
    (withBooking { other .pending .normal none with finish := 100, start := 90 } bookable).refuseBooking? (carried .normal) 50 = none := by
  decide +kernel
theorem test_witness_LaterChecks : (carried .normal).start < (carried .normal).finish ∧ 50 < (carried .normal).finish ∧
    (carried .normal).finish ≤ (carried .normal).start + 720 ∧ (∃ p, bookable.plan? 0 = some p ∧ p.failure = none) ∧
    (∀ p, bookable.plan? 1 = some p → p.failure ≠ none) ∧ bookable.geo.mode = .operate ∧
    (∀ p, bookable.plan? 0 = some p → ∀ st ∈ p.steps, claimZonesOf st = []) ∧
    (bookable.slotOf 0).chart = some (Vector.replicate 8 1000) ∧
    (Vector.replicate 8 1000).get (carried .normal).pick.band < 1001 ∧ 0 ∉ (bookable.entry 5).members ∧
    64 ≤ (List.replicate 64 (other .done .normal none)).length := by
  refine ⟨by decide, by decide, by decide, ⟨_, rfl, rfl⟩, ?_, rfl, ?_, ?_⟩
  · intro p h
    exact absurd h (by decide +revert +kernel)
  · rintro p h
    cases (show some (Plan.mk [.endStep] none) = some p from h)
    decide +kernel
  · decide +kernel
theorem test_witness_BookIsStored : bookable.Ready ∧ bookingOf? liftFields = some (carried .normal) ∧
    (carried .normal).number ≠ 0 ∧ bookable.booking? 1 = none ∧ bookable.clock.minute = some 50 ∧
    bookable.refuseBooking? (carried .normal) 50 = none ∧ 50 < (carried .normal).start ∧
    (atMinute 100 bookable).Ready ∧ (atMinute 100 bookable).refuseBooking? (carried .urgent) 100 = none ∧
    ((atMinute 100 bookable).crane 0).state ≠ .inService := by
  unfold State.Ready; decide +kernel
/-- Crane 0 IN_SERVICE in OPERATE with gust 199 and one READY booking. -/
def gated : State := (craneIs .inService (withBooking { lift with state := .ready } oper)).putWind 0
  { Wind.cleared with gust := some 199 }
theorem test_witness_GateStartsEarliest : gated.NumbersUnique ∧ (gated.channel 0).booking = none ∧
    { lift with state := .ready } ∈ gated.bookings ∧
    (∀ o ∈ gated.bookings, o.crane = 0 → o.state = .ready → o.kind ≠ .urgent ∧
      (o = { lift with state := .ready } ∨ lift.start < o.start ∨ (lift.start = o.start ∧ lift.number < o.number))) ∧
    gated.geo.mode = .operate ∧ (gated.crane 0).state = .inService ∧
    (gated.effective 0 = .calm ∨ gated.effective 0 = .watch) ∧ (gated.windOf 0).gust = some 199 ∧
    199 < lift.windLimit.getD gated.profile.holdGust := by
  unfold State.NumbersUnique
  decide +kernel
/-- Crane 0 runs booking 1, and booking 2 is READY and URGENT. -/
def urged : State :=
  { craneIs .inService (running [.hold 5, .endStep] .holding) with
    bookings := [lift, { lift with number := 2, kind := .urgent, state := .ready }] }
theorem test_witness_UrgentInterrupts : urged.NumbersUnique ∧ urged.geo.mode = .operate ∧
    (urged.crane 0).state = .inService ∧ urged.booking? 2 = some { lift with number := 2, kind := .urgent, state := .ready } ∧
    urged.current? 0 = some lift ∧ lift.returnsTo = none ∧ 2 ≠ lift.number := by
  unfold State.NumbersUnique
  decide +kernel
/-- Crane 0 runs booking 2, with OPERATOR on its channel, and booking 1 is READY, to supersede it. -/
def superseding (k : BookingKind) : State :=
  { atMinute 100 (craneIs .joining (bookable.putChannel 0
      { Channel.cleared with booking := some 2, phase := .holding, hold := some 5, reasons := ⟨false, false, true⟩ })) with
    bookings := [other .running k none] }
theorem test_witness_Supersede : (superseding .normal).Ready ∧ (superseding .normal).NumbersUnique ∧
    (superseding .normal).refuseBooking? (carried .supersede) 100 = none ∧ (superseding .normal).booking? 1 = none ∧
    (superseding .normal).current? 0 = some (other .running .normal none) ∧
    ((superseding .normal).channel 0).reasons.operator = true ∧ urged.current? 0 = some lift ∧
    urged.booking? 2 = some { lift with number := 2, kind := .urgent, state := .ready } := by
  refine ⟨⟨rfl, rfl, rfl, rfl, rfl⟩, by unfold State.NumbersUnique; decide +kernel, ?_⟩
  decide +kernel
/-- The context booking 1 was interrupted in. -/
def saved : SavedContext := ⟨0, .holding, 0, 0, some 5, none, false⟩
/-- Crane 0 runs the URGENT booking 2, which returns to the INTERRUPTED booking 1, with OPERATOR on its channel. -/
def returning : State :=
  { (running [.hold 5, .endStep] .holding).putChannel 0
      { Channel.cleared with booking := some 2, reasons := ⟨false, false, true⟩ } with
    bookings := [{ lift with state := .interrupted, saved := some saved }, other .running .urgent (some 1)] }
theorem test_witness_InterruptedResumes : returning.Ready ∧ returning.NumbersUnique ∧
    returning.booking? 1 = some { lift with state := .interrupted, saved := some saved } ∧
    returning.booking? 2 = some (other .running .urgent (some 1)) ∧ (returning.channel 0).interruptedLoss = none ∧
    (returning.channel 0).reasons.operator = true := by
  refine ⟨⟨rfl, rfl, rfl, rfl, rfl⟩, by unfold State.NumbersUnique; decide +kernel, ?_⟩
  decide +kernel
theorem test_witness_BookingIsCancelled : (withBooking lift oper).Ready ∧ (∀ b ∈ oper.bookings, b.number ≠ 1) ∧
    (withBooking lift oper).booking? 1 = some lift ∧ lift.state = .running ∧
    (withBooking { lift with state := .pending } oper).booking? 1 = some { lift with state := .pending } ∧
    (withBooking { lift with state := .interrupted } oper).booking? 1 = some { lift with state := .interrupted } ∧
    (withBooking { lift with state := .done } oper).booking? 1 = some { lift with state := .done } ∧
    BookingState.done.ended = true ∧ KeyKind.booking ∉ oper.port.masks := by
  unfold State.Ready; decide +kernel
/-- Crane 0, configured, holds in a HOLD step with some reasons and pause. -/
def channelOf (r : Reasons) (paused : Bool) : State := (withCrane (running [.hold 2, .endStep] .holding)).putChannel 0
  { Channel.cleared with booking := some 1, phase := .holding, hold := some 2, reasons := r, paused := paused }
theorem test_witness_ChannelRequestsAct : (channelOf .empty false).Ready ∧ (channelOf .empty false).configured 0 = true ∧
    (channelOf .empty false).configured 1 = false ∧ ((channelOf .empty false).channel 0).reasons.operator = false ∧
    ((channelOf .empty false).channel 0).phase ≠ .waitingClaim ∧ ((channelOf .empty false).channel 0).booking ≠ none ∧
    ((channelOf .empty false).channel 0).state ≠ .stepPause ∧ (channelOf ⟨false, false, true⟩ false).Ready ∧
    ((channelOf ⟨false, false, true⟩ false).channel 0).reasons.operator = true ∧ (channelOf .empty true).Ready ∧
    ((channelOf .empty true).channel 0).state = .stepPause ∧ ((withCrane oper).channel 0).booking = none ∧
    ((channelOf .empty false).channel 1).state ≠ .stepPause := by
  unfold State.Ready; decide +kernel
/-- The channel of an unconfigured slot is IDLE (R163), so CONTINUE answers BAD_STATE, where STEP_MODE answers NOT_CONFIGURED
(R161). -/
theorem test_continue_of_unconfigured_slot :
    replyOf (.continueStep 3 11) (withCrane oper) = some (some (.reply ⟨3, 17, .badState, .empty⟩)) ∧
    replyOf (.stepMode 3 11 true) (withCrane oper) = some (some (.reply ⟨3, 16, .notConfigured, .empty⟩)) := by
  decide +kernel
/-- A link with some notices and a busy line. -/
def notices (n : Nat) (s : State) : State :=
  s.putLink 0 { Link.unused with
    state := .live, notices := List.replicate n (.text 0 false []), tx := some (.notice (.text 0 false [])) }
theorem test_witness_WaitingStepsBegin :
    (notices 3 (running [.ack 7 1 .fail] .starting)).power.on = true ∧ (notices 3 (running [.ack 7 1 .fail] .starting)).NoTake ∧
    ((notices 3 (running [.ack 7 1 .fail] .starting)).channel 0).state = .active ∧
    ((notices 3 (running [.ack 7 1 .fail] .starting)).channel 0).phase = .starting ∧
    (notices 3 (running [.ack 7 1 .fail] .starting)).step? 0 = some (.ack 7 1 .fail) ∧
    ((notices 3 (running [.ack 7 1 .fail] .starting)).channel 0).booking = some 1 ∧
    ((notices 3 (running [.ack 7 1 .fail] .starting)).link 0).notices.length < 4 ∧
    ((notices 3 (running [.ack 7 1 .fail] .starting)).link 0).tx ≠ none ∧
    4 ≤ ((notices 4 (running [.ack 7 1 .fail] .starting)).link 0).notices.length ∧
    (running [.hold 2] .starting).step? 0 = some (.hold 2) ∧
    (running [.await (.loadOn 5) 1 .fail] .starting).step? 0 = some (.await (.loadOn 5) 1 .fail) := by
  refine ⟨rfl, .inl rfl, ?_⟩
  decide +kernel
/-- The channel of crane 0 in step mode at a step. -/
def stepping (steps : List PlanStep) (count : Nat) : State := (notices 3 (running steps .starting)).putChannel 0
  { Channel.cleared with booking := some 1, stepMode := true, repeatCounter := count }
theorem test_witness_QuickStepsComplete : (stepping [.loop] 0).power.on = true ∧ (stepping [.loop] 0).NoTake ∧
    ((stepping [.loop] 0).channel 0).state = .active ∧ ((stepping [.loop] 0).channel 0).phase = .starting ∧
    ((stepping [.loop] 0).channel 0).stepMode = true ∧ (stepping [.loop] 0).step? 0 = some .loop ∧
    (stepping [.loop] 0).current? 0 = some lift ∧ ((stepping [.loop] 0).channel 0).repeatCounter = 0 ∧
    0 < ((stepping [.loop] 1).channel 0).repeatCounter ∧
    (stepping [.repeatStep 3] 0).step? 0 = some (.repeatStep 3) ∧
    (stepping [.notify 1 2 3] 0).step? 0 = some (.notify 1 2 3) ∧
    ((stepping [.notify 1 2 3] 0).link 0).notices.length < 4 := by
  refine ⟨rfl, .inl rfl, ?_⟩
  decide +kernel
theorem test_witness_LineIdle : Parts.LineIdle (running [.notify 1 2 3] .starting) 0 ∧
    Parts.LineIdle (running [.ack 7 1 .fail] .starting) 0 := by
  unfold Parts.LineIdle
  decide +kernel
/-- Crane 0 out of step mode at a step with a HOLD after it, its line busy. -/
def runningOn (st : PlanStep) : State :=
  (notices 3 (running [st, .hold 4, .endStep] .starting)).putChannel 0 { Channel.cleared with booking := some 1 }
theorem test_witness_QuickStepsRunOn : (runningOn .loop).power.on = true ∧ (runningOn .loop).NoTake ∧
    ((runningOn .loop).channel 0).state = .active ∧ ((runningOn .loop).channel 0).phase = .starting ∧
    ((runningOn .loop).channel 0).stepMode = false ∧ (runningOn .loop).current? 0 = some lift ∧
    (runningOn (.repeatStep 3)).plan? 0 = some ⟨[.repeatStep 3, .hold 4, .endStep], none⟩ ∧
    [PlanStep.repeatStep 3, .hold 4, .endStep][1]? = some (.hold 4) ∧ lift.windowEnded = false := by
  refine ⟨rfl, .inl rfl, ?_⟩
  decide +kernel
/-- A quick step runs on to the HOLD after it within one event (R147). -/
theorem test_check_runs_on : after (exec (.nextStep 0) (runningOn (.check .windowOpen 2)))
    (fun t => ((t.channel 0).step, (t.channel 0).phase, (t.channel 0).hold)) = some (1, .holding, some 4) := by decide +kernel
theorem test_witness_CheckHolding : (heldZone .standing oper).arb.pool.map (·.stamp) = [5] ∧
    (∃ r ∈ (heldZone .standing oper).arb.pool, r.kind = .standing ∧ r.booking = some lift.number ∧
      (∃ cz ∈ r.zones, cz.zone = 0) ∧ ∀ cz ∈ r.zones, cz.zone = 0 → cz.status = .granted ∧ cz.pending = none) ∧
    (∀ r ∈ (heldZone .transit oper).arb.pool, r.kind = .standing → r.booking = some lift.number → ∀ cz ∈ r.zones,
      cz.zone = 0 → cz.status ≠ .granted ∨ cz.pending ≠ none) := by decide +kernel
theorem test_witness_CheckJudges : (stepping [.check .windowOpen 5] 0).power.on = true ∧
    (stepping [.check .windowOpen 5] 0).NoTake ∧ ((stepping [.check .windowOpen 5] 0).channel 0).state = .active ∧
    ((stepping [.check .windowOpen 5] 0).channel 0).phase = .starting ∧
    ((stepping [.check .windowOpen 5] 0).channel 0).stepMode = true ∧
    (stepping [.check .windowOpen 5] 0).step? 0 = some (.check .windowOpen 5) ∧
    (stepping [.check .windowOpen 5] 0).current? 0 = some lift ∧
    ((linked .live (stepping [.check (.loadBelow 1) 5] 0)).link 0).lastPose = some still ∧
    ((stepping [.check .windBelowLimit 5] 0).windOf 0).gust = none := by
  refine ⟨rfl, .inl rfl, ?_⟩
  decide +kernel
/-- Crane 0, a member of zone 0, stands in step mode at the beginning of a step. -/
def claiming (st : PlanStep) (b : Booking) : State := { (hookZone (running [st, .endStep] .starting)).putChannel 0
  { Channel.cleared with booking := some 1, stepMode := true } with bookings := [b] }
/-- Crane 0 has a STORM entry in zone 0. -/
def stormWaits (s : State) : State := s.putZone 0 { ZoneRecord.free with waiting := [.storm 0] }
theorem test_witness_ClaimStepBegins : (claiming (.claim [0] 1 .fail) lift).power.on = true ∧
    (claiming (.claim [0] 1 .fail) lift).NoTake ∧ ((claiming (.claim [0] 1 .fail) lift).channel 0).state = .active ∧
    ((claiming (.claim [0] 1 .fail) lift).channel 0).phase = .starting ∧
    (claiming (.claim [0] 1 .fail) lift).step? 0 = some (.claim [0] 1 .fail) ∧
    (claiming (.claim [0] 1 .fail) lift).current? 0 = some lift ∧
    (∀ z ∈ stepZones [0], (claiming (.claim [0] 1 .fail) lift).member 0 z = true) ∧
    (claiming (.claim [0] 1 .fail) lift).NoWaiting ∧ (claiming (.claim [0] 1 .fail) lift).arb.pool = [] ∧
    (stormWaits (claiming (.claim [0] 1 .fail) lift)).entryOf? 0 0 = some (.storm 0) ∧
    (claiming (.claim [0] 1 .fail) { lift with windowEnded := true }).NoneReady 0 := by
  refine ⟨rfl, .inl rfl, ?_⟩
  unfold State.NoneReady State.NoWaiting
  decide +kernel
theorem test_claim_step_holds : after (exec (.nextStep 0) (claiming (.claim [0] 1 .fail) lift))
    (fun t => ((t.zone 0).holding, (t.channel 0).step, (t.channel 0).state)) =
    some (.held 0 (.pool 0), 1, .stepPause) := by decide +kernel
theorem test_witness_ReleaseStepReleases :
    (heldZone .standing (claiming (.release .all) lift)).step? 0 = some (.release .all) ∧
    (heldZone .standing (claiming (.release .all) lift)).current? 0 = some lift ∧
    ((heldZone .standing (claiming (.release .all) lift)).channel 0).stepMode = true ∧
    ((heldZone .standing (claiming (.release .all) lift)).channel 0).state = .active ∧
    (∀ r ∈ (claiming (.release .all) lift).arb.pool, r.kind = .standing → r.booking ≠ some lift.number) ∧
    (∀ k ∈ (heldZone .standing (claiming (.release .all) lift)).arb.pool, k.kind = .standing →
      k.booking = some lift.number → k.stamp = 5) ∧
    (heldZone .standing (claiming (.release .all) lift)).NoWaiting ∧
    (heldZone .standing (claiming (.release .all) lift)).pendingZones = [] := by
  unfold State.NoWaiting
  decide +kernel
theorem test_release_step_frees : after (exec (.nextStep 0) (heldZone .standing (claiming (.release .all) lift)))
    (fun t => ((t.zone 0).holding, t.arb.pool.length, (t.channel 0).step)) = some (.free, 0, 1) := by decide +kernel
theorem test_witness_EndStepEnds : (running [.endStep] .starting).power.on = true ∧ (running [.endStep] .starting).NoTake ∧
    ((running [.endStep] .starting).channel 0).state = .active ∧
    ((running [.endStep] .starting).channel 0).phase = .starting ∧
    (running [.endStep] .starting).step? 0 = some .endStep ∧ (running [.endStep] .starting).current? 0 = some lift ∧
    lift.returnsTo = none ∧ (running [.endStep] .starting).NoneReady 0 :=
  ⟨rfl, .inl rfl, rfl, rfl, rfl, rfl, rfl, by unfold State.NoneReady; decide +kernel⟩
/-- Crane 0 waits at a step with a wait limit that has run out. -/
def waited (st : PlanStep) (ph : ChannelPhase) : State := (running [st] ph).putChannel 0
  { Channel.cleared with booking := some 1, phase := ph, wait := some 0 }
theorem test_witness_WaitLimitExpires : (waited (.await (.loadOn 5) 1 .fail) .waitingPose).power.on = true ∧
    (waited (.await (.loadOn 5) 1 .fail) .waitingPose).NoTake ∧
    ((waited (.await (.loadOn 5) 1 .fail) .waitingPose).channel 0).wait = some 0 ∧
    ((waited (.await (.loadOn 5) 1 .fail) .waitingPose).channel 0).state = .active ∧
    ((waited (.await (.loadOn 5) 1 .fail) .waitingPose).channel 0).phase ≠ .starting ∧
    ((waited (.await (.loadOn 5) 1 .fail) .waitingPose).channel 0).phase ≠ .holding ∧
    (waited (.await (.loadOn 5) 1 .fail) .waitingPose).step? 0 = some (.await (.loadOn 5) 1 .fail) ∧
    ((waited (.await (.loadOn 5) 1 .fail) .waitingPose).channel 0).claim = none ∧
    (waited (.await (.loadOn 5) 1 .fail) .waitingPose).current? 0 = some lift ∧ lift.returnsTo = none ∧
    (waited (.await (.loadOn 5) 1 .fail) .waitingPose).NoneReady 0 ∧
    (waited (.ack 7 1 (.goto 0)) .waitingAck).step? 0 = some (.ack 7 1 (.goto 0)) ∧
    (waited (.claim [0] 1 (.goto 0)) .waitingClaim).step? 0 = some (.claim [0] 1 (.goto 0)) ∧
    ((running [.endStep] .starting).channel 0).wait ≠ some 0 := by
  refine ⟨rfl, .inl rfl, ?_⟩
  unfold State.NoneReady
  decide +kernel
/-- Crane 0 is a member of zone 0 and asks for it again. -/
def asking (b : Booking) : State := { (hookZone (running [.claim [0] 1 .fail, .endStep] .waitingClaim)).putChannel 0
  { Channel.cleared with booking := some 1, phase := .waitingClaim, claim := some .noRecord, retryDue := true } with
  bookings := [b] }
theorem test_witness_ClaimIsRetried : (asking lift).power.on = true ∧ (asking lift).NoTake ∧
    ((asking lift).channel 0).state = .active ∧ ((asking lift).channel 0).phase = .waitingClaim ∧
    ((asking lift).channel 0).claim = some .noRecord ∧ ((asking lift).channel 0).retryDue = true ∧
    (asking lift).current? 0 = some lift ∧ (asking lift).step? 0 = some (.claim [0] 1 .fail) ∧ lift.windowEnded = false ∧
    (∀ z ∈ stepZones [0], (asking lift).member 0 z = true) ∧
    (asking { lift with windowEnded := true }).current? 0 = some { lift with windowEnded := true } ∧
    (asking { lift with windowEnded := true }).NoneReady 0 := by
  refine ⟨rfl, .inl rfl, ?_⟩
  unfold State.NoneReady
  decide +kernel
theorem test_witness_ClaimIsGranted : (asking lift).NoWaiting ∧ (asking lift).arb.pool = [] ∧
    ((asking lift).link 0).state ≠ .stale ∧
    (∀ z ∈ stepZones [0], ((asking lift).zone z).holding = .free ∧ ∀ o, o ≠ 0 → z ∉ ((asking lift).engine o).occupancy) := by
  unfold State.NoWaiting
  refine ⟨by decide +kernel, by decide +kernel, by decide +kernel, by decide +kernel⟩
theorem test_witness_ClaimIsRefused : (0 ∈ stepZones [0] ∧ (stormWaits (asking lift)).entryOf? 0 0 = some (.storm 0)) ∧
    (∀ z ∈ stepZones [0], (asking lift).entryOf? 0 z = none ∧ (asking lift).holds 0 z = false) ∧
    96 ≤ ((asking lift).putPool (List.replicate 96 ⟨0, 0, 1, .transit, 0, none, [], ⟨0, false⟩⟩)).arb.pool.length := by
  refine ⟨by decide +kernel, by decide +kernel, by decide +kernel⟩
/-- A claim of stamp n that waits for zone 0 alone. -/
def waiting (n : Nat) (c : Slot) (k : PoolKind) (priority : Nat) : PoolRecord :=
  ⟨n, n, c, k, priority, some 1, [⟨0, .waiting, none⟩], ⟨0, false⟩⟩
/-- Zone 0 is held by crane 1, and crane 2 waits for it with a STANDING and crane 3 with a TRANSIT claim. -/
def crowded (s : State) : State :=
  ({ s with arb := { s.arb with stamp := 9 } }.putPool
    [⟨5, 0, 1, .transit, 0, none, [⟨0, .granted, none⟩], ⟨3000, true⟩⟩, waiting 6 2 .standing 0, waiting 7 3 .transit 0]).putZone 0
    { ZoneRecord.free with holding := .held 1 (.pool 5), waiting := [.pool 6, .pool 7] }
/-- Crane 0 asks for zone 0, which others hold and wait for. -/
def queueing : State := (crowded (asking lift)).putChannel 0
  { Channel.cleared with booking := some 1, phase := .waitingClaim, claim := none }
theorem test_witness_ClaimWaitsInList : queueing.power.on = true ∧ queueing.NoTake ∧
    (queueing.channel 0).state = .active ∧ (queueing.channel 0).phase = .waitingClaim ∧ (queueing.channel 0).claim = none ∧
    queueing.current? 0 = some lift ∧ queueing.step? 0 = some (.claim [(0 : ZoneId).val] 1 .fail) ∧
    queueing.member 0 0 = true ∧ queueing.entryOf? 0 0 = none ∧ (queueing.zone 0).holding = .held 1 (.pool 5) ∧
    (queueing.zone 0).reservedFor = none ∧ queueing.arb.pool.length < 96 ∧ queueing.poolRec? queueing.arb.stamp = none ∧
    (∀ x ∈ (queueing.zone 0).waiting, ∃ k r, x = .pool k ∧ queueing.poolRec? k = some r ∧
      r.zones = [⟨0, .waiting, none⟩]) := by
  refine ⟨rfl, .inl rfl, ?_⟩
  and_intros
  all_goals try decide +kernel
  intro x h
  rw [show (queueing.zone 0).waiting = [.pool 6, .pool 7] by decide +kernel] at h
  rcases List.mem_cons.mp h with h | h
  · exact ⟨6, waiting 6 2 .standing 0, h, by decide +kernel, rfl⟩
  · exact ⟨7, waiting 7 3 .transit 0, List.mem_singleton.mp h, by decide +kernel, rfl⟩
/-- The new STANDING claim of priority 0 goes between the older one and the TRANSIT claim (R83, R84). -/
theorem test_claim_takes_its_place : after (exec (.claimRetry 0) queueing) (fun t => (t.zone 0).waiting) =
    some [.pool 6, .pool 9, .pool 7] := by decide +kernel
/-- A loss told to the channel of crane 0. -/
def lost (b : Nat) (s : State) : State :=
  s.putChannel 0 { Channel.cleared with booking := some 1, losses := [⟨b, 0, .forced, 0⟩] }
theorem test_witness_LossIsTaken : (lost 1 (running [.endStep] .starting)).power.on = true ∧
    (lost 1 (running [.endStep] .starting)).NoTake ∧
    ((lost 1 (running [.endStep] .starting)).channel 0).losses = [⟨1, 0, .forced, 0⟩] ∧
    (lost 1 (running [.endStep] .starting)).current? 0 = some lift ∧ lift.number = 1 ∧ lift.returnsTo = none ∧
    (lost 1 (running [.endStep] .starting)).NoneReady 0 ∧
    ((lost 2 urged).channel 0).booking ≠ some 2 ∧
    ({ lost 2 urged with bookings := [lift, { lift with number := 2, state := .interrupted }] } : State).booking? 2 =
      some { lift with number := 2, state := .interrupted } ∧
    (∀ b, (lost 3 urged).booking? 3 = some b → b.state ≠ .interrupted) ∧ (oper.channel 0).losses = [] := by
  refine ⟨rfl, .inl rfl, ?_⟩
  unfold State.NoneReady
  decide +kernel
/-- Crane 0 occupies zone 0. -/
def occupying (s : State) : State := s.putEngine 0 { Engine.cleared with occupancy := [0] }
theorem test_witness_ReleaseFollowsRule : (heldZone .standing oper).grantedTo (.pool 5) 0 = true ∧
    (heldZone .standing oper).pendingZones = [] ∧ ((heldZone .standing oper).zone 0).holding = .held 0 (.pool 5) ∧
    ((heldZone .standing oper).zone 0).coClaims = [] ∧ 0 ∉ ((heldZone .standing oper).engine 0).occupancy ∧
    ((heldZone .standing oper).link 0).state ≠ .stale ∧ ((heldZone .standing oper).link 0).state ≠ .lost ∧
    0 ∈ ((occupying (heldZone .standing oper)).engine 0).occupancy ∧ (heldZone .standing oper).arb.pool.length < 96 ∧
    (((heldZone .standing oper).putZone 0
      { ZoneRecord.free with holding := .held 0 (.pool 5), coClaims := [6] }).zone 0).coClaims = 6 :: [] := by
  decide +kernel
theorem test_witness_ListsKeepKeyOrder : (crowded oper).poolRec? 6 = some (waiting 6 2 .standing 0) ∧
    [ClaimRef.storm 0, .pool 6].Pairwise (fun x y => ((crowded oper).key x).above ((crowded oper).key y) = true) ∧
    ∀ x ∈ [ClaimRef.storm 0, .pool 6], (crowded oper).key x ≠ (crowded oper).key (.pool 7) := by decide +kernel
theorem test_witness_FreedZoneIsGranted : (crowded oper).power.on = true ∧ (crowded oper).NoTake ∧
    ((crowded oper).zone 0).holding = .held 1 (.pool 5) ∧ ((crowded oper).zone 0).coClaims = [] ∧
    ((crowded oper).zone 0).reservedFor = none ∧ (∃ r, (crowded oper).poolRec? 5 = some r ∧ r.kind = .transit ∧
      r.zones = [⟨0, .granted, none⟩] ∧ r.dwell.running = true ∧ 3000 ≤ r.dwell.elapsed) ∧
    (∀ e, 0 ∉ ((crowded oper).engine e).occupancy) ∧ (crowded oper).pendingZones = [] ∧
    ((crowded oper).zone 0).waiting = .pool 6 :: [.pool 7] ∧ (crowded oper).poolRec? 6 = some (waiting 6 2 .standing 0) ∧
    ((crowded oper).link 2).state ≠ .stale ∧ (crowded oper).poolRec? 7 = some (waiting 7 3 .transit 0) := by
  refine ⟨rfl, .inl rfl, by decide +kernel, by decide +kernel, by decide +kernel, ⟨_, rfl, rfl, rfl, rfl, by decide +kernel⟩, ?_⟩
  decide +kernel
theorem test_freed_zone_goes_to_head : after (exec (.dwellExpiry 0) (crowded oper))
    (fun t => ((t.zone 0).holding, (t.zone 0).waiting)) = some (.held 2 (.pool 6), [.pool 7]) := by decide +kernel
/-- Crane 0's storm record waits at the head of zone 0's list, which crane 1 holds and crane 2 waits for. -/
def stormAhead (h : Holding) : State := ((crowded oper).putStorm 0 ⟨8, [⟨0, .waiting, none⟩]⟩).putZone 0
  { ZoneRecord.free with holding := h, waiting := [.storm 0, .pool 6] }
theorem test_witness_StormCandidateIsJudged : ((stormAhead .free).zone 0).waiting = .storm 0 :: [.pool 6] ∧
    ((stormAhead .free).link 0).state ≠ .stale ∧ ((stormAhead .free).zone 0).reservedFor = none ∧
    (stormAhead .free).pendingZones = [] ∧ (stormAhead .free).poolRec? 6 = some (waiting 6 2 .standing 0) ∧
    ((stormAhead (.held 1 (.pool 5))).zone 0).holding = .held 1 (.pool 5) ∧
    (∀ d, ((stormAhead (.held 1 (.pool 5))).zone 0).holding ≠ .held d (.storm 0)) ∧
    (∃ cz ∈ ((stormAhead .free).storm 0).zones, cz.zone = 0) ∧
    ((stormAhead .closed).zone 0).holding = .closed ∧ ((stormAhead (.held 1 (.storm 1))).zone 0).holding = .held 1 (.storm 1) ∧
    ((linked .lost (stormAhead (.held 0 (.pool 5)))).link 0).state = .lost := by decide +kernel
theorem test_storm_takes_over : ((settleZones (stormAhead (.held 1 (.pool 5))) [0] (stormAhead (.held 1 (.pool 5)))).zone 0).holding =
      .held 0 (.storm 0) ∧
    ((settleZones (stormAhead .closed) [0] (stormAhead .closed)).zone 0).holding = .closed := by decide +kernel
theorem test_witness_CoClaimsFollow : ((heldZone .standing oper).zone 0).holding = .held 0 (.pool 5) ∧
    (heldZone .standing oper).poolKind? 5 = some .standing ∧ (heldZone .transit oper).poolKind? 5 = some .transit ∧
    ((requestStorm 0 0 ((heldZone .standing oper).putStorm 0 ⟨8, [⟨0, .waiting, none⟩]⟩)).zone 0).coClaims = [5] ∧
    ((requestStorm 0 0 ((heldZone .standing oper).putStorm 0 ⟨8, [⟨0, .waiting, none⟩]⟩)).zone 0).holding =
      .held 0 (.storm 0) := by decide +kernel
theorem test_witness_ZoneRequestsAct : (hookZone oper).Ready ∧ (hookZone oper).geo.mode = .operate ∧
    ((hookZone oper).entry 0).kind = .hook ∧ ((hookZone oper).zone 0).holding = .free ∧
    ((hookZone oper).zone 0).waiting = [] ∧ (∀ k, ((hookZone oper).zone k).reservedFor = none) ∧
    (∀ k, k ≠ 0 → ((hookZone oper).zone k).waiting = []) ∧
    ((heldZone .transit (hookZone oper)).zone 0).holding = .held 0 (.pool 5) ∧
    (((hookZone oper).putZone 0 { ZoneRecord.free with holding := .closed, closure := some 3 }).zone 0).holding = .closed ∧
    (((heldZone .transit (hookZone oper)).putZone 0
      { ZoneRecord.free with holding := .held 0 (.pool 5), closure := some 3, waiting := [.closure 0] }).zone 0).waiting =
      [.closure 0] ∧ (oper.entry 0).kind = .unused ∧ ((hookZone oper).zone 0).holding ≠ .closed := by
  refine ⟨⟨rfl, rfl, rfl, rfl, rfl⟩, ?_⟩
  decide +kernel
theorem test_witness_ZoneIsForced (k : PoolKind) : (heldZone k oper).Ready ∧ (heldZone k oper).geo.mode = .operate ∧
    (heldZone k oper).NoWaiting ∧ (heldZone k oper).pendingZones = [] ∧
    ((heldZone k oper).zone 0).holding = .held 0 (.pool 5) ∧ ((heldZone k oper).zone 0).coClaims = [] ∧
    (∃ r, (heldZone k oper).poolRec? 5 = some r ∧ r.zones = [⟨0, .granted, none⟩] ∧ r.kind = k ∧ r.booking = some 1) ∧
    ∀ y ∈ ((heldZone k oper).channel 0).losses, y.event ≤ (heldZone k oper).events := by
  refine ⟨⟨rfl, rfl, rfl, rfl, rfl⟩, rfl, ?_, ?_, rfl, rfl, ⟨_, rfl, rfl, rfl, rfl⟩, ?_⟩
  · unfold State.NoWaiting
    cases k <;> decide +kernel
  · cases k <;> decide +kernel
  · cases k <;> decide +kernel
/-- Crane 0's storm record holds zone 0 with the STANDING claim 5 as co-claim, its link in a state. -/
def stormHeld (st : LinkState) : State := linked st (((heldZone .standing oper).putStorm 0 ⟨8, [⟨0, .granted, none⟩]⟩).putZone 0
  { ZoneRecord.free with holding := .held 0 (.storm 0), coClaims := [5] })
theorem test_witness_StormZoneIsForced (st : LinkState) : (stormHeld st).Ready ∧ (stormHeld st).geo.mode = .operate ∧
    (stormHeld st).NoWaiting ∧ (stormHeld st).pendingZones = [] ∧ ((stormHeld st).zone 0).holding = .held 0 (.storm 0) ∧
    ((stormHeld st).engine 0).latch = false ∧ (∃ cz ∈ ((stormHeld st).storm 0).zones, cz.zone = 0) ∧
    ((stormHeld st).link 0).state = st := by
  unfold State.Ready State.NoWaiting
  revert st
  rintro (_ | _ | _ | _) <;> decide +kernel
theorem test_force_of_storm_zone :
    after (exec (.forceRelease 0 0) (stormHeld .live)) (fun t => ((t.zone 0).holding, (t.zone 0).coClaims)) =
      some (.held 0 (.storm 0), []) ∧
    after (exec (.forceRelease 0 0) (stormHeld .stale)) (fun t => ((t.zone 0).holding, (t.zone 0).waiting)) =
      some (.free, [.storm 0]) := by decide +kernel
/-- The dwell of the claim on zone 0 one ms before its end. -/
theorem test_dwell_at_2999 : ∀ s ∈ [(heldZone .transit oper).putPool [⟨5, 0, 0, .transit, 0, none, [⟨0, .granted, none⟩], ⟨2999, true⟩⟩]],
    (∃ r, s.poolRec? 5 = some r ∧ r.dwell.elapsed < 3000) ∧
      after (exec (.dwellExpiry 0) s) (fun t => (t.zone 0).holding) = some (.held 0 (.pool 5)) := by
  simp only [List.mem_singleton, forall_eq]
  exact ⟨⟨_, rfl, by decide +kernel⟩, by decide +kernel⟩
theorem test_witness_DwellExpires : (heldZone .transit oper).power.on = true ∧ (heldZone .transit oper).NoTake ∧
    (heldZone .transit oper).NoWaiting ∧
    (∃ r, (heldZone .transit oper).poolRec? 5 = some r ∧ r.zones = [⟨0, .granted, none⟩] ∧ r.kind = .transit ∧
      r.dwell.running = true ∧ 3000 ≤ r.dwell.elapsed) ∧
    0 ∉ ((heldZone .transit oper).engine 0).occupancy ∧ ((heldZone .transit oper).link 0).state ≠ .stale ∧
    ((heldZone .transit oper).link 0).state ≠ .lost ∧
    (∀ c n r, (oper.zone 0).holding = .held c (.pool n) → oper.poolRec? n = some r →
      r.kind = .standing ∨ r.dwell.running = false ∨ r.dwell.elapsed < 3000) := by
  refine ⟨rfl, .inl rfl, by unfold State.NoWaiting; decide +kernel, ⟨_, rfl, rfl, rfl, rfl, by decide +kernel⟩,
    by decide +kernel, by decide +kernel, by decide +kernel, ?_⟩
  intro c n r h
  have free : (oper.zone 0).holding = .free := by decide +kernel
  rw [free] at h
  cases h
theorem test_witness_DeclarationIsSet : State.reset.Ready ∧
    ((3, WindLevel.storm) ∈ [(0, WindLevel.calm), (1, .watch), (2, .hold), (3, .storm)]) ∧
    State.reset.wind.declaration ≠ .storm ∧ State.reset.wind.declaration = .calm ∧
    ((0, WindLevel.calm) ∈ [(0, WindLevel.calm), (1, .watch), (2, .hold), (3, .storm)]) := by
  unfold State.Ready; decide +kernel
/-- Crane 0's own state WATCH, its timer started at uptime 0, at an uptime. -/
def calming (t : Ms) : State := atMs t (oper.putWind 0
  { Wind.cleared with
    own := .watch, effective := .watch, calmDown := some (.watch, 0), stormAfterHold := some 0 })
theorem test_witness_OwnStateTimersExpire : (calming 120000).power.on = true ∧ (calming 120000).NoTake ∧
    ((calming 120000).windOf 0).calmDown = some (.watch, 0) ∧ 0 + (calming 120000).profile.watchResume * 60000 ≤ (calming 120000).now ∧
    (calming 119999).now < 0 + (calming 119999).profile.watchResume * 60000 ∧
    ((calming 1800000).windOf 0).stormAfterHold = some 0 ∧
    0 + (calming 1800000).profile.stormAfterHold * 60000 ≤ (calming 1800000).now ∧
    (calming 1799999).now < 0 + (calming 1799999).profile.stormAfterHold * 60000 ∧
    (oper.windOf 0).calmDown = none ∧ (oper.windOf 0).stormAfterHold = none ∧ ((calming 0).windOf 0).own = .watch := by
  refine ⟨rfl, .inl rfl, ?_⟩
  decide +kernel
/-- Crane 0's own state WATCH beneath a declaration of STORM, its timer started at uptime 0. -/
def declared : State :=
  { calming 120000 with
    wind := { ((calming 120000).putWind 0
      { (calming 120000).windOf 0 with effective := .storm }).wind with declaration := .storm } }
theorem test_witness_OwnStateFallsUnseen : (declared.windOf 0).own = .watch ∧
    declared.effective 0 = WindLevel.calm.higher declared.wind.declaration ∧
    (declared.windOf 0).calmDown = some (.watch, 0) ∧ 0 + declared.profile.watchResume * 60000 ≤ declared.now := by
  decide +kernel
/-- Crane 0's channel holds WIND and OPERATOR with its calm timer started at uptime 0. -/
def calmFor (t : Ms) : State := atMs t (oper.putChannel 0
  { Channel.cleared with booking := some 1, reasons := ⟨true, false, true⟩, calmFrom := some 0 })
theorem test_witness_CalmTimerExpires : (calmFor 120000).power.on = true ∧ (calmFor 120000).NoTake ∧
    ((calmFor 120000).channel 0).calmFrom = some 0 ∧
    0 + (calmFor 120000).profile.watchResume * 60000 ≤ (calmFor 120000).now ∧
    ((calmFor 120000).channel 0).reasons.operator = true ∧
    (calmFor 119999).now < 0 + (calmFor 119999).profile.watchResume * 60000 ∧ (oper.channel 0).calmFrom = none := by
  refine ⟨rfl, .inl rfl, ?_⟩
  decide +kernel
theorem test_witness_BucketsClose : (atMs 60000 oper).power.on = true ∧ (atMs 60000 oper).NoTake ∧
    (atMs 60000 oper).wind.bucketPhase + 60000 ≤ (atMs 60000 oper).now ∧
    (atMs 59999 oper).now < (atMs 59999 oper).wind.bucketPhase + 60000 :=
  ⟨rfl, .inl rfl, by decide +kernel, by decide +kernel⟩
/-- Crane 0, configured, in FAULT of a cause, its condition met, with a context. -/
def faulted (cause : FaultCause) (met flag : Bool) : State := (withCrane oper).putCrane 0
  { CraneStatus.fresh .fault with
    fault := some ⟨cause, false, met⟩
    faultContext := some { (withCrane oper).newContext 0 cause none with eStopFlag := flag } }
theorem test_witness_FaultIsCleared : (faulted .overload true false).Ready ∧
    (faulted .overload true false).configured 0 = true ∧
    ((faulted .overload true false).crane 0).fault = some ⟨.overload, false, true⟩ ∧
    (∀ x, ((faulted .overload true false).crane 0).faultContext = some x → x.eStopFlag = false ∧ x.linkLostFlag = false) ∧
    (∃ x, ((faulted .overload true true).crane 0).faultContext = some x ∧ (x.eStopFlag = true ∨ x.linkLostFlag = true)) ∧
    ((faulted .intrusion true false).crane 0).fault = some ⟨.intrusion, false, true⟩ ∧
    ((faulted .overload false false).crane 0).fault = some ⟨.overload, false, false⟩ ∧
    ((withCrane oper).crane 0).fault = none := by
  refine ⟨⟨rfl, rfl, rfl, rfl, rfl⟩, by decide +kernel, by decide +kernel, ?_, ⟨_, rfl, .inl rfl⟩, by decide +kernel,
    by decide +kernel, by decide +kernel⟩
  rintro _ ⟨⟩
  exact ⟨rfl, rfl⟩
theorem test_witness_RecoveryBegins : (faulted .intrusion false false).Ready ∧
    (faulted .intrusion false false).configured 0 = true ∧ (faulted .intrusion false false).geo.mode = .operate ∧
    (∃ f, ((faulted .intrusion false false).crane 0).fault = some f ∧ f.cause = .intrusion) ∧
    ((faulted .intrusion false false).engine 0).recovery = false ∧
    (∀ f, ((withCrane oper).crane 0).fault = some f → f.cause ≠ .intrusion) ∧
    (((faulted .intrusion false false).putEngine 0 { Engine.cleared with recovery := true }).engine 0).recovery = true ∧
    (withCrane State.reset).geo.mode = .survey ∧ (withCrane State.reset).configured 0 = true := by
  refine ⟨⟨rfl, rfl, rfl, rfl, rfl⟩, by decide +kernel, rfl, ⟨_, rfl, rfl⟩, by decide +kernel, ?_, by decide +kernel, rfl,
    by decide +kernel⟩
  intro f h
  exact absurd h (by decide +revert +kernel)
/-- A fault raised and cleared before its CRANE report goes out shows in it as a fault context with its end (R178). -/
theorem test_crane_report_shows_ended_context :
    after (exec .siteTxDone (sends (.reply someReply) (clearTheFault 0 .auto .computation (faulted .overload true false))))
      (fun t => match t.port.tx with
        | some (.report _ (.crane (some r))) => r.faultContext.map fun x => (r.reading.state, x.cause, x.ended)
        | _ => none) = some (some (.inService, .overload, some (.auto, 0))) := by decide +kernel
/-- Crane 0 in LOCKOUT with a LIVE link. -/
def locked : State := craneIs .lockout (linked .live (withCrane oper))
theorem test_witness_LockoutIsCleared : locked.Ready ∧ locked.configured 0 = true ∧ locked.geo.mode = .operate ∧
    (locked.crane 0).state = .lockout ∧ (locked.link 0).state = .live ∧ (locked.crane 0).eStop = false ∧
    (locked.link 0).lastPose = some still ∧ still.load < locked.profile.emptyLoad ∧ still.slewRate = 0 ∧
    still.radialSpeed = 0 ∧ (locked.channel 0).booking = none ∧ locked.NumbersUnique ∧
    ((withCrane oper).crane 0).state ≠ .lockout := by
  refine ⟨⟨rfl, rfl, rfl, rfl, rfl⟩, ?_⟩
  unfold State.NumbersUnique
  decide +kernel
theorem test_witness_FaultRequestsAct : oper.Ready ∧ oper.configured 0 = false ∧ 12 ≤ 12 :=
  ⟨test_oper_is_ready, by decide +kernel, by decide⟩
theorem test_witness_EStopIsRaised : (linked .live (craneIs .inService oper)).power.on = true ∧
    (linked .live (craneIs .inService oper)).NoTake ∧ ((linked .live (craneIs .inService oper)).link 0).state ≠ .unused ∧
    ((linked .live (craneIs .inService oper)).slotOf 0).excluded = false ∧
    ((linked .live (craneIs .inService oper)).crane 0).state = .inService ∧
    ((linked .live (craneIs .joining oper)).crane 0).state = .joining ∧
    ((linked .live (faulted .eStop false false)).crane 0).fault = some ⟨.eStop, false, false⟩ ∧
    ((linked .live (faulted .overload false false)).crane 0).state = .fault ∧ (locked.crane 0).state = .lockout ∧
    (oper.link 0).state = .unused ∧ (excluded.slotOf 0).excluded = true := by
  refine ⟨rfl, .inl rfl, ?_⟩
  decide +kernel
/-- Crane 0 configured, its link LIVE with the pose of sequence 7, its crane in a state. -/
def heard (st : OpState) (s : State) : State := craneIs st (linked .live (withCrane s))
theorem test_witness_PoseIsJudged : record.minRadius ≤ record.jibLength ∧ (heard .inService oper).power.on = true ∧
    ((heard .inService oper).slotOf 0).excluded = false ∧ (heard .inService oper).record? 0 = some record ∧
    judgePose record 0 (stillFrame 8) = .valid { still with sequence := 8 } ∧
    judgePose record 0 { stillFrame 8 with load := 65001 } = .invalid .load ∧ (heard .inService oper).now = 0 := by
  decide +kernel
/-- Sequences 8 and 134 are new after 7; 7 is a duplicate and 135 old (R25). -/
theorem test_witness_Fresh : Parts.Fresh ((heard .inService oper).link 0) (stillFrame 8) ∧
    Parts.Fresh ((heard .inService oper).link 0) (stillFrame 134) ∧
    (((stillFrame 7).sequence - BitVec.ofNat 8 still.sequence).toNat = 0) ∧
    128 ≤ ((stillFrame 135).sequence - BitVec.ofNat 8 still.sequence).toNat :=
  ⟨.inr (.inr ⟨.inl rfl, still, rfl, by decide, by decide, by decide⟩),
    .inr (.inr ⟨.inl rfl, still, rfl, by decide, by decide, by decide⟩), by decide, by decide⟩
theorem test_witness_PoseIsRefused : (heard .inService oper).power.on = true ∧ (heard .inService oper).NoTake ∧
    ((heard .inService oper).link 0).state = .live ∧ ((heard .inService oper).link 0).lastPose = some still ∧
    still.sequence < 256 ∧ ((heard .inService oper).link 0).invalidStreak ≠ 1 ∧
    (((heard .inService oper).putLink 0
      { (heard .inService oper).link 0 with invalidStreak := 1 }).link 0).invalidStreak = 1 ∧
    ((heard .inService oper).crane 0).state = .inService := by
  refine ⟨rfl, .inl rfl, ?_⟩
  decide +kernel
theorem test_witness_PoseIsAccepted : (heard .inService oper).power.on = true ∧ (heard .inService oper).NoTake ∧
    ((heard .inService oper).slotOf 0).excluded = false ∧ (heard .inService oper).record? 0 = some record ∧
    judgePose record (heard .inService oper).now (stillFrame 8) = .valid { still with sequence := 8 } ∧
    ((heard .inService oper).windOf 0).sensor = .ok ∧ ((heard .inService oper).windOf 0).ring.length ≤ 12 ∧
    (heard .inService oper).geo.mode = .operate ∧ ((heard .inService oper).crane 0).state ≠ .offline ∧
    (heard .joining State.reset).geo.mode = .survey ∧
    judgePose record 0 { stillFrame 8 with flags := 0x08 } =
      .valid { still with sequence := 8, windValid := false, operatorPresent := false, sensorFault := true } := by
  refine ⟨rfl, .inl rfl, ?_⟩
  decide +kernel
theorem test_witness_CabMessageIsTaken : (heard .inService oper).power.on = true ∧ (heard .inService oper).NoTake ∧
    ((heard .inService oper).link 0).state ≠ .unused ∧ ((heard .inService oper).slotOf 0).excluded = false ∧
    checkCabFrame [] = none ∧ ((running [.ack 7 1 .fail] .waitingAck).channel 0).state = .active ∧
    ((running [.ack 7 1 .fail] .waitingAck).channel 0).phase = .waitingAck ∧
    (running [.ack 7 1 .fail] .waitingAck).step? 0 = some (.ack (7#8).toNat 1 .fail) ∧
    (oper.channel 0).state ≠ .active ∧ (oper.link 0).state = .unused := by
  refine ⟨rfl, .inl rfl, ?_⟩
  decide +kernel
theorem test_witness_SilentLinkGoesDown : (atMs 750 (heard .inService oper)).power.on = true ∧
    (atMs 750 (heard .inService oper)).NoTake ∧ ((atMs 750 (heard .inService oper)).link 0).lastPose = some still ∧
    (atMs 750 (heard .inService oper)).record? 0 = some record ∧
    ((atMs 750 (heard .inService oper)).link 0).state = .live ∧
    still.acceptedAt + 750 ≤ (atMs 750 (heard .inService oper)).now ∧
    (atMs 749 (heard .inService oper)).now < still.acceptedAt + 750 ∧
    (linked .stale (atMs 3000 (heard .inService oper))).link 0 =
      { Link.unused with state := .stale, lastPose := some still } ∧
    still.acceptedAt + 3000 ≤ (linked .stale (atMs 3000 (heard .inService oper))).now ∧
    ((linked .stale (atMs 3000 (heard .inService oper))).crane 0).state = .inService := by
  refine ⟨rfl, .inl rfl, ?_⟩
  decide +kernel
theorem test_witness_LostAgain : ((linked .stale (atMs 3000 (faulted .overload false false))).link 0).state = .stale ∧
    ((linked .stale (atMs 3000 (faulted .overload false false))).crane 0).state = .fault ∧
    ((linked .stale (atMs 3000 (faulted .overload false false))).crane 0).fault = some ⟨.overload, false, false⟩ ∧
    ((linked .stale (atMs 3000 (craneIs .lockout oper))).crane 0).state = .lockout ∧
    after (exec (.linkLost 0) (linked .stale (atMs 3000 (faulted .overload false false))))
      (fun t => (t.crane 0).faultContext.map (·.linkLostFlag)) = some (some true) := by decide +kernel
/-- Link 0 with given slot, last sent frame, line, notices and repeat timer. -/
def sender (slot lastSent : Option StampedFrame) (tx : Option CabOutbound) (ns : List CabNotice) (t : Ms) : State :=
  atMs t (oper.putLink 0
    { Link.unused with
      state := .live, slot := slot, lastSent := lastSent, tx := tx, notices := ns, repeatFrom := some 0 })
/-- A limit frame of generation 1. -/
def stamped : StampedFrame := ⟨1, linkMadeFrame .operate record⟩
theorem test_witness_TransmitterGoesOn : oper.power.on = true ∧ oper.NoTake ∧ (oper.link 0).repeatFrom = none ∧
    ((sender none (some stamped) none [] 250).link 0).repeatFrom = some 0 ∧
    0 + 250 ≤ (sender none (some stamped) none [] 250).now ∧ (sender none (some stamped) none [] 249).now < 0 + 250 ∧
    ((sender none (some stamped) none [] 250).link 0).tx = none ∧ ((sender none (some stamped) none [] 250).link 0).slot = none ∧
    ((sender none (some stamped) none [] 250).link 0).lastSent = some stamped ∧
    ((sender (some stamped) none (some (.limit stamped)) [] 0).link 0).tx ≠ none ∧
    ((sender (some stamped) none (some (.limit stamped)) [] 0).link 0).slot = some stamped ∧
    ((sender none none (some (.limit stamped)) [.text 0 false []] 0).link 0).notices = .text 0 false [] :: [] ∧
    ((sender none none (some (.limit stamped)) [] 0).link 0).notices = [] ∧ oper.power.lowFor = none ∧
    ((running [.notify 1 2 3] .waitingSlot).channel 0).state = .active ∧
    ((running [.notify 1 2 3] .waitingSlot).channel 0).phase = .waitingSlot ∧
    (running [.notify 1 2 3] .waitingSlot).step? 0 = some (.notify 1 2 3) := by
  refine ⟨rfl, .inl rfl, ?_⟩
  decide +kernel
/-- A slot whose jib grid blocks sector 1 in every band, all other sectors being FREE. -/
def walled (sec : Sector) : CraneSlot :=
  { CraneSlot.unconfigured with
    record := some record
    jib := Vector.ofFn fun k => some (Vector.replicate 8 (if k = sec then .forbidden else .free))
    tail := Vector.replicate 128 (some .free)
    hook := Vector.replicate 128 (some (Vector.replicate 8 .free)) }
/-- Nothing is permitted beyond what needs no permission. -/
def strict : Permits := ⟨[], false, false, true⟩
theorem test_witness_WalkEndsAtFirstBlock : 65535 < 65536 ∧
    cwWalk (walled 1) strict (envelope record 0 still) 0 =
      some { walk := ⟨512, 512⟩, cells := List.replicate 8 .forbidden, chart := false } ∧
    ccwWalk (walled 127) strict (envelope record 0 still) 0 =
      some { walk := ⟨0, 0⟩, cells := List.replicate 8 .forbidden, chart := false } ∧
    cwWalk (walled 0) strict { envelope record 0 still with bands := [0] } 0 = none := by decide +kernel
/-- Crane 0 recovers from FAULT(INTRUSION), a flag standing or not. -/
def recovering (flag : Bool) : State := (faulted .intrusion false flag).putEngine 0
  { Engine.cleared with recovery := true, occupancy := [3], evict := [3, 4] }
theorem test_witness_RecoveryIsJudged : ((recovering false).crane 0).state = .fault ∧
    ((recovering false).crane 0).fault = some ⟨.intrusion, false, false⟩ ∧ (recovering false).flagStands 0 = false ∧
    (recovering true).flagStands 0 = true ∧ (locked.crane 0).state = .lockout ∧ (locked.crane 0).fault = none ∧
    ((judgePresent 0 false none (some .clear) (recovering false)).crane 0).state = .inService := by decide +kernel
theorem test_witness_EvictionEnds : 4 ∈ ((recovering false).engine 0).evict ∧
    4 ∉ ((recovering false).engine 0).occupancy ∧ 3 ∈ ((recovering false).engine 0).occupancy ∧
    ((endEvictions 0 (recovering false)).engine 0).evict = [3] := by decide +kernel
theorem test_witness_ModeTable : ((heard .inService oper).crane 0).state ≠ .offline ∧
    ((heard .inService oper).engine 0).latch = false ∧
    (heard .inService oper).frameMode 0 true [] still = .normal ∧ (heard .inService oper).frameMode 0 true [3] still = .evict ∧
    (heard .joining oper).frameMode 0 true [] still = .holdPosition := by decide +kernel
/-- Crane 0's line with some notices and nothing else, the reset line low for 9 ms, and a channel of one step. -/
def resting (ns : List CabNotice) (st : PlanStep) (ph : ChannelPhase) : State :=
  lowFor 9 ((running [st] ph).putLink 0 { Link.unused with state := .live, notices := ns })
theorem test_witness_ShortLowIsIgnored : ∀ st ∈ [PlanStep.notify 1 2 3, .ack 4 5 .fail],
    (resting [.text 0 false []] st .waitingSlot).power.on = true ∧
    (resting [.text 0 false []] st .waitingSlot).power.lowFor = some 9 ∧
    (resting [.text 0 false []] st .waitingSlot).port.queue = [] ∧
    ((resting [.text 0 false []] st .waitingSlot).link 0).tx = none ∧
    ((resting [.text 0 false []] st .waitingSlot).link 0).slot = none ∧
    ((resting [.text 0 false []] st .waitingSlot).link 0).notices = .text 0 false [] :: [] ∧
    ((resting [.text 0 false []] st .waitingSlot).channel 0).state = .active ∧
    ((resting [.text 0 false []] st .waitingSlot).channel 0).phase = .waitingSlot ∧
    (resting [.text 0 false []] st .waitingSlot).step? 0 = some st ∧
    ((resting [.text 0 false []] st .waitingSlot).channel 0).booking = some 1 ∧
    ((resting [.text 0 false []] st .starting).channel 0).phase ≠ .waitingSlot ∧
    ((resting [] st .starting).link 0).notices = [] ∧
    ((lowFor 9 (sender (some stamped) none none [] 0)).link 0).slot = some stamped := by decide +kernel
theorem test_short_low_begins_notice :
    after (exec (.resetLine .beforeMark) (resting [.text 0 false []] (.notify 1 2 3) .waitingSlot)) (fun t =>
      ((t.link 0).tx, (t.link 0).notices, (t.channel 0).step)) =
        some (some (.notice (.text 0 false [])), [.coded 1 false 2 3], 1) := by decide +kernel
theorem test_witness_ResetLineCompletes : (lowFor 9 State.reset).power.lowFor = some 9 ∧ (lowFor 9 State.reset).power.on = true ∧
    (lowFor 10 State.reset).power.lowFor = some 10 ∧
    ({ State.reset with power := { State.reset.power with on := false } } : State).power.on = false := by decide +kernel
theorem test_witness_RepliesNothing : (busy 3).port.slot = none ∧
    ({ busy 3 with port := { (busy 3).port with slot := some someReply } } : State).port.tx = none ∧
    (busy 3).power.lowFor = none ∧ (sends (.reply someReply) (replyWaits [])).port.slot ≠ none ∧
    (sends (.reply someReply) (replyWaits [])).port.tx ≠ none ∧ (lowFor 9 (replyWaits [])).port.tx = none := by decide +kernel
theorem test_witness_OutOfListIsJudged :
    decodeRequest (27 : Byte).toNat [1, 7, 2, 0] = .badValue (.relay .all 7 false []) ∧
    oper.geo.mode = .operate ∧ State.reset.geo.mode ≠ .operate ∧ ¬ (12 ≤ 11) ∧ State.reset.configured 11 = false ∧
    (withCrane State.reset).configured 0 = true := by decide +kernel
/-- A LOAD_CELLS of no table is judged after its slot, and a RELAY of no flag after the length of its text (R7, R181). -/
theorem test_out_of_list_is_judged_by_owner :
    (answerOutOfList (.loadCells 0 .jib 0 1 []) State.reset).code = .notConfigured ∧
    (answerOutOfList (.loadCells 0 .jib 0 1 []) (withCrane State.reset)).code = .badValue ∧
    (answerOutOfList (.relay .all 0 false (List.replicate 41 65)) State.reset).code = .badLength := by decide +kernel
theorem test_witness_KeysAreMarked : ReportKey.kind (.zone 0) ∈ [KeyKind.zone] ∧
    (ReportKey.zone 0) ∈ (mark (.zone 0) oper).port.reports ∧ (ReportKey.zone 0) ∉ oper.port.reports ∧
    KeyKind.zone ∉ oper.port.masks := by decide +kernel
theorem test_witness_ChangesMarkKeys : (withBooking lift oper).booking? 1 = some lift ∧
    ({ lift with state := .ready } : Booking).state.ended = false ∧ lift.state ≠ .ready ∧
    (withCrane oper).configured 0 = true ∧ oper.configured 0 = false := by decide +kernel
/-- The line of the port is busy. -/
def occupied (s : State) : State := sends (.reply someReply) s
theorem test_witness_CommandsMarkKeys : (occupied (hookZone oper)).Ready ∧ (occupied (hookZone oper)).port.tx ≠ none ∧
    (occupied (hookZone oper)).geo.mode = .operate ∧ ((occupied (hookZone oper)).entry 0).kind = .hook ∧
    ((occupied (hookZone oper)).zone 0).holding ≠ .closed ∧ .closure 0 ∉ ((occupied (hookZone oper)).zone 0).waiting ∧
    (∀ k, k ∉ (occupied (hookZone oper)).port.masks) ∧ (occupied (hookZone oper)).wind.declaration ≠ .watch ∧
    (occupied (channelOf .empty false)).Ready ∧ (occupied (channelOf .empty false)).configured 0 = true ∧
    ((occupied (channelOf .empty false)).channel 0).reasons.operator = false ∧
    ((occupied (channelOf .empty false)).channel 0).booking ≠ none ∧
    true ≠ ((occupied (channelOf .empty false)).channel 0).stepMode ∧
    (occupied bookable).refuseBooking? (carried .normal) 50 = none ∧ bookingOf? liftFields = some (carried .normal) ∧
    (occupied bookable).Ready ∧ (occupied bookable).clock.minute = some 50 ∧
    (withBooking { lift with state := .pending } (occupied oper)).booking? 1 = some { lift with state := .pending } ∧
    ((occupied (heard .inService oper)).link 0).state ≠ .unused ∧
    ((occupied (heard .inService oper)).crane 0).state = .inService := by
  unfold State.Ready; decide +kernel
/-- Storm zones are read ascending, in whatever order the record holds them (R192). -/
theorem test_storm_zones_read_ascending :
    ((oper.putStorm 0 ⟨1, [⟨21, .granted, none⟩, ⟨5, .waiting, none⟩]⟩).readStorm 0).map (·.1) = [5, 21] := by decide +kernel
theorem test_witness_RecordReadings : ((running [.endStep] .starting).readBooking 1).isSome = true ∧
    lift.state = .running ∧ ((running [.endStep] .starting).channel lift.crane).booking = some 1 ∧
    ((withBooking { lift with state := .ready } oper).readBooking 1).isSome = true ∧
    (running [.endStep] .starting).current? 0 = some lift ∧ (heldZone .transit oper).poolRec? 5 ≠ none ∧
    ((heldZone .transit oper).zone 0).holding = .held 0 (.pool 5) ∧
    (((heldZone .transit oper).putChannel 0 { Channel.cleared with claim := some (.placed 5) }).channel 0).claim =
      some (.placed 5) ∧ ((withCrane oper).readCrane 0).isSome = true := by decide +kernel
theorem test_witness_AckTakesPlace : ((running [.ack 4 5 .fail] .waitingSlot).channel 0).state = .active ∧
    (running [.ack 4 5 .fail] .waitingSlot).step? 0 = some (.ack 4 5 .fail) ∧
    ((running [.ack 4 5 .fail] .waitingSlot).channel 0).booking = some 1 ∧
    ((notices 1 (running [.ack 4 5 .fail] .waitingSlot)).link 0).tx ≠ none ∧
    ((notices 1 (running [.ack 4 5 .fail] .waitingSlot)).link 0).slot = none ∧
    ((notices 1 (running [.ack 4 5 .fail] .waitingSlot)).link 0).notices = .text 0 false [] :: [] := by decide +kernel
/-- Crane 0 in FAULT of OVERLOAD, recovering, its channel running the URGENT booking 2 that returns to the INTERRUPTED booking 1,
with booking 3 READY. -/
def failing : State :=
  { (linked .live ((faulted .overload false false).putEngine 0 { Engine.cleared with recovery := true })).putChannel 0
      { Channel.cleared with booking := some 2, reasons := ⟨false, true, false⟩ } with
    bookings := [{ lift with state := .interrupted, saved := some saved }, other .running .urgent (some 1),
      { lift with number := 3, state := .ready }] }
/-- The link of a state after one invalid pose. -/
def once (s : State) : State := s.putLink 0 { s.link 0 with invalidStreak := 1 }
theorem test_witness_EscalationLocksOut : (failing.crane 0).state = .fault ∧
    (failing.crane 0).fault = some ⟨.overload, false, false⟩ ∧ failing.NumbersUnique ∧
    (failing.channel 0).booking = some 2 ∧ (failing.engine 0).recovery = true ∧
    (∃ x ∈ failing.bookings, x.crane = 0 ∧ x.state = .interrupted ∧ (failing.channel 0).booking ≠ some x.number ∧
      ∀ y ∈ failing.bookings, y.crane = 0 → y.state = .interrupted → y = x) ∧
    (∃ b ∈ failing.bookings, b.crane = 0 ∧ b.state = .ready ∧ (failing.channel 0).booking ≠ some b.number) ∧
    ((faulted .overload false false).channel 0).booking = none ∧ (faulted .overload false false).bookings = [] ∧
    (faulted .overload false false).arb.pool = [] ∧ ((faulted .overload false false).storm 0).zones = [] ∧
    (once failing).power.on = true ∧ (once failing).record? 0 = some record ∧ ((once failing).slotOf 0).excluded = false ∧
    judgePose record (once failing).now { stillFrame 8 with load := 65001 } = .invalid .load ∧
    ((once failing).link 0).invalidStreak = 1 ∧ (locked.crane 0).state = .lockout ∧
    ((craneIs .joining oper).crane 0).state = .joining := by
  unfold State.NumbersUnique; decide +kernel
/-- The second invalid pose locks the crane out with its bookings (R138, R169). -/
theorem test_lockout_ends_bookings :
    after (exec (.poseReport 0 { stillFrame 8 with load := 65001 }) (once failing)) (fun t =>
      ((t.crane 0).state, (t.channel 0).booking, t.bookings.map fun b => (b.state, b.outcome))) =
        some (.lockout, none, [(.cancelled, some ⟨.lockout, some 0⟩), (.failed, some ⟨.lockout, some 0⟩), (.pending, none)]) := by
  decide +kernel
/-- Crane 0 in a state, its link in a state, its tail row naming zone 0, a STRUCTURAL zone that crane 1 occupies. -/
def exposed (st : OpState) (l : LinkState) : State :=
  let s := craneIs st (linked l (oper.putSlot 0
    { CraneSlot.unconfigured with record := some record, tail := Vector.replicate 128 (some (.shared 0)) }))
  { (s.putEngine 1 { Engine.cleared with occupancy := [0] }) with
    geo := { s.geo with directory := putAt s.geo.directory 0 { kind := .structural, members := [0, 1] } } }
theorem test_exposed_names_zone : stormZones (exposed .inService .live) 0 = [0] := by decide +kernel
theorem test_witness_StormRecordIsBuilt (l : LinkState) : ((exposed .joining l).crane 0).state ≠ .inService ∧
    ((exposed .inService l).windOf 0).exitPending = false ∧ ((exposed .inService l).storm 0).zones = [] ∧
    ((exposed .inService l).crane 0).state = .inService ∧ ((exposed .inService l).link 0).state = l ∧
    (exposed .inService l).NoWaiting ∧ (exposed .inService l).pendingZones = [] ∧
    ((exposed .inService l).zone 0).holding = .free ∧
    (((exposed .inService l).putWind 0 { Wind.cleared with exitPending := true }).windOf 0).exitPending = true := by
  unfold State.NoWaiting
  revert l
  rintro (_ | _ | _ | _ | _) <;> decide +kernel
theorem test_witness_DeclaredStormIsBuilt : (exposed .inService .live).Ready ∧ (exposed .inService .live).geo.mode = .operate ∧
    (exposed .inService .live).WindWellKept ∧ (∀ d, (exposed .inService .live).supervised d = true ↔ d = 0) ∧
    (exposed .inService .live).effective 0 ≠ .storm ∧ ((exposed .inService .live).channel 0).booking = none ∧
    (exposed .inService .live).NoneReady 0 := by
  unfold State.Ready State.WindWellKept State.NoneReady; decide +kernel
/-- The zones of a built record are held, with their occupants evictees, or wait behind a STALE link (R87, R91, R117). -/
theorem test_storm_record_is_built :
    after (exec (.declareWind 0 3) (exposed .inService .live)) (fun t =>
      ((t.zone 0).holding, (t.zone 0).evictees, (t.engine 1).evict, (t.storm 0).zones)) =
        some (.held 0 (.storm 0), [1], [0], [⟨0, .granted, none⟩]) ∧
    after (exec (.declareWind 0 3) (exposed .inService .stale)) (fun t => ((t.zone 0).holding, (t.zone 0).waiting)) =
      some (.free, [.storm 0]) := by decide +kernel
/-- Crane 0's storm record holds zone 0, whose evictee is crane 1. -/
def sheltered (l : LinkState) (occupancy : List ZoneId) : State :=
  (((((exposed .inService l).putStorm 0 ⟨8, [⟨0, .granted, none⟩]⟩).putZone 0
    { ZoneRecord.free with holding := .held 0 (.storm 0), evictees := [1] }).putEngine 0
    { Engine.cleared with occupancy := occupancy }).putEngine 1 { Engine.cleared with occupancy := [0], evict := [0] })
theorem test_witness_StormExits : ∀ o ∈ [([] : List ZoneId), [0]], (sheltered .live o).NoWaiting ∧
    (sheltered .live o).pendingZones = [] ∧ (sheltered .live o).arb.pool = [] ∧
    (∀ z, (sheltered .live o).grantedTo (.storm 0) z = true ↔ z = 0) ∧
    ((sheltered .live o).zone 0).holding = .held 0 (.storm 0) ∧ ((sheltered .live o).zone 0).coClaims = [] ∧
    ((sheltered .live o).engine 0).occupancy = o ∧ ((sheltered .live o).engine 0).latch = false ∧
    ((sheltered .live o).link 0).lastPose = some still ∧ still.brakeReleased = false := by
  unfold State.NoWaiting; decide +kernel
theorem test_storm_exit_releases :
    (((completeExit 0 (sheltered .live [])).zone 0).holding, ((completeExit 0 (sheltered .live [])).engine 1).evict) =
      (.free, []) ∧
    ((completeExit 0 (sheltered .live [0])).zone 0).holding = .held 0 (.pool 0) ∧
    ((completeExit 0 (sheltered .live [0])).storm 0).zones = [] := by decide +kernel
/-- Gust and mean of the profile's thresholds give each target, and the released levels. -/
theorem test_witness_OwnStateRises : Parts.Target SiteProfile.default (some SiteProfile.default.stormGust) none .storm ∧
    Parts.Target SiteProfile.default none none .hold ∧
    Parts.Target SiteProfile.default (some SiteProfile.default.watchGust) none .watch ∧
    Parts.Target SiteProfile.default (some 0) (some 0) .calm ∧
    Parts.Releases SiteProfile.default { Wind.cleared with own := .hold, gust := some 0 } ∧
    ¬ Parts.Releases SiteProfile.default { Wind.cleared with own := .calm, gust := some 0 } ∧
    (heard .inService oper).power.on = true ∧ (heard .inService oper).record? 0 = some record := by
  refine ⟨⟨_, rfl, by decide⟩, ⟨by simp, .inl rfl⟩, ⟨⟨_, rfl, by decide⟩, by simp⟩, ⟨⟨_, rfl, by decide⟩, ?_⟩,
    ⟨_, rfl, .inr (.inr ⟨rfl, by decide, by simp [Wind.cleared]⟩)⟩, ?_, rfl, by decide +kernel⟩
  · rintro _ ⟨⟩; decide
  · rintro ⟨_, _, ⟨h, _⟩ | ⟨h, _⟩ | ⟨h, _⟩⟩ <;> cases h
/-- A pose with a storm gust raises the own state at once; with a gust of 0 the release of HOLD starts its timer (R110, R112). -/
theorem test_own_state_rises_and_is_released :
    after (exec (.poseReport 0 { stillFrame 8 with windSample := 600 }) (heard .inService oper)) (fun t =>
      ((t.windOf 0).own, (t.windOf 0).gust, (t.windOf 0).calmDown)) = some (.storm, some 600, none) ∧
    after (exec (.poseReport 0 { stillFrame 8 with windSample := 0 })
      ((heard .inService oper).putWind 0 { Wind.cleared with own := .hold, effective := .hold })) (fun t =>
        ((t.windOf 0).own, (t.windOf 0).calmDown)) = some (.hold, some (.hold, 0)) := by decide +kernel
/-- Crane 0's last pose is heard in OPERATE and crane 1, configured too, has no sample of its own. -/
def neighbours : State := (heard .inService oper).putSlot 1 { CraneSlot.unconfigured with record := some record }
theorem test_witness_PoseMovesBorrowers : neighbours.power.on = true ∧ neighbours.NoTake ∧
    (neighbours.slotOf 0).excluded = false ∧ neighbours.record? 0 = some record ∧ neighbours.supervised 1 = true ∧
    (neighbours.windOf 1).ring = [] ∧ judgePose record 0 (stillFrame 8) = .valid { still with sequence := 8 } :=
  ⟨rfl, .inl rfl, by decide +kernel⟩
/-- A neighbour without a sample borrows the gust of the crane whose pose is accepted, and rises to WATCH by it (R109,
R110). -/
theorem test_neighbour_borrows : after (exec (.poseReport 0 { stillFrame 8 with windSample := 150 }) neighbours) (fun t =>
    ((t.windOf 1).gust, (t.windOf 1).mean, (t.windOf 1).source, (t.windOf 1).own)) =
      some (some 150, some 150, .borrowed 0, .watch) := by decide +kernel
theorem test_witness_ValuesAreEffective : (neighbours.windOf 1).ring = [] ∧ (neighbours.windOf 0).sensor = .ok ∧
    Parts.Lends (neighbours.putWind 0 { Wind.cleared with ring := [150] }) 0 ∧ (∀ o, ¬ Parts.Lends State.reset o) := by
  unfold Parts.Lends; decide +kernel
/-- In SURVEY with the own state STORM, its calm-down timer running since uptime 0, at 60,000 ms. -/
def easing : State := atMs 60000 (State.reset.putWind 0
  { Wind.cleared with own := .storm, effective := .storm, calmDown := some (.storm, 0) })
theorem test_witness_ProfileMovesTimers : easing.Ready ∧ easing.geo.mode = .survey ∧
    profileInRange { SiteProfile.default with stormResume := 1 } = true ∧
    (easing.windOf 0).calmDown = some (.storm, 0) ∧ 0 + 1 * 60000 ≤ easing.now ∧ easing.now < 0 + 10 * 60000 := by
  unfold State.Ready; decide +kernel
/-- A LOAD_PROFILE that shortens a running calm-down timer expires it; the storm-after-hold timer starts in HOLD (R113,
R114). -/
theorem test_profile_expires_timer :
    after (exec (.loadProfile 0 { SiteProfile.default with stormResume := 1 }) easing) (fun t =>
      ((t.windOf 0).own, (t.windOf 0).calmDown, (t.windOf 0).stormAfterHold)) =
        some (.hold, some (.hold, 60000), some 60000) ∧
    after (exec (.loadProfile 0 { SiteProfile.default with stormResume := 2 }) easing) (fun t => (t.windOf 0).own) =
      some .storm := by decide +kernel
/-- The bounds of R1 and R9: the record of the tests is in range, a kind of 2 and a prescaler of 240 are not. -/
theorem test_witness_RangesAreJudged : ¬ Parts.CraneInRange { record.toCraneDims with kind := 2 } ∧
    ¬ Parts.ProfileInRange { SiteProfile.default with prescaler := 240 } ∧ Parts.ProfileInRange SiteProfile.default := by
  refine ⟨?_, ?_, ?_⟩
  · rintro ⟨h | h, _⟩ <;> cases h
  · unfold Parts.ProfileInRange; decide
  · unfold Parts.ProfileInRange; decide
/-- Crane 0 IN_SERVICE in calm wind at minute 100, its channel IDLE, with OPERATOR on it or not. -/
def gateOpen (operator : Bool) : State :=
  ((craneIs .inService (atMinute 100 bookable)).putWind 0 { Wind.cleared with gust := some 199 }).putChannel 0
    { Channel.cleared with reasons := ⟨false, false, operator⟩ }
theorem test_witness_ReadyBookIsGated (o : Bool) : (gateOpen o).Ready ∧ bookingOf? liftFields = some (carried .normal) ∧
    (gateOpen o).booking? 1 = none ∧ (gateOpen o).clock.minute = some 100 ∧
    (gateOpen o).refuseBooking? (carried .normal) 100 = none ∧ (carried .normal).start ≤ 100 ∧ (gateOpen o).NoneReady 0 ∧
    (gateOpen o).geo.mode = .operate ∧ ((gateOpen o).crane 0).state = .inService ∧ (gateOpen o).effective 0 = .calm ∧
    ((gateOpen o).windOf 0).gust = some 199 ∧ 199 < (carried .normal).windLimit.getD (gateOpen o).profile.holdGust ∧
    ((gateOpen o).channel 0).booking = none ∧ ((gateOpen o).channel 0).reasons.operator = o ∧
    (atMinute 100 bookable).refuseBooking? (carried .normal) 100 = none ∧
    ((atMinute 100 bookable).crane 0).state ≠ .inService := by
  unfold State.Ready State.NoneReady
  revert o
  decide +kernel
/-- Booked within its window, it starts and runs to its END at once, or stands at step 0 while OPERATOR suspends it (R128,
R131, R147). -/
theorem test_booked_in_window_starts :
    after (exec (.book 0 liftFields) (gateOpen false)) (fun t => (t.booking? 1).map (·.state)) = some (some .done) ∧
    after (exec (.book 0 liftFields) (gateOpen true)) (fun t =>
      ((t.channel 0).booking, (t.channel 0).step, (t.booking? 1).map (·.state))) = some (some 1, 0, some .running) ∧
    after (exec (.book 0 liftFields) (atMinute 100 bookable)) (fun t => (t.booking? 1).map (·.state)) =
      some (some .ready) := by decide +kernel
/-- The channel of a STANDING claim that a STORM grant displaces is told CLAIM_LOST with cause STORM (R91, R157). -/
theorem test_storm_grant_tells_loss :
    ((stormGrant 1 0 (heldZone .standing oper)).channel 0).losses = [⟨1, 0, .storm, 0⟩] := by decide +kernel
/-- Zones 0 and 1 held by the STANDING claim of booking 1, and two FORCE_RELEASEs waiting at a ready port. -/
def forcedTwice : State :=
  let r : PoolRecord := {
    stamp := 5, id := 0, crane := 0, kind := .standing, priority := 0, booking := some 1
    zones := [⟨0, .granted, none⟩, ⟨1, .granted, none⟩], dwell := ⟨0, false⟩ }
  let held : ZoneRecord := { ZoneRecord.free with holding := .held 0 (.pool 5) }
  let s := ((oper.putPool [r]).putZone 0 held).putZone 1 held
  { s with port := { s.port with queue := [⟨1, .typed (.forceRelease 1)⟩, ⟨2, .typed (.forceRelease 0)⟩] } }
/-- Two requests taken within one command are two events: their losses are kept apart, each with its zone (R157). -/
theorem test_losses_of_two_requests :
    ((pump 2 forcedTwice).channel 0).losses.map (fun x => (x.zone, x.cause)) = [(1, .forced), (0, .forced)] := by
  decide +kernel
/-- A zone that a storm record keeps with the conversion-pending mark still makes the crane behind it storm-blocked (R90). -/
theorem test_marked_zone_blocks : (((stormAhead (.held 1 (.storm 1))).putStorm 1 ⟨9, [⟨0, .granted, some 0⟩]⟩).stormBlocked 0) =
    true := by decide +kernel
theorem test_interrupted_is_read : (returning.readChannel 0).interrupted = some (1, 0, .holding) ∧
    ((neighbours.readCrane 0).map fun k => (k.link.ackCount, k.link.sinceAccepted)) = some (0, some 0) := by decide +kernel
/-- Survey entry places a link-made frame of mode SURVEY on each used link (R33). -/
theorem test_survey_entry_places_frame :
    after (exec (.enterSurvey 0) (heard .inService oper)) (fun t => ((t.link 0).inForce, (t.crane 0).state)) =
      some (some ⟨false, .survey⟩, .joining) := by decide +kernel
/-- Crane 2's STANDING claim 6 waits for zones 0 and 1, and crane 3's TRANSIT claim 7 behind it for zone 0, which is FREE; zone
1 has a holding, and zone 0 a reservation. -/
def pair (h : Holding) (x : Option Nat) : State :=
  ((oper.putPool [{ waiting 6 2 .standing 0 with zones := [⟨0, .waiting, none⟩, ⟨1, .waiting, none⟩] },
      waiting 7 3 .transit 0]).putZone 0 { ZoneRecord.free with waiting := [.pool 6, .pool 7], reservedFor := x }).putZone 1
    { ZoneRecord.free with holding := h, waiting := [.pool 6] }
theorem test_witness_CompoundIsGranted : (pair .free (some 6)).waitingZones (.pool 6) = [0, 1] ∧
    (∃ r, (pair .free (some 6)).poolRec? 6 = some r ∧ r.kind = .standing ∧ r.crane = 2) ∧
    (∀ k ∈ [(0 : ZoneId), 1], Parts.PassesIn (pair .free (some 6)) 6 2 k) ∧
    (∀ x ∈ ((pair .free (some 6)).zone 0).waiting, x ≠ .pool 6 → x = .pool 7) ∧
    (pair .free (some 6)).poolRec? 7 = some (waiting 7 3 .transit 0) := by
  refine ⟨by decide +kernel, ⟨_, rfl, rfl, rfl⟩, ?_⟩
  unfold Parts.PassesIn
  decide +kernel
/-- A claim for two zones takes both or none: with one of them held, the other stays FREE and is reserved for it (R88). -/
theorem test_all_or_nothing : ∀ t u, t = settleZones (pair .free (some 6)) [0, 1] (pair .free (some 6)) →
    u = settleZones (pair (.held 1 (.pool 5)) none) [0] (pair (.held 1 (.pool 5)) none) →
    (t.zone 0).holding = .held 2 (.pool 6) ∧ (t.zone 1).holding = .held 2 (.pool 6) ∧ (t.zone 0).waiting = [.pool 7] ∧
    (t.zone 0).reservedFor = none ∧ (u.zone 0).holding = .free ∧ (u.zone 0).waiting = [.pool 6, .pool 7] ∧
    (u.zone 0).reservedFor = some 6 ∧ u.port.reports = [.zone 0] := by
  rintro _ _ rfl rfl
  decide +kernel
/-- Zone 1 is held in these states, so claim 6 fails there; in zone 0 it passes, or another crane stands in it, or a claim of
higher key, a closure or nobody is the candidate. -/
theorem test_witness_ReservationFollows : ∀ s, s = pair (.held 1 (.pool 5)) none →
    s.candidate? 0 = some (.pool 6) ∧ (1 : ZoneId) ∈ s.waitingZones (.pool 6) ∧ ¬ Parts.PassesIn s 6 2 1 ∧
    Parts.PassesIn s 6 2 0 ∧ (∃ r, s.poolRec? 6 = some r ∧ r.kind = .standing ∧ r.crane = 2) ∧
    ¬ Parts.PassesIn (occupying s) 6 2 0 ∧ (occupying s).candidate? 0 = some (.pool 6) ∧ s.candidate? 2 = none ∧
    (s.zone 1).holding ≠ .free ∧ (s.zone 1).waiting = [.pool 6] ∧
    (s.putZone 0 { ZoneRecord.free with waiting := [.closure 0, .pool 7], closure := some 9, reservedFor := some 6 }).candidate? 0 =
      some (.closure 0) ∧ (∀ o, o ≠ (2 : Slot) → (0 : ZoneId) ∉ (s.engine o).occupancy) ∧ s.arb.pool.length < 96 := by
  rintro _ rfl
  unfold Parts.PassesIn
  refine ⟨by decide +kernel, by decide +kernel, by decide +kernel, by decide +kernel, ⟨_, rfl, rfl, rfl⟩, ?_⟩
  decide +kernel
/-- Crane 2's link is STALE while its claim waits alone for zone 0, reserved for it. -/
def staleClaimant : State :=
  ((oper.putPool [waiting 6 2 .standing 0]).putZone 0 { ZoneRecord.free with waiting := [.pool 6], reservedFor := some 6 }).putLink 2
    { Link.unused with state := .stale }
theorem test_witness_StaleEndsReservation : staleClaimant.poolRec? 6 = some (waiting 6 2 .standing 0) ∧
    (staleClaimant.link 2).state = .stale ∧ (∀ k, k ≠ 0 → staleClaimant.entryOf? 2 k = none) ∧
    (staleClaimant.zone 0).waiting = [.pool 6] ∧ ((arbiterStale 2 staleClaimant).zone 0).reservedFor = none := by decide +kernel
/-- STALE taken before an expiry that is due leaves the dwell short of 3,000 ms, and the zone held (R96). -/
theorem test_witness_StaleStopsDwells : (heldZone .transit oper).NoWaiting ∧
    (arbiterStale 0 (heldZone .transit oper)).arb.pool.map (·.dwell) = [⟨2999, false⟩] ∧
    ((arbiterStale 0 (heldZone .transit oper)).zone 0).holding = .held 0 (.pool 5) := by
  unfold State.NoWaiting
  decide +kernel
/-- Crane 0 in an operating state, reason FAULT on its channel or not. -/
def marking (st : OpState) (fault : Bool) : State :=
  (craneIs st oper).putChannel 0 { Channel.cleared with reasons := { Reasons.empty with fault := fault } }
/-- Crane 0 in FAULT(E_STOP). -/
def stopped : State :=
  (marking .fault true).putCrane 0 { CraneStatus.fresh .fault with fault := some ⟨.eStop, false, false⟩ }
theorem test_witness_CraneIsMarkedLast : ∀ s ∈ [marking .joining false, marking .lockout true, stopped],
    (s.channel 0).booking = none ∧ (s.engine 0).recovery = false ∧ s.NoWaiting ∧ s.arb.pool = [] ∧ (s.storm 0).zones = [] ∧
    s.bookings = [] ∧ s.port.masks = [] ∧ s.port.reports = [] ∧ (s.channel 0).idled = s.channel 0 := by
  unfold State.NoWaiting
  decide +kernel
/-- The keys of a first fault, a clear, a lockout and its end, in the order of their steps (R167, R169, R173, R176). -/
theorem test_crane_key_comes_last : (raise 0 .eStop none (marking .joining false)).port.reports = [.channel 0, .crane 0] ∧
    (clearTheFault 0 .auto .computation stopped).port.reports = [.channel 0, .crane 0] ∧
    (raise 0 .overload none stopped).port.reports = [.crane 0] ∧
    (leaveLockout 0 (marking .lockout true)).port.reports = [.channel 0, .crane 0] := by decide +kernel
theorem test_witness_SpansCoverTravel : 0 < record.slewDecel ∧ 0 < record.radialDecel ∧
    record.minRadius ≤ still.radius ∧ still.radius ≤ record.jibLength ∧ (∀ i, i < 8 → record.edge i < record.edge (i + 1)) ∧
    (record.kind = .flat ∨ record.kind = .luffing) := by decide +kernel
/-- A slot whose chart ends at band 3, and whose hook cells of band 1 are FORBIDDEN. -/
def capped : CraneSlot :=
  { walled 1 with
    hook := Vector.replicate 128 (some (Vector.ofFn fun b => if b = 1 then .forbidden else .free))
    chart := some #v[9, 9, 9, 9, 0, 0, 0, 0] }
theorem test_witness_RadialWalksEnd : ∀ w, w = walks record capped strict (envelope record 0 still) { still with load := 5 } →
    record.band still.radius = 2 ∧ Parts.BlocksOut record capped strict (envelope record 0 still) { still with load := 5 } 4 ∧
    ¬ Parts.BlocksOut record capped strict (envelope record 0 still) { still with load := 5 } 3 ∧
    Parts.BlocksIn capped strict (envelope record 0 still) 1 ∧ ¬ Parts.BlocksIn (walled 1) strict (envelope record 0 still) 1 ∧
    w.out = some { walk := ⟨40000, 20000⟩, cells := [], chart := true } ∧ outwardLimit record w.out = 39999 ∧
    w.inw.map (·.walk) = some ⟨20000, 0⟩ ∧ w.inDecision = .stop ∧ w.cwDecision ≠ .stop := by
  rintro _ rfl
  unfold Parts.BlocksOut Parts.BlocksIn
  decide +kernel
theorem test_witness_TransitAssertions :
    Parts.Asserts (some { walk := ⟨512, 7⟩, cells := [.shared 3, .shared 3], chart := false }) 7 3 ∧
    ¬ Parts.Asserts (some { walk := ⟨512, 8⟩, cells := [.shared 3], chart := false }) 7 3 ∧
    ¬ Parts.Asserts (some { walk := ⟨512, 7⟩, cells := [.shared 3, .shared 4], chart := false }) 7 3 := by
  refine ⟨⟨_, rfl, by decide⟩, ?_, ?_⟩ <;> rintro ⟨_, ⟨⟩, h⟩ <;> exact absurd h (by decide)
/-- A luffing crane, and a slot whose jib cells of band 4 are FORBIDDEN. -/
def luffer : CraneRecord := { record with kind := .luffing, tipOverhang := some 4000 }
def tipWall : CraneSlot :=
  { walled 0 with jib := Vector.replicate 128 (some (Vector.ofFn fun b => if b = 4 then .forbidden else .free)) }
/-- Case E of chapter 4, a pose at rest: structure reach 34,500, tip in band 4, and band 4's jib cell stops the outward walk at
edge 4. -/
theorem test_witness_LuffingWalks : luffer.kind = .luffing ∧ (∀ i, i < 8 → luffer.edge i < luffer.edge (i + 1)) ∧
    (envelope luffer 0 { still with radius := 30000 }).reach = 34500 ∧
    (envelope luffer 0 { still with radius := 30000 }).tip = some 4 ∧
    Parts.BlocksOut luffer tipWall strict (envelope luffer 0 { still with radius := 30000 }) { still with radius := 30000 } 4 ∧
    Parts.BlockedOutBy luffer tipWall strict (envelope luffer 0 { still with radius := 30000 }) 4 .forbidden ∧
    ((walks luffer tipWall strict (envelope luffer 0 { still with radius := 30000 }) { still with radius := 30000 }).out.map
      fun x => (x.walk.boundary, x.cells.head?, x.chart)) = some (40000, some .forbidden, false) := by
  unfold Parts.BlocksOut Parts.BlockedOutBy
  decide +kernel
/-- Crane 0 in service in a sector of FREE cells between FORBIDDEN ones. -/
def atWork : State :=
  (heard .inService oper).putSlot 0
    { walled 0 with
      jib := Vector.ofFn fun k => some (Vector.replicate 8 (if k = 0 then .free else .forbidden))
      chart := some (Vector.replicate 8 9) }
/-- Crane 0's link with a line that is busy or idle. -/
def lineOf (tx : Option CabOutbound) (s : State) : State := s.putLink 0 { s.link 0 with tx := tx }
/-- A computation on an idle line and on a busy one: the frame has the next generation, and is begun or waits in the slot. -/
theorem test_witness_ComputationUsesWalks : ∀ s, s = lineOf none atWork →
    ∀ b, b = lineOf (some (.notice (.coded 1 false 2 3))) atWork →
    (s.engine 0).recovery = false ∧ (s.link 0).tx = none ∧ s.power.lowFor = none ∧ (s.crane 0).fault = none ∧
    (b.link 0).tx ≠ none ∧ .crane ∉ s.port.masks ∧
    (((compute 0 record still s).link 0).tx.isSome ∧ ((compute 0 record still s).link 0).slot = none) ∧
    (((compute 0 record still b).link 0).slot.map fun f => (f.generation, f.frame.mode)) =
      some (((b.link 0).generation + 1) % 256, .normal) := by
  rintro _ rfl _ rfl
  decide +kernel
/-- Crane 0 recovers in LOCKOUT over a jib cell that is FORBIDDEN to it: the check finds the cell, recovery goes on, and the
frame of mode LOCKOUT has creep caps (R64, R75). -/
def recoveringInLockout : State :=
  ((heard .lockout oper).putSlot 0 { walled 0 with record := some record }).putEngine 0 { Engine.cleared with recovery := true }
theorem test_computation_with_recovery : (recoveringInLockout.engine 0).recovery = true ∧
    ((compute 0 record still recoveringInLockout).engine 0).recovery = true ∧
    ((compute 0 record still recoveringInLockout).crane 0).check = some (.cell ⟨.jib, 0, 0⟩) ∧
    (((compute 0 record still recoveringInLockout).engine 0).record.map fun k => (k.intrusion, k.frame.mode, k.frame.hoist)) =
      some (none, .lockout, .lowerOnly) := by decide +kernel
/-- A limit frame and notices within their fields' widths. -/
def limitFrame : StampedFrame := ⟨255, { linkMadeFrame .operate record with cwLimit := some 65535, outLimit := 39999, cwCap := 100 }⟩
theorem test_witness_CabBytes : limitFrame.generation < 256 ∧ limitFrame.frame.cwLimit = some 65535 ∧
    limitFrame.frame.ccwLimit = none ∧ limitFrame.frame.cwCap < 256 ∧ limitFrame.frame.outLimit < 4294967296 ∧
    limitFrameBytes limitFrame = [9, 1, 255, 1, 255, 255, 0, 0, 100, 0, 0, 0, 0x9C, 0x3F, 0, 0, 9, 0xC4, 0, 0, 1, 0] ∧
    (CabOutbound.notice (.coded 7 true 1 0xA5)).lineBytes.take 11 = [0xA5, 8, 10, 1, 1, 7, 0, 1, 0, 0xA6, 0x85] := by
  decide +kernel
/-- Crane 2 waits for zone 0 by a STANDING claim, crane 3 by a TRANSIT claim, and crane 0 not at all. -/
theorem test_witness_RequestsKeepOneEntry : (∀ k, Parts.OneEntry (crowded oper) k) ∧ (crowded oper).pendingZones = [] ∧
    (crowded oper).entryOf? 2 0 = some (.pool 6) ∧ (crowded oper).poolKind? 6 = some .standing ∧
    (crowded oper).entryOf? 3 0 = some (.pool 7) ∧ (crowded oper).poolKind? 7 = some .transit ∧
    (crowded oper).claimZones (.pool 6) = [⟨0, .waiting, none⟩] ∧ (crowded oper).claimZones (.pool 7) = [⟨0, .waiting, none⟩] ∧
    (crowded oper).entryOf? 0 0 = none ∧ (∀ c ∈ [(0 : Slot), 2, 3], (crowded oper).holds c 0 = false) ∧
    (crowded oper).holds 1 0 = true ∧ (crowded oper).poolRec? (crowded oper).arb.stamp = none ∧
    (∀ k, .pool (crowded oper).arb.stamp ∉ ((crowded oper).zone k).waiting) ∧
    (takePool 3 .standing 0 (some 1) [⟨0, .waiting, none⟩] ⟨0, false⟩ (crowded oper)).poolRec? 9 ≠ none ∧
    ((stormWaits oper).entryOf? 0 0 = some (.storm 0)) := by
  unfold Parts.OneEntry; decide +kernel
/-- A STORM request takes the place of a STANDING entry and leaves one entry of its crane (R84, R85). -/
theorem test_storm_request_takes_place :
    ((requestStorm 2 0 ((crowded oper).putStorm 2 ⟨8, [⟨0, .waiting, none⟩]⟩)).zone 0).waiting = [.storm 2, .pool 7] := by
  decide +kernel
/-- An URGENT booking running over the one it interrupted meets the agreement, and so does the state after reset. -/
theorem test_witness_BookingsAgree : (craneIs .inService returning).BookingsAgree ∧ State.reset.BookingsAgree where
  left := {
    numbers := by unfold State.NumbersUnique; decide +kernel
    current := fun c n h => by
      have on : ∀ c, ((craneIs .inService returning).channel c).booking = if c = 0 then some 2 else none := by decide +kernel
      rw [on] at h
      split at h <;> cases h
      subst c; exact ⟨other .running .urgent (some 1), by decide +kernel⟩
    running := by decide +kernel
    interrupted := by decide +kernel
    returns := by
      rintro u hu n h
      rcases List.mem_cons.mp hu with rfl | hu
      · cases h
      · cases List.mem_singleton.mp hu; cases h; decide +kernel
    heldBack := by decide +kernel
    survey := by decide +kernel }
  right := {
    numbers := by unfold State.NumbersUnique; decide +kernel
    current := fun c n h => by
      have off : ∀ c, (State.reset.channel c).booking = none := by decide +kernel
      rw [off] at h; cases h
    running := by decide
    interrupted := by decide
    returns := fun u hu => absurd hu (by simp [State.reset])
    heldBack := fun b hb => absurd hb (by simp [State.reset])
    survey := fun _ b hb => absurd hb (by simp [State.reset]) }
theorem test_witness_ArbiterBounded : (stormHeld .live).ArbiterBounded := by
  refine ⟨?_, ?_, ?_⟩ <;> decide +kernel
/-- Steps at the ends of their ranges, and one past them (section 8.1). -/
theorem test_witness_StepInRange : Parts.StepInRange (.claim [0, 1, 2, 47] 3600 .fail) ∧
    Parts.StepInRange (.await (.atCell (.cell 127 7) 8) 1 .fail) ∧ Parts.StepInRange (.check (.loadBelow 65000) 99) ∧
    Parts.StepInRange (.notify 255 65535 65535) ∧ ¬ Parts.StepInRange (.claim [3, 3] 1 .fail) ∧
    ¬ Parts.StepInRange (.claim [48] 1 .fail) ∧ ¬ Parts.StepInRange (.await (.atCell .pick 9) 1 .fail) ∧
    ¬ Parts.StepInRange (.await (.hookAbove 250001) 1 .fail) ∧ ¬ Parts.StepInRange (.ack 7 3601 .fail) ∧
    ¬ Parts.StepInRange (.hold 4096) ∧ ¬ Parts.StepInRange (.hold 0) ∧ ¬ Parts.StepInRange (.check (.holding 48) 0) ∧
    ¬ Parts.StepInRange (.release (.named [])) := by
  simp [Parts.StepInRange]
/-- The plans fail the five checks in turn, each at its lowest failing step, a check before it being passed by every step. -/
theorem test_witness_FailureIsRecorded : Parts.StepFails oper [.endStep, .hold 0, .check .windowOpen 9] .range 1 ∧
    Parts.StepFails oper [.endStep, .hold 1, .check .windowOpen 3] .target 2 ∧
    [PlanStep.endStep, .hold 1].getLast? ≠ some .endStep ∧
    Parts.StepFails oper [.claim [5] 1 .fail, .check .windowOpen 1, .endStep] .cycle 1 ∧
    Parts.StepFails oper [.hold 1, .claim [5] 1 .fail, .endStep] .zone 1 := by
  refine ⟨⟨_, rfl, .inl ⟨rfl, by simp [Parts.StepInRange]⟩⟩,
    ⟨_, rfl, .inr (.inl ⟨rfl, 3, .inr (.inr (.inr ⟨_, rfl⟩)), by decide⟩)⟩, by decide,
    ⟨_, rfl, .inr (.inr (.inl ⟨rfl, .single ⟨?_, ?_, ?_⟩⟩))⟩,
    ⟨_, rfl, .inr (.inr (.inr ⟨rfl, rfl, 5, .inl ⟨_, _, _, rfl, by decide⟩, by decide +kernel⟩))⟩⟩
  · exact ⟨by decide, _, rfl, .inr (.inl ⟨_, rfl⟩)⟩
  all_goals
    rintro _ ⟨⟩
    simp [Parts.Waits]
theorem test_first_failure : oper.verify [.endStep, .hold 0, .check .windowOpen 9] = some ⟨.range, 1⟩ ∧
    oper.verify [.endStep, .hold 1, .check .windowOpen 3] = some ⟨.target, 2⟩ ∧
    oper.verify [.endStep, .hold 1] = some ⟨.noEnd, 1⟩ ∧
    oper.verify [.claim [5] 1 .fail, .check .windowOpen 1, .endStep] = some ⟨.cycle, 1⟩ ∧
    oper.verify [.hold 1, .claim [5] 1 .fail, .endStep] = some ⟨.zone, 1⟩ ∧
    State.reset.verify [.hold 1, .claim [5] 1 .fail, .endStep] = none := by decide +kernel

/-- The operands of BOOK at the ends of their ranges, and one past them (R125). -/
theorem test_witness_BookingOperandsAreJudged :
    Parts.BookingInRange { liftFields with
      number := 65535, crane := 11, kind := 3, start := 16777215, finish := 16777215, priority := 7, mass := 65000
      windLimit := some 600, pick := ⟨127, 7⟩, plan := 31, repeatOverride := some 4095 } ∧
    ¬ Parts.BookingInRange { liftFields with number := 65536 } ∧ ¬ Parts.BookingInRange { liftFields with windLimit := some 601 } ∧
    ¬ Parts.BookingInRange { liftFields with set := ⟨128, 0⟩ } ∧ ¬ Parts.BookingInRange { liftFields with repeatOverride := some 0 } ∧
    bookingOf? { liftFields with windLimit := some 601 } = none ∧ bookingOf? { liftFields with plan := 32 } = none ∧
    bookingOf? { liftFields with mass := 65000, priority := 7 } = some { carried .normal with mass := 65000, priority := 7 } ∧
    oper.Ready := by
  refine ⟨?_, ?_, ?_, ?_, ?_, by decide +kernel, by decide +kernel, by decide +kernel, test_oper_is_ready⟩ <;>
    simp [Parts.BookingInRange, liftFields]

/-- Crane 0's dwell on zone 0 after a hand-over: cleared by occupancy or by reach, and running on otherwise (R96). -/
theorem test_witness_HandOverJudgesDwells : ∀ s, s = linked .live (heldZone .transit oper) → s.NoWaiting ∧
    (s.link 0).state = .live ∧ (s.crane 0).state ≠ .inService ∧ (∀ z ∈ [(0 : ZoneId)], (s.zone z).holding ≠ .free) ∧
    (handOver 0 true [0] [] s).arb.pool.map (·.dwell) = [⟨0, false⟩] ∧
    (handOver 0 false [] [0] s).arb.pool.map (·.dwell) = [⟨0, false⟩] ∧
    (handOver 0 false [1] [] s).arb.pool.map (·.dwell) = [⟨3000, true⟩] := by
  rintro _ rfl
  unfold State.NoWaiting
  decide +kernel
/-- Crane 0's TRANSIT claim 7 waits for zone 0, which is FREE, the crane reaching it or not. -/
def asserting (reach : List ZoneId) : State :=
  ((linked .live (oper.putPool [waiting 7 0 .transit 0])).putZone 0 { ZoneRecord.free with waiting := [.pool 7] }).putEngine 0
    { Engine.cleared with reach := reach, transit := [0] }
theorem test_witness_TransitIsGranted : ∀ r ∈ [([] : List ZoneId), [0]],
    (asserting r).poolRec? 7 = some (waiting 7 0 .transit 0) ∧ Parts.PassesIn (asserting r) 7 0 0 ∧
    (∀ x ∈ ((asserting r).zone 0).waiting, x = .pool 7) ∧ ((asserting r).link 0).state = .live ∧
    ((asserting r).engine 0).handOverDue = false ∧
    ((settleZones (asserting r) [0] (asserting r)).zone 0).holding = .held 0 (.pool 7) ∧
    (settleZones (asserting r) [0] (asserting r)).arb.pool.map (·.dwell) = [⟨0, decide (r = [])⟩] := by
  unfold Parts.PassesIn
  decide +kernel
/-- Cranes 0 and 3 before a transit set: 0 with a LIVE link and no entry, 3 with the entry 7 it asked for. -/
def asked : State := linked .live ((crowded oper).putEngine 3 { Engine.cleared with transit := [0] })
theorem test_witness_TransitRequestsFollow : (0 : ZoneId) ∈ (asked.engine 3).transit ∧ asked.pendingZones = [] ∧
    (∀ q ∈ asked.arb.pool, q.stamp < asked.arb.stamp) ∧ asked.entryOf? 3 0 = some (.pool 7) ∧
    asked.poolRec? 7 = some (waiting 7 3 .transit 0) ∧ (asked.engine 0).transit = [] ∧ asked.entryOf? 0 0 = none ∧
    asked.poolRec? asked.arb.stamp = none ∧ (asked.zone 0).holding = .held 1 (.pool 5) ∧
    (asked.zone 0).waiting = [.pool 6, .pool 7] ∧ asked.poolRec? 6 = some (waiting 6 2 .standing 0) ∧
    (asked.zone 1).holding = .free ∧ (asked.zone 1).waiting = [] ∧ (∀ o, o ≠ (0 : Slot) → (1 : ZoneId) ∉ (asked.engine o).occupancy) ∧
    (asked.link 0).state = .live ∧ (asked.engine 0).handOverDue = false ∧ asked.holds 1 0 = true ∧
    96 ≤ (asked.putPool (List.replicate 96 (waiting 8 1 .transit 0))).arb.pool.length := by decide +kernel
/-- A zone asked for no longer is withdrawn; one held by another is waited for at the tail, and a FREE one is held (R97). -/
theorem test_transit_requests : ((transitHandOver 3 [] asked).poolRec? 7).isNone = true ∧
    ((transitHandOver 3 [] asked).zone 0).waiting = [.pool 6] ∧
    ((transitHandOver 3 [0] asked).zone 0).waiting = [.pool 6, .pool 7] ∧
    ((transitHandOver 0 [0] asked).zone 0).waiting = [.pool 6, .pool 7, .pool 9] ∧
    ((transitHandOver 0 [1] asked).zone 1).holding = .held 0 (.pool 9) := by decide +kernel

/-- Crane 0, heard, runs booking 1 with some wind limit in a HOLD step, WIND on its channel or not, with a gust. -/
def blown (wind : Bool) (limit : Option Nat) (gust : Nat) : State :=
  { ((heard .inService (running [.hold 5, .endStep] .holding)).putChannel 0
      { Channel.cleared with booking := some 1, phase := .holding, hold := some 5, reasons := ⟨wind, false, false⟩ }).putWind 0
      { Wind.cleared with gust := some gust } with
    bookings := [{ lift with windLimit := limit }] }
/-- The hold gust of 200 at its boundaries: 200 calls for WIND and 199 does not; 179 is calm and 180 is not (R120, R121). -/
theorem test_witness_ChannelIsJudged : (blown false none 200).current? 0 = some lift ∧
    Parts.CallsForWind (blown false none 200) 0 200 ∧ ¬ Parts.CallsForWind (blown false none 199) 0 200 ∧
    Parts.IsCalm (blown true none 179) 0 200 ∧ ¬ Parts.IsCalm (blown true none 180) 0 200 ∧
    ((blown false none 200).channel 0).reasons.wind = false ∧ ((blown true none 179).channel 0).reasons.wind = true ∧
    (oper.current? 0) = none ∧ ((blown false none 200).channel 0).phase ≠ .waitingClaim := by
  have free : (blown false none 199).effective 0 = .calm ∧ ((blown false none 199).windOf 0).gust = some 199 := by
    decide +kernel
  refine ⟨by decide +kernel, .inr (.inr ⟨_, rfl, by decide⟩), ?_,
    ⟨.inl (by decide +kernel), by decide +kernel, _, rfl, by decide +kernel⟩, ?_, by decide +kernel⟩
  · rintro (h | h | ⟨g, h, l⟩)
    · exact absurd h (by rw [free.1]; decide)
    · exact absurd h (by rw [free.1]; decide)
    · rw [free.2] at h
      cases h
      exact absurd l (by decide)
  · rintro ⟨_, _, g, h, l⟩
    cases (show some 180 = some g from h)
    exact absurd l (by decide +kernel)
theorem test_channel_is_judged : ((judgeChannelWind 0 (blown false none 200)).channel 0).reasons.wind = true ∧
    judgeChannelWind 0 (blown false none 199) = blown false none 199 ∧
    ((judgeChannelWind 0 (blown true none 179)).channel 0).calmFrom = some 0 ∧
    ((judgeChannelWind 0 (blown true none 180)).channel 0).calmFrom = none ∧
    ((judgeChannelWind 0 (blown true (some 210) 189)).channel 0).calmFrom = some 0 := by decide +kernel
theorem test_witness_NewBookingIsJudged : (blown false none 200).booking? lift.number = some lift ∧
    200 = lift.windLimit.getD (blown false none 200).profile.holdGust ∧
    ((blown false none 200).channel 0).interruptedLoss = none ∧
    ((startIdle 0 lift (blown false none 200)).channel 0).reasons.wind = true ∧
    ((startIdle 0 lift (blown false none 199)).channel 0).reasons.wind = false ∧
    ((startOver 0 1 none (atMs 9 (blown true none 179))).channel 0).calmFrom = some 9 := by decide +kernel
theorem test_witness_PoseJudgesChannel : (blown true none 0).power.on = true ∧ (blown true none 0).NoTake ∧
    ((blown true none 0).slotOf 0).excluded = false ∧ (blown true none 0).record? 0 = some record ∧
    Parts.Fresh ((blown true none 0).link 0) (stillFrame 8) ∧
    judgePose record (blown true none 0).now (stillFrame 8) = .valid { still with sequence := 8 } ∧
    (blown true none 0).current? 0 = some lift ∧ (blown true none 0).NoneReady 0 := by
  refine ⟨rfl, .inl rfl, by decide +kernel, by decide +kernel,
    .inr (.inr ⟨.inl rfl, still, rfl, by decide, by decide, by decide⟩), ?_⟩
  unfold State.NoneReady
  decide +kernel
/-- A pose of gust 200 suspends the channel; one of gust 100 starts the calm timer of a suspended channel whose limit is 121, and
not of one whose limit is 120 (R120, R121). -/
theorem test_pose_judges_channel :
    after (exec (.poseReport 0 { stillFrame 8 with windSample := 200 }) (blown false none 0)) (fun t =>
      ((t.channel 0).reasons.wind, (t.channel 0).hold)) = some (true, some 5) ∧
    after (exec (.poseReport 0 { stillFrame 8 with windSample := 100 }) (atMs 9 (blown true (some 121) 0))) (fun t =>
      ((t.channel 0).reasons.wind, (t.channel 0).calmFrom)) = some (true, some 9) ∧
    after (exec (.poseReport 0 { stillFrame 8 with windSample := 100 }) (atMs 9 (blown true (some 120) 0))) (fun t =>
      ((t.channel 0).reasons.wind, (t.channel 0).calmFrom)) = some (true, none) := by decide +kernel

/-- The clear conditions: a cause in the auto-clear set clears, one outside it and one with a flag is only met. -/
theorem test_witness_MetWithinComputation : (faulted .overload false false).flagStands 0 = false ∧
    FaultCause.overload ∈ (faulted .overload false false).profile.autoClear ∧ FaultCause.eStop ∉ SiteProfile.default.autoClear ∧
    (faulted .overload false true).flagStands 0 = true ∧
    ((judgeChart 0 false (faulted .overload false false)).crane 0).state = .inService ∧
    ((judgeChart 0 false (faulted .overload false true)).crane 0).fault = some ⟨.overload, false, true⟩ ∧
    ((judgeChart 0 true (faulted .overload true false)).crane 0).fault = some ⟨.overload, false, false⟩ ∧
    ((judgePresent 0 false none none (faulted .linkLost false false)).crane 0).state = .inService ∧
    judgePresent 0 false none none (faulted .overload false false) = faulted .overload false false := by decide +kernel
theorem test_witness_UnjoinedReturns : ∀ s, s = (faulted .linkLost false false).putCrane 0
      { (faulted .linkLost false false).crane 0 with fault := some ⟨.linkLost, true, false⟩ } →
    (s.crane 0).state = .fault ∧ ((judgePresent 0 false (some ⟨.jib, 0, 0⟩) none s).crane 0).state = .joining := by
  rintro _ rfl
  decide +kernel
/-- A pose with the stop released: E_STOP is met and waits for CLEAR_FAULT, POSE_INVALID clears, and a met OVERLOAD clears as its
last flag does (R171, R172). -/
theorem test_witness_MetByPose :
    ((craneTakesPose 0 still false (faulted .eStop false false)).crane 0).fault = some ⟨.eStop, false, true⟩ ∧
    ((craneTakesPose 0 still false (faulted .poseInvalid false false)).crane 0).state = .inService ∧
    ((craneTakesPose 0 still true (faulted .overload true true)).crane 0).state = .inService ∧
    ((craneTakesPose 0 still false (faulted .overload true false)).crane 0).state = .fault ∧
    ((craneTakesPose 0 { still with emergencyStop := true } false (faulted .poseInvalid false false)).crane 0).fault =
      some ⟨.poseInvalid, false, true⟩ ∧
    ((faulted .poseInvalid false false).crane 0).faultContext.isSome = true ∧ ((withCrane oper).crane 0).fault = none ∧
    ((craneTakesPose 0 { still with emergencyStop := true } false (faulted .eStop true false)).crane 0).fault =
      some ⟨.eStop, false, false⟩ := by decide +kernel
theorem test_witness_RecoveryByPose : ∀ s, s = (faulted .intrusion true true).putCrane 0
      { (faulted .intrusion true true).crane 0 with check := some .clear } →
    (s.crane 0).fault = some ⟨.intrusion, false, true⟩ ∧
    (s.putCrane 0 (Parts.released (s.crane 0))).flagStands 0 = false ∧
    ((s.putCrane 0 (Parts.released (s.crane 0))).crane 0).check = some .clear ∧
    ((craneTakesPose 0 still true s).crane 0).state = .inService := by
  rintro _ rfl
  decide +kernel
theorem test_witness_ConditionCeases : ∀ s, s = atMs 750 (linked .live (faulted .linkLost true false)) →
    s.power.on = true ∧ s.NoTake ∧ (s.link 0).state = .live ∧ (s.link 0).lastPose = some still ∧
    still.acceptedAt + 750 ≤ s.now ∧ (s.crane 0).fault = some ⟨.linkLost, false, true⟩ ∧
    after (exec (.linkStale 0) s) (fun t => (t.crane 0).fault) = some (some ⟨.linkLost, false, false⟩) := by
  rintro _ rfl
  exact ⟨rfl, .inl rfl, by decide +kernel⟩
theorem test_witness_InvalidAgain : ∀ s, s = once (linked .live (faulted .poseInvalid true false)) →
    (s.slotOf 0).excluded = false ∧ s.record? 0 = some record ∧ (s.link 0).invalidStreak = 1 ∧
    Parts.Fresh (s.link 0) (stillFrame 8) ∧
    judgePose record s.now { stillFrame 8 with load := 65001 } = .invalid .load ∧ (s.crane 0).state = .fault ∧
    after (exec (.poseReport 0 { stillFrame 8 with load := 65001 }) s) (fun t => (t.crane 0).fault) =
      some (some ⟨.poseInvalid, false, false⟩) := by
  rintro _ rfl
  exact ⟨by decide +kernel, by decide +kernel, by decide +kernel,
    .inr (.inr ⟨.inl rfl, still, rfl, by decide, by decide, by decide⟩), by decide +kernel⟩

/-- Crane 0 heard, its sensor in a state with given streaks. -/
def sensing (sensor : SensorState) (missing recovering : Nat) : State := (heard .inService oper).putWind 0
  { Wind.cleared with sensor := sensor, missing := missing, recovering := recovering, ring := [50] }
/-- The fortieth missing sample in a row fails the sensor, and the fourth good one restores it (R108). -/
theorem test_witness_SensorFollows :
    after (exec (.poseReport 0 { stillFrame 8 with flags := 0x04 }) (sensing .ok 38 0)) (fun t =>
      ((t.windOf 0).sensor, (t.windOf 0).missing, (t.windOf 0).ring)) = some (.ok, 39, [50]) ∧
    after (exec (.poseReport 0 { stillFrame 8 with flags := 0x04 }) (sensing .ok 39 0)) (fun t =>
      ((t.windOf 0).sensor, (t.windOf 0).missing, (t.windOf 0).ring)) = some (.failed, 0, []) ∧
    after (exec (.poseReport 0 (stillFrame 8)) (sensing .failed 0 2)) (fun t =>
      ((t.windOf 0).sensor, (t.windOf 0).recovering)) = some (.failed, 3) ∧
    after (exec (.poseReport 0 (stillFrame 8)) (sensing .failed 0 3)) (fun t =>
      ((t.windOf 0).sensor, (t.windOf 0).recovering)) = some (.ok, 0) ∧
    after (exec (.poseReport 0 { stillFrame 8 with flags := 0x08 }) (sensing .failed 0 3)) (fun t =>
      ((t.windOf 0).sensor, (t.windOf 0).recovering)) = some (.failed, 0) := by decide +kernel
/-- Sectors 127 and 7 are 8 apart by way of 0; a load equal to x is ON and not OFF (R151). -/
theorem test_witness_AwaitConditions : Parts.SectorsWithin 8 127 7 ∧ Parts.SectorsWithin 8 7 127 ∧
    sectorsWithin 7 127 7 = false ∧ awaitHolds lift record still (.atCell (.cell 126 2) 2) = true ∧
    awaitHolds lift record still (.atCell (.cell 0 1) 8) = false ∧ awaitHolds lift record still (.loadOn 0) = true ∧
    awaitHolds lift record still (.loadOff 0) = false ∧ awaitHolds lift record still (.hookAbove 1) = false ∧
    awaitHolds { lift with set := ⟨1, 2⟩ } record still (.atCell .set 1) = true :=
  ⟨⟨8, by decide, .inl rfl⟩, ⟨8, by decide, .inr rfl⟩, by decide +kernel⟩
/-- Crane 0 in service at an AWAIT step. -/
def awaiting (cond : AwaitCond) (ph : ChannelPhase) : State :=
  onChannel ph (withPlan [.await cond 5 .fail, .endStep] (withBooking lift atWork))
theorem test_witness_ComputationIsOffered : ∀ s ∈ [awaiting (.loadOn 0) .waitingPose, awaiting (.loadOn 1) .waitingPose],
    s.power.on = true ∧ s.port.queue = [] ∧ (s.slotOf 0).excluded = false ∧ s.record? 0 = some record ∧
    (s.link 0).state = .live ∧ (s.link 0).lastPose = some still ∧
    judgePose record s.now (stillFrame 8) = .valid { still with sequence := 8 } ∧ s.geo.mode = .operate ∧
    (s.crane 0).state = .inService ∧ ((Parts.atStage3 0 { still with sequence := 8 } s).channel 0) = s.channel 0 ∧
    ((compute 0 record { still with sequence := 8 } (Parts.atStage3 0 { still with sequence := 8 } s)).channel 0) = s.channel 0 ∧
    (s.channel 0).state = .active ∧ (s.channel 0).phase = .waitingPose := by decide +kernel
/-- An AWAIT step completes at a pose that meets its condition and waits at one that does not (R151). -/
theorem test_await_is_judged :
    after (exec (.poseReport 0 (stillFrame 8)) (awaiting (.loadOn 0) .waitingPose)) (fun t =>
      ((t.channel 0).step, (t.channel 0).phase)) = some (1, .starting) ∧
    after (exec (.poseReport 0 (stillFrame 8)) (awaiting (.loadOn 1) .waitingPose)) (fun t =>
      ((t.channel 0).step, (t.channel 0).phase)) = some (0, .waitingPose) := by decide +kernel
/-- Crane 0 in service at a CLAIM step of zone 0 that stands ALREADY_WAITING, for a booking. -/
def standing (b : Booking) : State := (hookZone (withPlan [.claim [0] 1 .fail, .endStep] (withBooking b atWork))).putChannel 0
  { Channel.cleared with booking := some 1, phase := .waitingClaim, claim := some .alreadyWaiting }
theorem test_witness_AlreadyWaitingAsksAgain : ∀ s ∈ [standing lift, stormWaits (standing lift)], ∀ u,
    u = compute 0 record { still with sequence := 8 } (Parts.atStage3 0 { still with sequence := 8 } s) →
    (u.channel 0).state = .active ∧ (u.channel 0).claim = some .alreadyWaiting ∧ u.current? 0 = some lift ∧
    u.step? 0 = some (.claim [0] 1 .fail) ∧ u.member 0 0 = true ∧ u.arb.pool = [] ∧ (u.zone 0).holding = .free ∧
    (s = standing lift → u.NoWaiting) ∧ (s ≠ standing lift → u.entryOf? 0 0 = some (.storm 0)) := by
  unfold State.NoWaiting
  simp only [List.mem_cons, List.not_mem_nil, or_false, forall_eq_or_imp, forall_eq]
  decide +kernel
/-- At a computation it holds the zone, stands as before behind its own STORM entry, or fails past its window (R148, R149). -/
theorem test_already_waiting_asks_again :
    after (exec (.poseReport 0 (stillFrame 8)) (standing lift)) (fun t =>
      ((t.channel 0).step, (t.zone 0).holding)) = some (1, .held 0 (.pool 0)) ∧
    after (exec (.poseReport 0 (stillFrame 8)) (stormWaits (standing lift))) (fun t =>
      ((t.channel 0).step, (t.channel 0).claim)) = some (0, some .alreadyWaiting) ∧
    after (exec (.poseReport 0 (stillFrame 8)) (standing { lift with windowEnded := true })) (fun t =>
      ((t.channel 0).booking, (t.booking? 1).map (·.outcome))) = some (none, some (some ⟨.windowEnded, some 0⟩)) := by
  decide +kernel
/-- Bytes that are one bad frame: none, no start byte, a start byte inside or after the escape byte, an escape byte at the end,
and a length that does not fit (R24, log 85). -/
theorem test_bad_cab_frames : ∀ bytes ∈ [([] : List Byte), [0x01], [0xA5, 0x01, 0xA5], [0xA5, 0xA6, 0xA5], [0xA5, 0x01, 0xA6],
    [0xA5, 0x02, 0x0A]], checkCabFrame bytes = none := by decide +kernel
theorem test_witness_invariants : State.reset.port.WellKept ∧ (∀ c, (State.reset.link c).WellKept) ∧
    State.reset.WindWellKept ∧ State.reset.NumbersUnique ∧ State.reset.SurveyIdle ∧
    ∃ t, step State.reset = .next t := by
  unfold SitePort.WellKept Link.WellKept State.WindWellKept State.NumbersUnique State.SurveyIdle
  and_intros
  all_goals first | decide +kernel | exact ⟨_, rfl⟩

end Sys2Proof.Tests
end

section
/-! SUPPORT. What a piece of work of the blocks may change, said by a `Scope`, and that every operation keeps to the scope
of its block. `Work A s t` says that t comes of s by elementary changes that A allows; each statement about what an operation
leaves alone is read off it by choosing A. One lemma per operation, in the order of the model's files. -/

namespace Sys2Proof.Machine

/-! ## Scopes and work -/

/-- What a piece of work may change, besides marking report keys: the arbiter's records, the bookings, and how the record of
an engine, a channel, a link, a wind sensor and a crane may change from one value to another. -/
structure Scope where
  arb : Prop
  bookings : Prop
  engine : Slot → Engine → Engine → Prop
  channel : Slot → Channel → Channel → Prop
  link : Slot → Link → Link → Prop
  wind : Slot → Wind → Wind → Prop
  status : Slot → CraneStatus → CraneStatus → Prop

/-- t comes of s by elementary changes within a scope. -/
inductive Work (A : Scope) (s : State) : State → Prop
  | refl : Work A s s
  | mark {t : State} (k : ReportKey) (h : Work A s t) : Work A s (mark k t)
  | arb {t : State} (a : Arbiter) (ok : A.arb) (h : Work A s t) : Work A s { t with arb := a }
  | bookings {t : State} (l : List Booking) (ok : A.bookings) (h : Work A s t) : Work A s { t with bookings := l }
  | free {t : State} (n : Nat) (ok : A.bookings) (h : Work A s t) : Work A s (freeBooking n t)
  | engine {t : State} (c : Slot) (x : Engine) (ok : A.engine c (t.engine c) x) (h : Work A s t) : Work A s (t.putEngine c x)
  | channel {t : State} (c : Slot) (x : Channel) (ok : A.channel c (t.channel c) x) (h : Work A s t) :
    Work A s (t.putChannel c x)
  | link {t : State} (c : Slot) (x : Link) (ok : A.link c (t.link c) x) (h : Work A s t) : Work A s (t.putLink c x)
  | wind {t : State} (c : Slot) (x : Wind) (ok : A.wind c (t.windOf c) x) (h : Work A s t) : Work A s (t.putWind c x)
  | status {t : State} (c : Slot) (x : CraneStatus) (ok : A.status c (t.crane c) x) (h : Work A s t) :
    Work A s (t.putCrane c x)

section
variable {A : Scope} {s t u : State}

theorem Work.trans (h : Work A s t) (k : Work A t u) : Work A s u := by
  induction k with
  | refl => exact h
  | mark k _ ih => exact .mark k ih
  | arb a ok _ ih => exact .arb a ok ih
  | bookings l ok _ ih => exact .bookings l ok ih
  | free n ok _ ih => exact .free n ok ih
  | engine c x ok _ ih => exact .engine c x ok ih
  | channel c x ok _ ih => exact .channel c x ok ih
  | link c x ok _ ih => exact .link c x ok ih
  | wind c x ok _ ih => exact .wind c x ok ih
  | status c x ok _ ih => exact .status c x ok ih

/-! ### What every piece of work leaves alone -/

theorem Work.quietly (h : Work A s t) : t.pending = s.pending ∧ t.events = s.events ∧ t.power = s.power ∧
    t.clock = s.clock ∧ t.geo = s.geo ∧ t.plans = s.plans ∧ t.wind.declaration = s.wind.declaration ∧
    t.wind.bucketPhase = s.wind.bucketPhase ∧ s.port.Quiet t.port := by
  induction h with
  | refl => exact ⟨rfl, rfl, rfl, rfl, rfl, rfl, rfl, rfl, .refl _⟩
  | mark k _ ih =>
    obtain ⟨h1, h2, h3, h4, h5, h6, h7, h8, h9⟩ := ih
    exact ⟨h1, h2, h3, h4, h5, h6, h7, h8, h9.trans (SitePort.marked_quiet k _)⟩
  | free n _ _ ih =>
    obtain ⟨h1, h2, h3, h4, h5, h6, h7, h8, h9⟩ := ih
    exact ⟨h1, h2, h3, h4, h5, h6, h7, h8, h9.trans (freeBooking_quiet n (Quiet.refl _)).port⟩
  | arb | bookings | engine | channel | link | wind | status => assumption

theorem Work.events (h : Work A s t) : t.events = s.events := h.quietly.2.1
theorem Work.power (h : Work A s t) : t.power = s.power := h.quietly.2.2.1
theorem Work.clock (h : Work A s t) : t.clock = s.clock := h.quietly.2.2.2.1
theorem Work.geo (h : Work A s t) : t.geo = s.geo := h.quietly.2.2.2.2.1
theorem Work.plans (h : Work A s t) : t.plans = s.plans := h.quietly.2.2.2.2.2.1
theorem Work.declaration (h : Work A s t) : t.wind.declaration = s.wind.declaration := h.quietly.2.2.2.2.2.2.1
theorem Work.bucketPhase (h : Work A s t) : t.wind.bucketPhase = s.wind.bucketPhase := h.quietly.2.2.2.2.2.2.2.1
theorem Work.port (h : Work A s t) : s.port.Quiet t.port := h.quietly.2.2.2.2.2.2.2.2
theorem Work.now (h : Work A s t) : t.now = s.now := by unfold State.now; rw [h.clock]
theorem Work.record? (h : Work A s t) (c : Slot) : t.record? c = s.record? c := by
  unfold State.record? State.slotOf; rw [h.geo]

/-! ### What a scope says of the state that results -/

theorem Work.engine_rel (R : Engine → Engine → Prop) (refl : ∀ x, R x x) (trans : ∀ x y z, R x y → R y z → R x z) (c : Slot)
    (hA : ∀ x y, A.engine c x y → R x y) (h : Work A s t) : R (s.engine c) (t.engine c) := by
  induction h with
  | refl => exact refl _
  | engine d x ok _ ih =>
    rw [State.putEngine_engine]
    split
    · rename_i e; subst e; exact trans _ _ _ ih (hA _ _ ok)
    · exact ih
  | mark | arb | bookings | free | channel | link | wind | status => assumption

theorem Work.channel_rel (R : Channel → Channel → Prop) (refl : ∀ x, R x x) (trans : ∀ x y z, R x y → R y z → R x z)
    (c : Slot) (hA : ∀ x y, A.channel c x y → R x y) (h : Work A s t) : R (s.channel c) (t.channel c) := by
  induction h with
  | refl => exact refl _
  | channel d x ok _ ih =>
    rw [State.putChannel_channel]
    split
    · rename_i e; subst e; exact trans _ _ _ ih (hA _ _ ok)
    · exact ih
  | mark | arb | bookings | free | engine | link | wind | status => assumption

theorem Work.link_rel (R : Link → Link → Prop) (refl : ∀ x, R x x) (trans : ∀ x y z, R x y → R y z → R x z) (c : Slot)
    (hA : ∀ x y, A.link c x y → R x y) (h : Work A s t) : R (s.link c) (t.link c) := by
  induction h with
  | refl => exact refl _
  | link d x ok _ ih =>
    rw [State.putLink_link]
    split
    · rename_i e; subst e; exact trans _ _ _ ih (hA _ _ ok)
    · exact ih
  | mark | arb | bookings | free | engine | channel | wind | status => assumption

theorem Work.wind_rel (R : Wind → Wind → Prop) (refl : ∀ x, R x x) (trans : ∀ x y z, R x y → R y z → R x z) (c : Slot)
    (hA : ∀ x y, A.wind c x y → R x y) (h : Work A s t) : R (s.windOf c) (t.windOf c) := by
  induction h with
  | refl => exact refl _
  | wind d x ok _ ih =>
    rw [State.putWind_windOf]
    split
    · rename_i e; subst e; exact trans _ _ _ ih (hA _ _ ok)
    · exact ih
  | mark | arb | bookings | free | engine | channel | link | status => assumption

theorem Work.status_rel (R : CraneStatus → CraneStatus → Prop) (refl : ∀ x, R x x)
    (trans : ∀ x y z, R x y → R y z → R x z) (c : Slot) (hA : ∀ x y, A.status c x y → R x y) (h : Work A s t) :
    R (s.crane c) (t.crane c) := by
  induction h with
  | refl => exact refl _
  | status d x ok _ ih =>
    rw [State.putCrane_crane]
    split
    · rename_i e; subst e; exact trans _ _ _ ih (hA _ _ ok)
    · exact ih
  | mark | arb | bookings | free | engine | channel | link | wind => assumption

/-- What of a link's record a scope keeps, an operation within it keeps. -/
theorem Work.link_keeps {β : Type} (f : Link → β) (c : Slot) (hA : ∀ x y, A.link c x y → f y = f x) (h : Work A s t) :
    f (t.link c) = f (s.link c) :=
  h.link_rel (fun x y => f y = f x) (fun _ => rfl) (fun _ _ _ p q => q.trans p) c hA

theorem Work.engine_keeps {β : Type} (f : Engine → β) (c : Slot) (hA : ∀ x y, A.engine c x y → f y = f x)
    (h : Work A s t) : f (t.engine c) = f (s.engine c) :=
  h.engine_rel (fun x y => f y = f x) (fun _ => rfl) (fun _ _ _ p q => q.trans p) c hA

theorem Work.channel_keeps {β : Type} (f : Channel → β) (c : Slot) (hA : ∀ x y, A.channel c x y → f y = f x)
    (h : Work A s t) : f (t.channel c) = f (s.channel c) :=
  h.channel_rel (fun x y => f y = f x) (fun _ => rfl) (fun _ _ _ p q => q.trans p) c hA

theorem Work.wind_keeps {β : Type} (f : Wind → β) (c : Slot) (hA : ∀ x y, A.wind c x y → f y = f x) (h : Work A s t) :
    f (t.windOf c) = f (s.windOf c) :=
  h.wind_rel (fun x y => f y = f x) (fun _ => rfl) (fun _ _ _ p q => q.trans p) c hA

theorem Work.status_keeps {β : Type} (f : CraneStatus → β) (c : Slot) (hA : ∀ x y, A.status c x y → f y = f x)
    (h : Work A s t) : f (t.crane c) = f (s.crane c) :=
  h.status_rel (fun x y => f y = f x) (fun _ => rfl) (fun _ _ _ p q => q.trans p) c hA

theorem Work.links_eq (hA : ∀ c x y, ¬ A.link c x y) (h : Work A s t) : t.links = s.links := by
  induction h with
  | refl => rfl
  | link d x ok _ _ => exact absurd ok (hA _ _ _)
  | mark | arb | bookings | free | engine | channel | wind | status => assumption

theorem Work.status_eq (hA : ∀ c x y, ¬ A.status c x y) (h : Work A s t) : t.status = s.status := by
  induction h with
  | refl => rfl
  | status d x ok _ _ => exact absurd ok (hA _ _ _)
  | mark | arb | bookings | free | engine | channel | wind | link => assumption

theorem Work.bookings_eq (hA : ¬ A.bookings) (h : Work A s t) : t.bookings = s.bookings := by
  induction h with
  | refl => rfl
  | bookings l ok _ _ => exact absurd ok hA
  | free n ok _ _ => exact absurd ok hA
  | mark | arb | engine | channel | wind | link | status => assumption

/-! ### Elementary operations -/

theorem markIf_work (b : Bool) (k : ReportKey) (h : Work A s t) : Work A s (markIf b k t) := by
  cases b
  · exact h
  · exact .mark k h

theorem forEach_work {α : Type} (l : List α) (f : α → State → State) (hf : ∀ a u, Work A s u → Work A s (f a u))
    (h : Work A s t) : Work A s (forEach l f t) := by
  unfold forEach
  induction l generalizing t with
  | nil => exact h
  | cons a l ih => exact ih (hf a t h)

theorem updLink_work (c : Slot) (f : Link → Link) (ok : A.link c (t.link c) (f (t.link c))) (h : Work A s t) :
    Work A s (updLink c f t) := markIf_work _ _ (.link c _ ok h)

theorem updEngine_work (c : Slot) (f : Engine → Engine) (ok : A.engine c (t.engine c) (f (t.engine c))) (h : Work A s t) :
    Work A s (updEngine c f t) := .engine c _ ok h

theorem updChannel_work (c : Slot) (f : Channel → Channel) (ok : A.channel c (t.channel c) (f (t.channel c)))
    (h : Work A s t) : Work A s (updChannel c f t) := markIf_work _ _ (.channel c _ ok h)

theorem updCrane_work (c : Slot) (f : CraneStatus → CraneStatus) (ok : A.status c (t.crane c) (f (t.crane c)))
    (h : Work A s t) : Work A s (updCrane c f t) := markIf_work _ _ (.status c _ ok h)

theorem modCrane_work (c : Slot) (f : CraneStatus → CraneStatus) (ok : A.status c (t.crane c) (f (t.crane c)))
    (h : Work A s t) : Work A s (modCrane c f t) := .status c _ ok h

theorem updWind_work (c : Slot) (f : Wind → Wind) (ok : A.wind c (t.windOf c) (f (t.windOf c))) (h : Work A s t) :
    Work A s (updWind c f t) := markIf_work _ _ (.wind c _ ok h)

theorem updBooking_work (n : Nat) (f : Booking → Booking) (ok : A.bookings) (h : Work A s t) :
    Work A s (updBooking n f t) := by
  unfold updBooking
  split
  · exact h
  · rename_i b _
    have k : Work A s (markIf (b.reportableChange (f b)) (.booking n) (t.putBooking (f b))) :=
      markIf_work _ _ (.bookings _ ok h)
    dsimp only
    split
    · exact .free n ok k
    · exact k

end
/-! ## The Zone Arbiter -/

/-- What the arbiter's telling leaves alone in a channel. -/
def Channel.Told (ch ch' : Channel) : Prop :=
  ch'.booking = ch.booking ∧ ch'.reasons = ch.reasons ∧ ch'.calmFrom = ch.calmFrom

/-- The scope lets the arbiter change its records, cranes' evict sets, and what it tells the channels. -/
structure Scope.Arbitrates (A : Scope) : Prop where
  arb : A.arb
  evict : ∀ c e l, A.engine c e { e with evict := l }
  told : ∀ c (ch ch' : Channel), ch.Told ch' → A.channel c ch ch'

section
variable {A : Scope} {s t : State} (ha : A.Arbitrates)
include ha

theorem arbiter_work (a : Arbiter) (h : Work A s t) : Work A s { t with arb := a } := .arb a ha.arb h
theorem updZone_work (z : ZoneId) (f : ZoneRecord → ZoneRecord) (h : Work A s t) : Work A s (updZone z f t) :=
  markIf_work _ _ (.arb _ ha.arb h)
theorem modZone_work (z : ZoneId) (f : ZoneRecord → ZoneRecord) (h : Work A s t) : Work A s (modZone z f t) :=
  .arb _ ha.arb h
theorem putStorm_work (c : Slot) (x : StormRecord) (h : Work A s t) : Work A s (t.putStorm c x) := .arb _ ha.arb h
theorem putPool_work (l : List PoolRecord) (h : Work A s t) : Work A s (t.putPool l) := .arb _ ha.arb h
theorem takePool_work (c : Slot) (kind : PoolKind) (priority : Nat) (booking : Option Nat) (zones : List ClaimZone)
    (dwell : Dwell) (h : Work A s t) : Work A s (takePool c kind priority booking zones dwell t) := .arb _ ha.arb h
theorem updPool_work (stamp : Nat) (f : PoolRecord → PoolRecord) (h : Work A s t) : Work A s (updPool stamp f t) :=
  .arb _ ha.arb h
theorem updEvict_work (c : Slot) (f : List ZoneId → List ZoneId) (h : Work A s t) : Work A s (updEvict c f t) :=
  markIf_work _ _ (.engine c _ (ha.evict _ _ _) h)

theorem tellGranted_work (c : Slot) (stamp : Nat) (h : Work A s t) : Work A s (tellGranted c stamp t) := by
  unfold tellGranted
  split
  · exact updChannel_work _ _ (ha.told _ _ _ ⟨rfl, rfl, rfl⟩) h
  · exact h

theorem tellWithdrawn_work (c : Slot) (stamp : Nat) (h : Work A s t) : Work A s (tellWithdrawn c stamp t) := by
  unfold tellWithdrawn
  split
  · exact updChannel_work _ _ (ha.told _ _ _ ⟨rfl, rfl, rfl⟩) h
  · exact h

theorem tellLost_work (c : Slot) (booking : Nat) (z : ZoneId) (cause : LossCause) (h : Work A s t) :
    Work A s (tellLost c booking z cause t) := updChannel_work _ _ (ha.told _ _ _ ⟨rfl, rfl, rfl⟩) h

theorem announceFreed_work (h : Work A s t) : Work A s (announceFreed t) := by
  refine forEach_work _ _ (fun c u k => ?_) h
  split
  · exact updChannel_work _ _ (ha.told _ _ _ ⟨rfl, rfl, rfl⟩) k
  · exact k

theorem updClaimZones_work (ref : ClaimRef) (f : List ClaimZone → List ClaimZone) (h : Work A s t) :
    Work A s (updClaimZones ref f t) := by
  unfold updClaimZones
  repeat' first
    | with_reducible assumption | with_reducible apply putStorm_work | with_reducible apply updPool_work | split

theorem setStatus_work (ref : ClaimRef) (z : ZoneId) (st : ZoneStatus) (h : Work A s t) :
    Work A s (setStatus ref z st t) := updClaimZones_work ha _ _ h

theorem dropZone_work (ref : ClaimRef) (z : ZoneId) (h : Work A s t) : Work A s (dropZone ref z t) :=
  updClaimZones_work ha _ _ h

theorem retypeTransit_work (stamp : Nat) (z : ZoneId) (h : Work A s t) : Work A s (retypeTransit stamp z t) :=
  updPool_work ha _ _ h

theorem settleMarked_work (stamp : Nat) (h : Work A s t) : Work A s (settleMarked stamp t) := by
  unfold settleMarked
  repeat' first
    | with_reducible assumption | with_reducible apply updPool_work | with_reducible apply retypeTransit_work | split

theorem convertToTransit_work (ref : ClaimRef) (c : Slot) (z : ZoneId) (h : Work A s t) :
    Work A s (convertToTransit ref c z t) :=
  dropZone_work ha _ _ (updZone_work ha _ _ (takePool_work ha _ _ _ _ _ _ h))

theorem handOn_work (h : Work A s t) : Work A s (handOn t) := by
  unfold handOn
  dsimp only
  repeat' first
    | with_reducible assumption | with_reducible apply announceFreed_work | with_reducible apply settleMarked_work
    | with_reducible apply convertToTransit_work | split

theorem tidyClaim_work (ref : ClaimRef) (h : Work A s t) : Work A s (tidyClaim ref t) := by
  unfold tidyClaim
  repeat' first
    | with_reducible assumption | with_reducible apply putPool_work | with_reducible apply settleMarked_work
    | with_reducible apply handOn_work | split

theorem placeEntry_work (ref : ClaimRef) (z : ZoneId) (h : Work A s t) : Work A s (placeEntry ref z t) :=
  updZone_work ha _ _ h

theorem removeEntry_work (ref : ClaimRef) (z : ZoneId) (h : Work A s t) : Work A s (removeEntry ref z t) :=
  updZone_work ha _ _ h

theorem withdrawPool_work (stamp : Nat) (h : Work A s t) : Work A s (withdrawPool stamp t) := by
  unfold withdrawPool
  dsimp only
  exact tidyClaim_work ha _ (updClaimZones_work ha _ _ (forEach_work _ _ (fun _ _ k => removeEntry_work ha _ _ k) h))

theorem clearEvictees_work (z : ZoneId) (h : Work A s t) : Work A s (clearEvictees z t) := by
  unfold clearEvictees
  dsimp only
  exact modZone_work ha _ _ (forEach_work _ _ (fun _ _ k => updEvict_work ha _ _ k) h)

theorem evictFrom_work (c : Slot) (z : ZoneId) (h : Work A s t) : Work A s (evictFrom c z t) := by
  unfold evictFrom
  dsimp only
  exact modZone_work ha _ _ (forEach_work _ _ (fun _ _ k => .mark _ (updEvict_work ha _ _ k)) h)

theorem endEvictions_work (c : Slot) (h : Work A s t) : Work A s (endEvictions c t) := by
  unfold endEvictions
  exact forEach_work _ _ (fun _ _ k => updZone_work ha _ _ (updEngine_work _ _ (ha.evict _ _ _) k)) h

theorem grantPoolZone_work (n : Nat) (c : Slot) (z : ZoneId) (h : Work A s t) : Work A s (grantPoolZone n c z t) :=
  updPool_work ha _ _ (setStatus_work ha _ _ _ (updZone_work ha _ _ h))

theorem loseZone_work (cause : LossCause) (z : ZoneId) (ref : ClaimRef) (h : Work A s t) :
    Work A s (loseZone cause z ref t) := by
  unfold loseZone
  dsimp only
  repeat' first
    | with_reducible assumption | with_reducible apply tellLost_work | with_reducible apply dropZone_work
    | with_reducible apply tidyClaim_work | split

theorem stormTakes_work (c : Slot) (z : ZoneId) (co : List Nat) (h : Work A s t) : Work A s (stormTakes c z co t) :=
  .mark _ (evictFrom_work ha _ _ (setStatus_work ha _ _ _ (modZone_work ha _ _ h)))

theorem stormGrant_work (c : Slot) (z : ZoneId) (h : Work A s t) : Work A s (stormGrant c z t) := by
  unfold stormGrant
  exact stormTakes_work ha _ _ _ (forEach_work _ _ (fun _ _ k => loseZone_work ha _ _ _ k) h)

theorem grantCandidate_work (z : ZoneId) (ref : ClaimRef) (h : Work A s t) : Work A s (grantCandidate z ref t) := by
  unfold grantCandidate
  dsimp only
  repeat' first
    | with_reducible assumption | with_reducible apply forEach_work | with_reducible apply updZone_work
    | with_reducible apply tellGranted_work | with_reducible apply grantPoolZone_work
    | with_reducible apply stormGrant_work | split | intro _

theorem grantAll_work (n : Nat) (due : List ZoneId) (h : Work A s t) : Work A s (grantAll n due t).2 := by
  induction n generalizing t due with
  | zero => exact h
  | succ n ih =>
    unfold grantAll
    split
    · exact h
    · exact ih _ (grantCandidate_work ha _ _ h)

theorem settleReservation_work (z : ZoneId) (h : Work A s t) : Work A s (settleReservation z t) := by
  unfold settleReservation
  repeat' first
    | with_reducible assumption | with_reducible apply updZone_work | split

theorem settleZones_work (old : State) (extra : List ZoneId) (h : Work A s t) : Work A s (settleZones old extra t)
    := by
  unfold settleZones
  dsimp only
  exact forEach_work _ _ (fun _ _ k => settleReservation_work ha _ k) (grantAll_work ha _ _ h)

theorem convertHolding_work (ref : ClaimRef) (c : Slot) (z : ZoneId) (h : Work A s t) :
    Work A s (convertHolding ref c z t) := by
  unfold convertHolding
  dsimp only
  repeat' first
    | with_reducible assumption | with_reducible apply updClaimZones_work | with_reducible apply retypeTransit_work
    | with_reducible apply settleMarked_work | with_reducible apply convertToTransit_work
    | with_reducible apply tidyClaim_work | split

theorem releaseZone_work (ref : ClaimRef) (z : ZoneId) (h : Work A s t) : Work A s (releaseZone ref z t) := by
  unfold releaseZone
  dsimp only
  repeat' first
    | with_reducible assumption | with_reducible apply Work.mark | with_reducible apply modZone_work
    | with_reducible apply dropZone_work | with_reducible apply tidyClaim_work
    | with_reducible apply clearEvictees_work | with_reducible apply convertHolding_work | split

theorem releaseBookingZones_work (booking : Nat) (zones : List ZoneId) (h : Work A s t) :
    Work A s (releaseBookingZones booking zones t) := by
  unfold releaseBookingZones
  repeat' first
    | with_reducible assumption | with_reducible apply forEach_work | with_reducible apply settleZones_work
    | with_reducible apply releaseZone_work | split | intro _

theorem withdrawBooking_work (booking : Nat) (h : Work A s t) : Work A s (withdrawBooking booking t) := by
  unfold withdrawBooking
  exact settleZones_work ha _ _ (forEach_work _ _ (fun _ _ k => withdrawPool_work ha _ k) h)

theorem withdrawClaim_work (stamp : Nat) (h : Work A s t) : Work A s (withdrawClaim stamp t) :=
  settleZones_work ha _ _ (withdrawPool_work ha _ h)

theorem withdrawTold_work (c : Slot) (stamp : Nat) (h : Work A s t) : Work A s (withdrawTold c stamp t) :=
  tellWithdrawn_work ha _ _ (withdrawPool_work ha _ h)

theorem withdrawCrane_work (c : Slot) (ht : ∀ e l, A.engine c e { e with transit := l }) (h : Work A s t) :
    Work A s (withdrawCrane c t) := by
  unfold withdrawCrane
  dsimp only
  exact settleZones_work ha _ _ (updEngine_work _ _ (ht _ _) (forEach_work _ _ (fun _ _ k => setStatus_work ha _ _ _
    (removeEntry_work ha _ _ k)) (forEach_work _ _ (fun _ _ k => withdrawTold_work ha _ _ k) h)))

theorem requestTransit_work (c : Slot) (z : ZoneId) (h : Work A s t) : Work A s (requestTransit c z t) := by
  unfold requestTransit
  repeat' first
    | with_reducible assumption | with_reducible apply takePool_work | with_reducible apply placeEntry_work | split

theorem transitHandOver_work (c : Slot) (zones : List ZoneId)
    (ht : ∀ e, A.engine c e { e with transit := zones }) (h : Work A s t) : Work A s (transitHandOver c zones t) := by
  unfold transitHandOver
  dsimp only
  refine settleZones_work ha _ _ (forEach_work _ _ (fun _ _ k => requestTransit_work ha _ _ k)
    (updEngine_work _ _ (ht _) (forEach_work _ _ (fun _ _ k => ?_) h)))
  split
  · exact withdrawPool_work ha _ k
  · exact k

theorem waitForStorm_work (c : Slot) (z : ZoneId) (h : Work A s t) : Work A s (requestStorm.waitForStorm c z t) := by
  unfold requestStorm.waitForStorm
  split
  · exact h
  · exact placeEntry_work ha _ _ (setStatus_work ha _ _ _ (withdrawTold_work ha _ _ h))
  · exact placeEntry_work ha _ _ (setStatus_work ha _ _ _ h)

theorem requestStorm_work (c : Slot) (z : ZoneId) (h : Work A s t) : Work A s (requestStorm c z t) := by
  unfold requestStorm
  dsimp only
  repeat' first
    | with_reducible assumption | with_reducible apply waitForStorm_work | with_reducible apply stormTakes_work
    | with_reducible apply tidyClaim_work | with_reducible apply dropZone_work | split

theorem retypeStanding_work (n booking priority : Nat) (h : Work A s t) :
    Work A s (retypeStanding n booking priority t) := updPool_work ha _ _ h

theorem requestStandingZone_work (n : Nat) (c : Slot) (z : ZoneId) (h : Work A s t) :
    Work A s (requestStandingZone n c z t) := by
  unfold requestStandingZone
  repeat' first
    | with_reducible assumption | with_reducible apply updZone_work | with_reducible apply setStatus_work
    | with_reducible apply dropZone_work | with_reducible apply tidyClaim_work | with_reducible apply placeEntry_work
    | with_reducible apply withdrawPool_work | split

theorem requestStanding_work (c : Slot) (booking priority : Nat) (zones : List ZoneId) (h : Work A s t) :
    Work A s (requestStanding c booking priority zones t).1 := by
  unfold requestStanding
  dsimp only
  repeat' first
    | with_reducible assumption | with_reducible apply retypeStanding_work | with_reducible apply settleZones_work
    | with_reducible apply forEach_work | with_reducible apply requestStandingZone_work
    | with_reducible apply takePool_work | split | intro _

theorem joinGrant_work (c : Slot) (z : ZoneId) (h : Work A s t) : Work A s (joinGrant c z t) := by
  unfold joinGrant
  dsimp only
  repeat' first
    | with_reducible assumption | with_reducible apply updZone_work | with_reducible apply takePool_work | split

theorem judgeDwells_work (c : Slot) (h : Work A s t) : Work A s (judgeDwells c t) := putPool_work ha _ h

theorem replaceDeferred_work (c : Slot) (h : Work A s t) : Work A s (replaceDeferred c t) := by
  unfold replaceDeferred
  exact forEach_work _ _ (fun _ _ k => requestStorm_work ha _ _ k) h

theorem handOver_work (c : Slot) (join : Bool) (occupancy reach : List ZoneId)
    (ht : ∀ e, A.engine c e { e with occupancy := occupancy, reach := reach, handOverDue := false }) (h : Work A s t) :
    Work A s (handOver c join occupancy reach t) := by
  have k := updEngine_work c (fun e => { e with occupancy := occupancy, reach := reach, handOverDue := false }) (ht _) h
  refine settleZones_work ha _ _ ?_
  repeat' first
    | with_reducible assumption
    | with_reducible apply forEach_work
    | with_reducible apply joinGrant_work
    | with_reducible apply judgeDwells_work
    | with_reducible apply endEvictions_work
    | with_reducible apply replaceDeferred_work
    | split
    | intro _

theorem arbiterStale_work (c : Slot) (ht : ∀ e, A.engine c e { e with handOverDue := true }) (h : Work A s t) :
    Work A s (arbiterStale c t) := settleZones_work ha _ _ (putPool_work ha _ (updEngine_work _ _ (ht _) h))

theorem expireDwell_work (z : ZoneId) (h : Work A s t) : Work A s (expireDwell z t) := by
  unfold expireDwell
  repeat' first
    | with_reducible assumption | with_reducible apply settleZones_work | with_reducible apply releaseZone_work
    | split

theorem closeTheZone_work (z : ZoneId) (h : Work A s t) : Work A s (closeTheZone z t) :=
  settleZones_work ha _ _ (placeEntry_work ha _ _ (arbiter_work ha _ (updZone_work ha _ _ h)))

theorem openTheZone_work (z : ZoneId) (h : Work A s t) : Work A s (openTheZone z t) :=
  settleZones_work ha _ _ (updZone_work ha _ _ h)

theorem withdrawClosure_work (z : ZoneId) (h : Work A s t) : Work A s (withdrawClosure z t) :=
  settleZones_work ha _ _ (updZone_work ha _ _ h)

theorem forceFree_work (z : ZoneId) (h : Work A s t) : Work A s (forceFree z t) := by
  unfold forceFree
  dsimp only
  repeat' first
    | with_reducible assumption | with_reducible apply Work.mark | with_reducible apply forEach_work
    | with_reducible apply modZone_work | with_reducible apply setStatus_work
    | with_reducible apply clearEvictees_work | with_reducible apply loseZone_work
    | with_reducible apply settleZones_work | split | intro _

theorem stampStorm_work (c : Slot) (h : Work A s t) : Work A s (stampStorm c t) := by
  unfold stampStorm
  split
  · exact arbiter_work ha _ (putStorm_work ha _ _ h)
  · exact h

theorem addStormZones_work (c : Slot) (zones : List ZoneId) (st : ZoneStatus) (h : Work A s t) :
    Work A s (addStormZones c zones st t) := putStorm_work ha _ _ h

theorem unmarkStorm_work (c : Slot) (h : Work A s t) : Work A s (unmarkStorm c t) := updClaimZones_work ha _ _ h

theorem withdrawStorm_work (c : Slot) (h : Work A s t) : Work A s (withdrawStorm c t) := by
  unfold withdrawStorm
  dsimp only
  exact settleZones_work ha _ _ (updClaimZones_work ha _ _ (forEach_work _ _ (fun _ _ k => removeEntry_work ha _ _ k) h))

theorem releaseStorm_work (c : Slot) (h : Work A s t) : Work A s (releaseStorm c t) := by
  unfold releaseStorm
  repeat' first
    | with_reducible assumption | with_reducible apply forEach_work | with_reducible apply settleZones_work
    | with_reducible apply releaseZone_work | split | intro _

theorem removeFromZone_work (c : Slot) (mine : List ClaimRef) (z : ZoneId) (h : Work A s t) :
    Work A s (removeFromZone c mine z t) := by
  unfold removeFromZone
  dsimp only
  repeat' first
    | with_reducible assumption | with_reducible apply updZone_work | with_reducible apply clearEvictees_work | split

theorem arbiterRemove_work (c : Slot) (ht : ∀ e, A.engine c e { e with occupancy := [], reach := [], evict := [] })
    (h : Work A s t) : Work A s (arbiterRemove c t) := by
  unfold arbiterRemove
  exact settleZones_work ha _ _ (forEach_work _ _ (fun _ _ k => handOn_work ha k) (updEngine_work _ _ (ht _)
    (putStorm_work ha _ _ (putPool_work ha _ (forEach_work _ _ (fun _ _ k => removeFromZone_work ha _ _ _ k) h)))))

theorem arbiterCleared_work (h : Work A s t) : Work A s (arbiterCleared t) := by
  unfold arbiterCleared
  exact arbiter_work ha _ (forEach_work _ _ (fun _ _ k => updZone_work ha _ _ k) h)

end
/-! ## Bookings, channels and the cab line -/

/-- What queueing and sending do to a link: they change its queue and transmitter, and nothing but its queue while it sends or
the reset line is low. -/
def Link.Lined (low : Prop) (l l' : Link) : Prop :=
  l' = { l with
    slot := l'.slot, lastSent := l'.lastSent, repeatFrom := l'.repeatFrom, notices := l'.notices, tx := l'.tx } ∧
  (l.tx ≠ none ∨ low → l' = { l with notices := l'.notices })

/-- The scope lets bookings and channels go on from state s: a calm timer starts on a LIVE link alone (R121). -/
structure Scope.Runs (A : Scope) (s : State) : Prop extends A.Arbitrates where
  bookings : A.bookings
  channel : ∀ c (ch ch' : Channel), ch'.calmFrom = ch.calmFrom ∨ ch'.calmFrom = none → A.channel c ch ch'
  calm : ∀ t, Work A s t → ∀ c m, (t.link c).state = .live →
    A.channel c (t.channel c) { t.channel c with calmFrom := some m }
  line : ∀ c (l l' : Link), l.Lined (s.power.lowFor ≠ none) l' → A.link c l l'

section
variable {A : Scope} {s t : State} (hr : A.Runs s)
include hr

theorem noticeEntered_work (c : Slot) (h : Work A s t) : Work A s (noticeEntered c t) := by
  unfold noticeEntered
  split <;> exact updChannel_work _ _ (hr.channel _ _ _ (.inl rfl)) h

theorem placeFreed_work (c : Slot) (h : Work A s t) : Work A s (placeFreed c t) := by
  unfold placeFreed
  split
  · split
    · exact noticeEntered_work hr c (updLink_work _ _ (hr.line _ _ _ ⟨rfl, fun _ => rfl⟩) h)
    · exact h
  · exact h

theorem kickCab_work (c : Slot) (h : Work A s t) : Work A s (kickCab c t) := by
  unfold kickCab
  split
  · exact h
  · rename_i idle
    have no : ¬((t.link c).tx ≠ none ∨ s.power.lowFor ≠ none) := by
      rw [← h.power]
      simpa [State.silent, not_or, Option.isSome_iff_ne_none, and_comm] using idle
    split
    · exact updLink_work _ _ (hr.line _ _ _ ⟨rfl, fun b => absurd b no⟩) h
    · split
      · exact h
      · exact placeFreed_work hr c (updLink_work _ _ (hr.line _ _ _ ⟨rfl, fun b => absurd b no⟩) h)

theorem placeFrame_work (c : Slot) (computed : Bool) (f : LimitFrame)
    (ok : ∀ l g, A.link c l { l with generation := g, slot := some ⟨g, f⟩, inForce := some ⟨computed, f.mode⟩ })
    (h : Work A s t) : Work A s (placeFrame c computed f t) :=
  kickCab_work hr c (updLink_work _ _ (ok _ _) h)

theorem placeLinkMade_work (c : Slot)
    (ok : ∀ l g f, A.link c l { l with generation := g, slot := some ⟨g, f⟩, inForce := some ⟨false, f.mode⟩ })
    (h : Work A s t) : Work A s (placeLinkMade c t) := by
  unfold placeLinkMade
  split
  · exact placeFrame_work hr c _ _ (fun l g => ok l g _) h
  · exact h

theorem repeatLimit_work (c : Slot) (ok : ∀ l x, A.link c l { l with repeatFrom := none, slot := x }) (h : Work A s t) :
    Work A s (repeatLimit c t) := by
  unfold repeatLimit
  split
  · exact kickCab_work hr c (updLink_work _ _ (ok _ _) h)
  · exact h

theorem cabTxFinished_work (c : Slot) (ok : ∀ l, A.link c l { l with tx := none }) (h : Work A s t) :
    Work A s (cabTxFinished c t) := by
  unfold cabTxFinished
  split
  · exact h
  · exact kickCab_work hr c (updLink_work _ _ (ok _) h)

theorem offerNotice_work (c : Slot) (h : Work A s t) : Work A s (offerNotice c t) := by
  unfold offerNotice
  split
  · exact h
  · split
    · exact kickCab_work hr c (noticeEntered_work hr c (updLink_work _ _ (hr.line _ _ _ ⟨rfl, fun _ => rfl⟩) h))
    · exact updChannel_work _ _ (hr.channel _ _ _ (.inl rfl)) h

theorem addReason_work (c : Slot) (f : Reasons → Reasons) (h : Work A s t) : Work A s (addReason c f t) := by
  unfold addReason
  dsimp only
  repeat' first
    | with_reducible assumption | with_reducible apply updChannel_work | with_reducible apply withdrawClaim_work
    | exact hr.channel _ _ _ (.inl rfl) | exact hr.channel _ _ _ (.inr rfl) | with_reducible exact hr.toArbitrates
    | split

theorem judgeChannelWind_work (c : Slot) (h : Work A s t) : Work A s (judgeChannelWind c t) := by
  unfold judgeChannelWind
  split
  · exact h
  · dsimp only
    split
    · refine updChannel_work _ _ ?_ h
      split
      · rename_i calm
        refine hr.calm t h c _ ?_
        simp only [State.calmCondition, Bool.and_eq_true, beq_iff_eq] at calm
        exact calm.1.2
      · exact hr.channel _ _ _ (.inr rfl)
    · split
      · exact addReason_work hr c _ (updChannel_work _ _ (hr.channel _ _ _ (.inr rfl)) h)
      · exact h

theorem startIdle_work (c : Slot) (b : Booking) (h : Work A s t) : Work A s (startIdle c b t) :=
  judgeChannelWind_work hr c (updChannel_work _ _ (hr.channel _ _ _ (.inr rfl)) (updBooking_work _ _ hr.bookings h))

theorem startOver_work (c : Slot) (n : Nat) (returnsTo : Option Nat) (h : Work A s t) :
    Work A s (startOver c n returnsTo t) :=
  judgeChannelWind_work hr c (updChannel_work _ _ (hr.channel _ _ _ (.inr rfl)) (updBooking_work _ _ hr.bookings h))

theorem interruptWith_work (c : Slot) (x u : Nat) (h : Work A s t) : Work A s (interruptWith c x u t) := by
  unfold interruptWith
  refine startOver_work hr c _ _ (updBooking_work _ _ hr.bookings (withdrawBooking_work hr.toArbitrates _ ?_))
  exact updChannel_work _ _ (hr.channel _ _ _ (.inl rfl)) h

theorem urgentStart_work (c : Slot) (u : Booking) (h : Work A s t) : Work A s (urgentStart c u t) := by
  unfold urgentStart
  repeat' first
    | with_reducible assumption | with_reducible apply startIdle_work | with_reducible apply interruptWith_work
    | split

theorem gate_work (c : Slot) (h : Work A s t) : Work A s (gate c t) := by
  unfold gate
  repeat' first
    | with_reducible assumption | with_reducible apply startIdle_work | with_reducible apply urgentStart_work | split

theorem forgetLosses_work (n : Nat) (h : Work A s t) : Work A s (forgetLosses n t) := by
  unfold forgetLosses
  split
  · exact updChannel_work _ _ (hr.channel _ _ _ (.inl rfl)) h
  · exact h

theorem endSteps_work (n : Nat) (st : BookingState) (out : BookingOutcome) (h : Work A s t) :
    Work A s (endSteps n st out t) :=
  updBooking_work _ _ hr.bookings (forgetLosses_work hr _ (releaseBookingZones_work hr.toArbitrates _ _
    (withdrawBooking_work hr.toArbitrates _ h)))

theorem idleAndGate_work (c : Slot) (h : Work A s t) : Work A s (idleAndGate c t) :=
  gate_work hr c (updChannel_work _ _ (hr.channel _ _ _ (.inr rfl)) h)

theorem resumeBooking_work (c : Slot) (x : Booking) (saved : SavedContext) (h : Work A s t) :
    Work A s (resumeBooking c x saved t) := by
  unfold resumeBooking
  dsimp only
  repeat' first
    | with_reducible assumption | with_reducible apply updChannel_work | with_reducible apply updBooking_work
    | with_reducible apply judgeChannelWind_work | with_reducible apply endSteps_work
    | with_reducible apply idleAndGate_work | exact hr.channel _ _ _ (.inl rfl) | exact hr.channel _ _ _ (.inr rfl)
    | with_reducible exact hr.bookings | split

theorem endBooking_work (c : Slot) (n : Nat) (st : BookingState) (out : BookingOutcome) (h : Work A s t) :
    Work A s (endBooking c n st out t) := by
  unfold endBooking
  dsimp only
  repeat' first
    | with_reducible assumption | with_reducible apply endSteps_work | with_reducible apply idleAndGate_work
    | with_reducible apply resumeBooking_work | split

theorem endCurrent_work (c : Slot) (st : BookingState) (code : OutcomeCode) (h : Work A s t) :
    Work A s (endCurrent c st code t) := by
  unfold endCurrent
  repeat' first
    | with_reducible assumption | with_reducible apply endBooking_work | split

theorem cancelInterrupted_work (b : Booking) (code : OutcomeCode) (h : Work A s t) :
    Work A s (cancelInterrupted b code t) := by
  have ok (ch : Channel) : A.channel b.crane ch { ch with interruptedLoss := none } := hr.channel _ _ _ (.inl rfl)
  unfold cancelInterrupted
  exact updChannel_work _ _ (ok _) (forEach_work _ _ (fun _ _ k => updBooking_work _ _ hr.bookings k)
    (updBooking_work _ _ hr.bookings (forgetLosses_work hr _ (releaseBookingZones_work hr.toArbitrates _ _ h))))

theorem cancelBooking_work (b : Booking) (h : Work A s t) : Work A s (cancelBooking b t) := by
  unfold cancelBooking
  repeat' first
    | with_reducible assumption | with_reducible apply updBooking_work | with_reducible apply endBooking_work
    | with_reducible apply cancelInterrupted_work | with_reducible exact hr.bookings | split

theorem supersede_work (c : Slot) (n : Nat) (h : Work A s t) : Work A s (supersede c n t) := by
  unfold supersede
  repeat' first
    | with_reducible assumption | with_reducible apply startOver_work | with_reducible apply endSteps_work | split

theorem holdBack_work (c : Slot) (h : Work A s t) : Work A s (holdBack c t) := by
  unfold holdBack
  exact forEach_work _ _ (fun _ _ k => updBooking_work _ _ hr.bookings k) h

theorem letForward_work (c : Slot) (h : Work A s t) : Work A s (letForward c t) := by
  unfold letForward
  exact forEach_work _ _ (fun _ _ k => updBooking_work _ _ hr.bookings k) h

theorem lockoutBookings_work (c : Slot) (h : Work A s t) : Work A s (lockoutBookings c t) := by
  unfold lockoutBookings
  dsimp only
  repeat' first
    | with_reducible assumption | with_reducible apply updChannel_work | with_reducible apply endSteps_work
    | with_reducible apply cancelInterrupted_work | with_reducible apply holdBack_work
    | exact hr.channel _ _ _ (.inl rfl) | exact hr.channel _ _ _ (.inr rfl) | split

theorem cancelRemoved_work (c : Slot) (h : Work A s t) : Work A s (cancelRemoved c t) := by
  unfold cancelRemoved
  exact forEach_work _ _ (fun _ _ k => updBooking_work _ _ hr.bookings k) h

theorem minuteToBookings_work (p : Option Nat) (n : Nat) (h : Work A s t) : Work A s (minuteToBookings p n t) := by
  unfold minuteToBookings
  exact forEach_work _ _ (fun _ _ k => updBooking_work _ _ hr.bookings k) h

theorem completeStep_work (c : Slot) (next : Nat) (h : Work A s t) : Work A s (completeStep c next t) :=
  updChannel_work _ _ (hr.channel _ _ _ (.inl rfl)) h

theorem claimWaits_work (c : Slot) (claim : ChannelClaim) (h : Work A s t) : Work A s (claimWaits c claim t) :=
  updChannel_work _ _ (hr.channel _ _ _ (.inl rfl)) h

theorem sendClaim_work (c : Slot) (b : Booking) (zs : List Nat) (h : Work A s t) : Work A s (sendClaim c b zs t) := by
  have r := requestStanding_work hr.toArbitrates c b.number b.priority (stepZones zs) h
  unfold sendClaim
  split
  · exact endCurrent_work hr _ _ _ h
  · generalize requestStanding c b.number b.priority (stepZones zs) t = q at r
    obtain ⟨u, a⟩ := q
    cases a
    · exact completeStep_work hr _ _ r
    all_goals exact claimWaits_work hr _ _ r

theorem startWait_work (c : Slot) (seconds : Nat) (h : Work A s t) : Work A s (startWait c seconds t) :=
  updChannel_work _ _ (hr.channel _ _ _ (.inl rfl)) h

theorem beginStep_work (c : Slot) (b : Booking) (step : PlanStep) (h : Work A s t) : Work A s (beginStep c b step t) := by
  have released (zones : List ZoneId) : Work A s (releaseBookingZones b.number zones t) :=
    releaseBookingZones_work hr.toArbitrates _ _ h
  unfold beginStep
  dsimp only
  split
  · refine sendClaim_work hr _ _ _ ?_
    split
    · exact h
    · exact startWait_work hr _ _ h
  · exact updChannel_work _ _ (hr.channel _ _ _ (.inl rfl)) (startWait_work hr _ _ h)
  · exact offerNotice_work hr _ (startWait_work hr _ _ h)
  · exact offerNotice_work hr _ h
  · exact updChannel_work _ _ (hr.channel _ _ _ (.inl rfl)) h
  · exact updChannel_work _ _ (hr.channel _ _ _ (.inl rfl)) h
  · refine updChannel_work _ _ (hr.channel _ _ _ (.inl ?_)) h
    split <;> rfl
  · exact completeStep_work hr _ _ h
  · exact completeStep_work hr _ _ (released _)
  · exact completeStep_work hr _ _ (released _)
  · exact endCurrent_work hr _ _ _ (released _)

theorem channelAct_work (c : Slot) (h : Work A s t) : Work A s (channelAct c t) := by
  unfold channelAct
  repeat' first
    | with_reducible assumption | with_reducible apply offerNotice_work | with_reducible apply endCurrent_work
    | with_reducible apply sendClaim_work | with_reducible apply beginStep_work | split

theorem runSteps_work (c : Slot) (n : Nat) (h : Work A s t) : Work A s (runSteps c n t) := by
  induction n generalizing t with
  | zero => exact h
  | succ n ih =>
    unfold runSteps
    split
    · exact ih (channelAct_work hr c h)
    · exact h

theorem runChannel_work (c : Slot) (h : Work A s t) : Work A s (runChannel c t) := runSteps_work hr c _ h

theorem runNew_work (c : Slot) (old : State) (h : Work A s t) : Work A s (runNew c old t) := by
  unfold runNew
  split
  · exact runChannel_work hr c h
  · exact h

theorem gateAndRun_work (c : Slot) (h : Work A s t) : Work A s (gateAndRun c t) :=
  runNew_work hr c _ (gate_work hr c h)

theorem resumeIfActive_work (c : Slot) (old : State) (h : Work A s t) : Work A s (resumeIfActive c old t) := by
  unfold resumeIfActive
  split
  · exact runChannel_work hr c h
  · exact h

theorem removeReason_work (c : Slot) (f : Reasons → Reasons) (h : Work A s t) : Work A s (removeReason c f t) :=
  resumeIfActive_work hr c _ (updChannel_work _ _ (hr.channel _ _ _ (.inl rfl)) h)

theorem liftPause_work (c : Slot) (h : Work A s t) : Work A s (liftPause c t) :=
  resumeIfActive_work hr c _ (updChannel_work _ _ (hr.channel _ _ _ (.inl rfl)) h)

theorem takeNextStep_work (c : Slot) (h : Work A s t) : Work A s (takeNextStep c t) := by
  unfold takeNextStep
  repeat' first
    | with_reducible assumption | with_reducible apply runChannel_work | split

theorem resendClaim_work (c : Slot) (h : Work A s t) : Work A s (resendClaim c t) := by
  unfold resendClaim
  repeat' first
    | with_reducible assumption | with_reducible apply sendClaim_work | with_reducible apply runNew_work | split

theorem takeRetry_work (c : Slot) (h : Work A s t) : Work A s (takeRetry c t) := by
  unfold takeRetry
  repeat' first
    | with_reducible assumption | with_reducible apply resendClaim_work | split

theorem retryAlreadyWaiting_work (c : Slot) (h : Work A s t) : Work A s (retryAlreadyWaiting c t) := by
  unfold retryAlreadyWaiting
  repeat' first
    | with_reducible assumption | with_reducible apply resendClaim_work | split

theorem judgeAwait_work (c : Slot) (p : Pose) (old : State) (h : Work A s t) : Work A s (judgeAwait c p old t) := by
  unfold judgeAwait
  repeat' first
    | with_reducible assumption | with_reducible apply completeStep_work | split

theorem offerAck_work (c : Slot) (code : Byte) (h : Work A s t) : Work A s (offerAck c code t) := by
  unfold offerAck
  repeat' first
    | with_reducible assumption | with_reducible apply completeStep_work | split

theorem expireWait_work (c : Slot) (h : Work A s t) : Work A s (expireWait c t) := by
  unfold expireWait
  dsimp only
  repeat' first
    | with_reducible assumption | with_reducible apply updChannel_work | with_reducible apply withdrawClaim_work
    | with_reducible apply endCurrent_work | with_reducible apply completeStep_work | with_reducible apply runNew_work
    | exact hr.channel _ _ _ (.inl rfl) | exact hr.channel _ _ _ (.inr rfl) | with_reducible exact hr.toArbitrates
    | split

theorem countTick_work (c : Slot) (h : Work A s t) : Work A s (countTick c t) := by
  unfold countTick
  dsimp only
  repeat' first
    | with_reducible assumption | with_reducible apply updChannel_work | with_reducible apply completeStep_work
    | exact hr.channel _ _ _ (.inl rfl) | exact hr.channel _ _ _ (.inr rfl) | split

theorem recordLoss_work (c : Slot) (x : Loss) (h : Work A s t) : Work A s (recordLoss c x t) := by
  unfold recordLoss
  repeat' first
    | with_reducible assumption | with_reducible apply updChannel_work | exact hr.channel _ _ _ (.inl rfl)
    | exact hr.channel _ _ _ (.inr rfl) | split

theorem takeLosses_work (c : Slot) (h : Work A s t) : Work A s (takeLosses c t) := by
  unfold takeLosses
  dsimp only
  repeat' first
    | with_reducible assumption | with_reducible apply forEach_work | with_reducible apply updChannel_work
    | with_reducible apply endCurrent_work | with_reducible apply runNew_work | with_reducible apply recordLoss_work
    | exact hr.channel _ _ _ (.inl rfl) | exact hr.channel _ _ _ (.inr rfl) | split | intro _

theorem expireCalm_work (c : Slot) (h : Work A s t) : Work A s (expireCalm c t) := by
  unfold expireCalm
  repeat' first
    | with_reducible assumption | with_reducible apply updChannel_work | with_reducible apply removeReason_work
    | exact hr.channel _ _ _ (.inl rfl) | exact hr.channel _ _ _ (.inr rfl) | split

end
/-! ## The Wind Monitor -/

/-- The samples, sensor state and streaks of two wind records are the same. -/
def Wind.SameSamples (w w' : Wind) : Prop :=
  w'.ring = w.ring ∧ w'.buckets = w.buckets ∧ w'.sensor = w.sensor ∧ w'.missing = w.missing ∧ w'.recovering = w.recovering

/-- The scope lets effective values, exit and marks of a wind record change from state s on: a calm-down timer starts on a LIVE
link alone (R112). -/
structure Scope.Values (A : Scope) (s : State) : Prop extends A.Runs s where
  values : ∀ c (w w' : Wind), w.SameSamples w' → w'.own = w.own → w'.effective = w.effective →
    w'.calmDown = w.calmDown ∨ w'.calmDown = none → A.wind c w w'
  timed : ∀ t, Work A s t → ∀ c x, (t.link c).state = .live →
    A.wind c (t.windOf c) { t.windOf c with calmDown := some x }

theorem released_live {s : State} {c : Slot} (h : s.released c = true) : (s.link c).state = .live := by
  simp only [State.released, Bool.and_eq_true, beq_iff_eq] at h
  exact h.1.1.2

section
variable {A : Scope} {s t : State} (hv : A.Values s)
include hv

/-- A change of a wind record that leaves samples, own and effective state and calm-down timer alone. -/
theorem updWind_values (c : Slot) (f : Wind → Wind) (hs : ∀ w : Wind, w.SameSamples (f w)) (ho : ∀ w, (f w).own = w.own)
    (he : ∀ w, (f w).effective = w.effective) (hc : ∀ w, (f w).calmDown = w.calmDown) (h : Work A s t) :
    Work A s (updWind c f t) :=
  updWind_work c f (hv.values _ _ _ (hs _) (ho _) (he _) (.inl (hc _))) h

/-- A change of the exit-pending mark alone. -/
theorem updWind_exitPending_work (c : Slot) (b : Bool) (h : Work A s t) :
    Work A s (updWind c (fun w => { w with exitPending := b }) t) :=
  updWind_values hv c _ (fun _ => ⟨rfl, rfl, rfl, rfl, rfl⟩) (fun _ => rfl) (fun _ => rfl) (fun _ => rfl) h

theorem recomputeValues_work (c : Slot) (h : Work A s t) : Work A s (recomputeValues c t) := by
  unfold recomputeValues
  split
  exact updWind_values hv c _ (fun _ => ⟨rfl, rfl, rfl, rfl, rfl⟩) (fun _ => rfl) (fun _ => rfl) (fun _ => rfl) h

theorem requestNewZone_work (c : Slot) (z : ZoneId) (h : Work A s t) : Work A s (requestNewZone c z t) := by
  unfold requestNewZone
  split
  · exact h
  · exact requestStorm_work hv.toArbitrates _ _ (addStormZones_work hv.toArbitrates _ _ _ h)

theorem buildStorm_work (c : Slot) (h : Work A s t) : Work A s (buildStorm c t) := by
  have ha := hv.toArbitrates
  unfold buildStorm
  dsimp only
  repeat' first
    | with_reducible assumption
    | with_reducible apply Work.mark
    | with_reducible apply forEach_work
    | with_reducible apply evictFrom_work
    | with_reducible apply settleZones_work
    | with_reducible apply stampStorm_work
    | with_reducible apply addStormZones_work
    | with_reducible apply unmarkStorm_work
    | with_reducible apply requestNewZone_work
    | split
    | intro _

theorem completeExit_work (c : Slot) (h : Work A s t) : Work A s (completeExit c t) :=
  .mark _ (updWind_exitPending_work hv c _
    (releaseStorm_work hv.toArbitrates c (withdrawStorm_work hv.toArbitrates c h)))

theorem beginExit_work (c : Slot) (h : Work A s t) : Work A s (beginExit c t) := by
  unfold beginExit
  split
  · exact updWind_exitPending_work hv c _ h
  · exact completeExit_work hv c h

theorem enterStorm_work (c : Slot) (h : Work A s t) : Work A s (enterStorm c t) := by
  unfold enterStorm
  split
  · exact updWind_exitPending_work hv c _ h
  · exact buildStorm_work hv c h

theorem refreshStorm_work (c : Slot) (h : Work A s t) : Work A s (refreshStorm c t) := by
  refine markIf_work _ _ (updWind_values hv c _ ?_ ?_ ?_ ?_ (updWind_values hv c _ ?_ ?_ ?_ ?_ h))
  all_goals first | exact fun _ => ⟨rfl, rfl, rfl, rfl, rfl⟩ | exact fun _ => rfl

theorem refreshAll_work (h : Work A s t) : Work A s (refreshAll t) := by
  unfold refreshAll
  exact forEach_work _ _ (fun _ _ k => refreshStorm_work hv _ k) h

theorem judgeRelease_work (c : Slot) (h : Work A s t) : Work A s (judgeRelease c t) := by
  refine updWind_work c _ ?_ h
  split
  · rename_i r
    exact hv.timed t h c _ (released_live r)
  · exact hv.values _ _ _ ⟨rfl, rfl, rfl, rfl, rfl⟩ rfl rfl (.inr rfl)

theorem examineBrake_work (c : Slot) (p : Pose) (h : Work A s t) : Work A s (examineBrake c p t) := by
  unfold examineBrake
  split
  · exact completeExit_work hv c h
  · exact h

end

/-- The scope lets own and effective wind states change too. -/
structure Scope.Evaluates (A : Scope) (s : State) : Prop extends A.Values s where
  levels : ∀ c (w w' : Wind), w.SameSamples w' → w'.calmDown = w.calmDown ∨ w'.calmDown = none → A.wind c w w'

section
variable {A : Scope} {s t : State} (hw : A.Evaluates s)
include hw

theorem recomputeEffective_work (c : Slot) (h : Work A s t) : Work A s (recomputeEffective c t) := by
  unfold recomputeEffective
  dsimp only
  split
  · exact h
  · have k : Work A s (updWind c (fun w => { w with effective := (t.windOf c).own.higher t.wind.declaration }) t) :=
      updWind_work c _ (hw.levels _ _ _ ⟨rfl, rfl, rfl, rfl, rfl⟩ (.inl rfl)) h
    split
    · exact k
    · have k := judgeChannelWind_work hw.toRuns c k
      refine gateAndRun_work hw.toRuns c ?_
      split
      · exact k
      · split
        · exact enterStorm_work hw.toValues c k
        · split
          · exact beginExit_work hw.toValues c k
          · exact k

theorem riseOwn_work (c : Slot) (h : Work A s t) : Work A s (riseOwn c t) := by
  unfold riseOwn
  dsimp only
  split
  · exact updWind_work c _ (hw.levels _ _ _ ⟨rfl, rfl, rfl, rfl, rfl⟩ (.inr rfl)) h
  · exact h

theorem evaluate_work (c : Slot) (h : Work A s t) : Work A s (evaluate c t) :=
  judgeChannelWind_work hw.toRuns c (recomputeEffective_work hw c (judgeRelease_work hw.toValues c (riseOwn_work hw c h)))

theorem evaluateCrane_work (c : Slot) (h : Work A s t) : Work A s (evaluateCrane c t) :=
  gateAndRun_work hw.toRuns c (evaluate_work hw c (recomputeValues_work hw.toValues c h))

theorem reevaluateBorrower_work (c : Slot) (h : Work A s t) : Work A s (reevaluateBorrower c t) := by
  unfold reevaluateBorrower
  split
  · exact evaluateCrane_work hw c h
  · exact h

theorem reevaluateBorrowers_work (skip : Option Slot) (h : Work A s t) : Work A s (reevaluateBorrowers skip t) := by
  unfold reevaluateBorrowers
  exact forEach_work _ _ (fun _ _ k => reevaluateBorrower_work hw _ k) h

/-- The Wind Monitor's work on a pose after the sample has been taken. -/
theorem windTakesPose_work (c : Slot) (p : Pose) (h : Work A s (updWind c (Wind.takesPose p) t)) :
    Work A s (windTakesPose c p t) :=
  reevaluateBorrowers_work hw _ (examineBrake_work hw.toValues c p (gateAndRun_work hw.toRuns c
    (evaluate_work hw c (recomputeValues_work hw.toValues c h))))

theorem windStale_work (c : Slot) (h : Work A s t) : Work A s (windStale c t) :=
  reevaluateBorrowers_work hw _ (updChannel_work c _ (hw.channel _ _ _ (.inr rfl))
    (updWind_work c _ (hw.levels _ _ _ ⟨rfl, rfl, rfl, rfl, rfl⟩ (.inr rfl)) h))

end

/-! ## Crane State and the Envelope Engine -/

/-- Stage 5's first act: the recovery check is recorded. -/
def noteCheck (c : Slot) (check : Option RecoveryCheck) (s : State) : State :=
  match check with
  | some k => updCrane c (fun x => { x with check := some k }) s
  | none => s

theorem judgePresent_intruded (c : Slot) (join : Bool) (cell : CellPos) (check : Option RecoveryCheck) (s : State) :
    judgePresent c join (some cell) check s =
      match ((raise c .intrusion (some cell) (noteCheck c check s)).crane c).fault with
      | some f =>
        if f.unjoined && !join then
          conditionHolds c .linkLost .computation (raise c .intrusion (some cell) (noteCheck c check s))
        else raise c .intrusion (some cell) (noteCheck c check s)
      | none => raise c .intrusion (some cell) (noteCheck c check s) := by
  cases check <;> rfl

theorem judgePresent_clear (c : Slot) (check : Option RecoveryCheck) (s : State) :
    judgePresent c false none check s =
      match check with
      | some .clear => conditionHolds c .intrusion .computation (conditionHolds c .linkLost .computation (noteCheck c check s))
      | some (.cell _) => conditionCeases c .intrusion (conditionHolds c .linkLost .computation (noteCheck c check s))
      | none => conditionHolds c .linkLost .computation (noteCheck c check s) := by
  cases check <;> rfl

theorem judgePresent_joins (c : Slot) (check : Option RecoveryCheck) (s : State) :
    judgePresent c true none check s = updCrane c (fun x => { x with state := .inService }) (noteCheck c check s) := by
  cases check <;> rfl

theorem engagedBy_eStop {cause : FaultCause} (other : cause ≠ .eStop) (x : CraneStatus) :
    (x.engagedBy cause).eStop = x.eStop := by
  unfold CraneStatus.engagedBy
  rw [beq_eq_false_iff_ne.mpr other, Bool.or_false]

/-- The scope lets Crane State and the engine act on crane c from state s on, on which a link-made frame may be placed. Of a
crane's status only the e-stop field may be held; a cause E_STOP asks leave to change it (R166). -/
structure Scope.Judges (A : Scope) (s : State) (c : Slot) : Prop extends A.Runs s where
  status : ∀ x x' : CraneStatus, x'.eStop = x.eStop → A.status c x x'
  recovers : ∀ e b, A.engine c e { e with recovery := b }
  transit : ∀ e l, A.engine c e { e with transit := l }
  frame : ∀ l g f, A.link c l { l with generation := g, slot := some ⟨g, f⟩, inForce := some ⟨false, f.mode⟩ }

section
variable {A : Scope} {s t : State} {c : Slot} (hj : A.Judges s c)
include hj

theorem setRecovery_work (on : Bool) (h : Work A s t) : Work A s (setRecovery c on t) := by
  unfold setRecovery
  split
  · exact h
  · exact .mark _ (.status c _ (hj.status _ _ rfl) (updEngine_work c _ (hj.recovers _ _) h))

/-- A change of the crane's record that leaves the e-stop field alone. -/
theorem crane_work (f : CraneStatus → CraneStatus) (kept : ∀ x, (f x).eStop = x.eStop) (h : Work A s t) :
    Work A s (updCrane c f t) :=
  updCrane_work c f (hj.status _ _ (kept _)) h

/-- A change of the crane's record in which a cause engages the e-stop field. -/
theorem engaged_ok {cause : FaultCause} (leave : cause = .eStop → ∀ x x', A.status c x x') (x x' : CraneStatus)
    (e : x'.eStop = (x.engagedBy cause).eStop) : A.status c x x' := by
  by_cases stop : cause = .eStop
  · exact leave stop x x'
  · exact hj.status x x' (e.trans (engagedBy_eStop stop x))

theorem firstFault_work (cause : FaultCause) (cell : Option CellPos) (leave : cause = .eStop → ∀ x x', A.status c x x')
    (h : Work A s t) : Work A s (firstFault c cause cell t) :=
  .mark _ (withdrawCrane_work hj.toArbitrates c hj.transit (addReason_work hj.toRuns c _
    (modCrane_work c _ (engaged_ok hj leave _ _ rfl) h)))

theorem escalate_work (cause : FaultCause) (cell : Option CellPos) (h : Work A s t) : Work A s (escalate c cause cell t) :=
  .mark _ (withdrawCrane_work hj.toArbitrates c hj.transit (lockoutBookings_work hj.toRuns c (setRecovery_work hj false
    (modCrane_work c _ (hj.status _ _ rfl) h))))

theorem setCondition_work (met : Bool) (h : Work A s t) : Work A s (setCondition c met t) :=
  crane_work hj _ (fun _ => rfl) h

theorem raiseInFault_work (f : ActiveFault) (cause : FaultCause) (cell : Option CellPos) (h : Work A s t) :
    Work A s (raiseInFault c f cause cell t) := by
  unfold raiseInFault
  repeat' split
  · exact h
  · exact setCondition_work hj _ h
  · exact h
  · exact escalate_work hj _ _ h
  · exact crane_work hj _ (fun _ => rfl) h

theorem raise_work (cause : FaultCause) (cell : Option CellPos) (leave : cause = .eStop → ∀ x x', A.status c x x')
    (h : Work A s t) : Work A s (raise c cause cell t) := by
  unfold raise
  split
  · exact h
  · exact updCrane_work c _ (engaged_ok hj leave _ _ rfl) h
  · split
    · refine raiseInFault_work hj _ _ _ ?_
      split
      · exact updCrane_work c _ (engaged_ok hj leave _ _ rfl) h
      · exact h
    · exact firstFault_work hj _ _ leave h
  all_goals exact firstFault_work hj _ _ leave h

theorem clearTheFault_work (way : EndWay) (place : ClearPlace) (h : Work A s t) :
    Work A s (clearTheFault c way place t) := by
  unfold clearTheFault
  dsimp only
  generalize (!t.operate || _) = joining
  generalize hu : mark (.crane c) _ = u
  have k : Work A s u := by
    rw [← hu]
    exact .mark _ (removeReason_work hj.toRuns c _ (setRecovery_work hj false (modCrane_work c _ (hj.status _ _ rfl) h)))
  repeat' split
  · exact placeLinkMade_work hj.toRuns c hj.frame k
  · exact k
  · exact gateAndRun_work hj.toRuns c k
  · exact k

theorem judgeAutoClear_work (place : ClearPlace) (h : Work A s t) : Work A s (judgeAutoClear c place t) := by
  unfold judgeAutoClear
  repeat' split
  all_goals first | exact h | exact clearTheFault_work hj _ _ h

theorem conditionHolds_work (cause : FaultCause) (place : ClearPlace) (h : Work A s t) :
    Work A s (conditionHolds c cause place t) := by
  unfold conditionHolds
  split
  · exact judgeAutoClear_work hj _ (setCondition_work hj _ h)
  · exact h

theorem conditionCeases_work (cause : FaultCause) (h : Work A s t) : Work A s (conditionCeases c cause t) := by
  unfold conditionCeases
  split
  · exact setCondition_work hj _ h
  · exact h

theorem craneTakesPose_work (p : Pose) (flagged : Bool) (leave : ∀ x x', A.status c x x') (h : Work A s t) :
    Work A s (craneTakesPose c p flagged t) := by
  unfold craneTakesPose
  dsimp only
  generalize hu : (if p.emergencyStop = true then _ else _) = u
  have k : Work A s u := by
    rw [← hu]
    split
    · exact raise_work hj _ _ (fun _ => leave) h
    · exact updCrane_work c _ (leave _ _) h
  repeat' split
  all_goals first
    | exact judgeAutoClear_work hj _ (setCondition_work hj _ k)
    | exact judgeAutoClear_work hj _ k
    | exact k

theorem noteCheck_work (check : Option RecoveryCheck) (h : Work A s t) : Work A s (noteCheck c check t) := by
  cases check
  · exact h
  · exact crane_work hj (fun x => { x with check := some _ }) (fun _ => rfl) h

theorem judgePresent_work (join : Bool) (intrusion : Option CellPos) (check : Option RecoveryCheck) (h : Work A s t) :
    Work A s (judgePresent c join intrusion check t) := by
  have k := noteCheck_work hj check h
  cases intrusion with
  | some cell =>
    have r := raise_work hj .intrusion (some cell) (fun e => FaultCause.noConfusion e) k
    rw [judgePresent_intruded]
    repeat' split
    · exact conditionHolds_work hj _ _ r
    · exact r
    · exact r
  | none =>
    cases join
    · have held := conditionHolds_work hj .linkLost .computation k
      rw [judgePresent_clear]
      split
      · exact conditionHolds_work hj _ _ held
      · exact conditionCeases_work hj _ held
      · exact held
    · rw [judgePresent_joins]
      exact crane_work hj _ (fun _ => rfl) k

theorem judgeChart_work (overload : Bool) (h : Work A s t) : Work A s (judgeChart c overload t) := by
  unfold judgeChart
  split
  · exact raise_work hj _ _ (fun e => FaultCause.noConfusion e) h
  · exact conditionHolds_work hj _ _ h

theorem concludeComputation_work (he : ∀ e e', A.engine c e e')
    (hf : ∀ l g f, A.link c l { l with generation := g, slot := some ⟨g, f⟩, inForce := some ⟨true, f.mode⟩ })
    (before : Engine) (k : Computation) (h : Work A s t) : Work A s (concludeComputation c before k t) :=
  markIf_work _ _ (updEngine_work c _ (he _ _) (placeFrame_work hj.toRuns c _ _ (fun l g => hf l g _) h))

theorem compute_work (he : ∀ e e', A.engine c e e')
    (hf : ∀ l g f, A.link c l { l with generation := g, slot := some ⟨g, f⟩, inForce := some ⟨true, f.mode⟩ })
    (r : CraneRecord) (p : Pose) (h : Work A s t) : Work A s (compute c r p t) :=
  concludeComputation_work hj he hf _ _ (transitHandOver_work hj.toArbitrates c _ (fun _ => he _ _)
    (judgeChart_work hj _ (judgePresent_work hj _ _ _ (handOver_work hj.toArbitrates c _ _ _ (fun _ => he _ _)
      (updEngine_work c _ (he _ _) h)))))

end
end Sys2Proof.Machine
end

section
/-! SUPPORT and the statement about links and effective wind states. A predicate over links and wind records that the block
events, the requests, the starts and the end of an event keep is kept by every step (`StepKeeps.step`); the links are kept
by the `Quiet` lemmas of the blocks, and the effective wind states by the `Work` lemmas and R116. -/

namespace Sys2Proof.Machine

/-! ## What a step is made of -/

/-- The work of a command that is an event of a cab line or of the part's own. -/
def blockWork? : Instr → Option (State → State)
  | .poseReport c pose => some (takePose c pose)
  | .cabBadFrame c bytes => some (takeCabBytes c bytes)
  | .estop c => some (takeEStop c)
  | .ackMessage c code => some (takeAck c code)
  | .cabTxDone c => some (cabTxFinished c)
  | .limitRepeat c => some (repeatLimit c)
  | .linkStale c => some (becomeStale c)
  | .linkLost c => some (becomeLost c)
  | .minuteAdvance => some advanceMinute
  | .holdTick => some endTick
  | .holdComplete c => some fun s => if s.holdDue c then countTick c s else s
  | .dwellExpiry z => some (expireDwell z)
  | .bucketClose => some closeBuckets
  | .calmDownExpiry c => some (expireCalmDown c)
  | .stormAfterHoldExpiry c => some (expireStormAfterHold c)
  | .calmTimerExpiry c => some (expireCalm c)
  | .waitLimitExpiry c => some (expireWait c)
  | .claimLost c => some (takeLosses c)
  | .claimRetry c => some (takeRetry c)
  | .nextStep c => some (takeNextStep c)
  | _ => none

theorem exec_block {i : Instr} {f : State → State} (h : blockWork? i = some f) (s : State) : exec i s = event f s := by
  cases i <;> simp only [blockWork?, Option.some.injEq, reduceCtorEq] at h
  all_goals subst h; rfl

theorem exec_request {i : Instr} {tag : Byte} {r : Request} (h : i.request? = some (tag, r)) (s : State) :
    exec i s = submit tag r s := by
  cases i <;> simp only [Instr.request?, Option.some.injEq, Prod.mk.injEq, reduceCtorEq] at h
  all_goals obtain ⟨rfl, rfl⟩ := h; rfl

theorem exec_powerOn (s : State) :
    exec .powerOn s = .next (start .powerOn (lineHigh { s with events := s.events + 1 })) := rfl

theorem interruptWrite_links (m : WriteMoment) (s : State) : (interruptWrite m s).links = s.links := by
  unfold interruptWrite
  split <;> rfl

theorem interruptWrite_wind (m : WriteMoment) (s : State) : (interruptWrite m s).wind = s.wind := by
  unfold interruptWrite
  split <;> rfl

theorem exec_lossOfPower {s : State} {m : WriteMoment} (on : s.power.on = true) :
    exec (.lossOfPower m) s =
      .next { interruptWrite m s with power := { s.power with on := false }, events := s.events + 1 } := if_pos on

theorem exec_lossOfPower_off {s : State} {m : WriteMoment} (off : ¬ s.power.on = true) : exec (.lossOfPower m) s = .next s :=
  if_neg off

/-- A predicate over links and wind records that everything a step is made of keeps. -/
structure StepKeeps (P : State → Prop) : Prop where
  sees : ∀ s t, t.links = s.links → t.wind = s.wind → P s → P t
  starts : ∀ cause s, P (start cause s)
  serves : ∀ r s, P s → P (dispatch r s).1
  refreshes : ∀ s, P s → P (refreshAll s)
  exits : ∀ s, P s → P (completeSurveyExit s)
  kicks : ∀ c s, P s → P (kickCab c s)
  blocks : ∀ i f, blockWork? i = some f → ∀ s, P s → P (f s)

theorem forEach_keeps {P : State → Prop} {s : State} {α : Type} (l : List α) {f : α → State → State} (hf : ∀ a u, P u → P (f a u)) (h : P s) :
    P (forEach l f s) := by
  unfold forEach
  induction l generalizing s with
  | nil => exact h
  | cons a l ih => exact ih (hf a s h)

section
variable {P : State → Prop} (k : StepKeeps P) {s : State}
include k

theorem StepKeeps.addError (e : ErrorFlag) (h : P s) : P (addError e s) := k.sees s _ (by simp) (by simp) h

theorem StepKeeps.beginReply (h : P s) : P (beginReply s) := by
  unfold Machine.beginReply
  repeat' split
  · exact h
  · exact k.sees s _ rfl rfl h
  · exact h

theorem StepKeeps.placeReply (tag : Byte) (kind : Nat) (a : Answer) (h : P s) : P (placeReply tag kind a s) :=
  k.beginReply (k.sees s _ rfl rfl h)

theorem StepKeeps.conclude (tag : Byte) (kind : Nat) (r : State × Option Answer) (h : P r.1) : P (conclude tag kind r) := by
  unfold Machine.conclude
  split
  · exact k.placeReply _ _ _ h
  · exact k.sees r.1 _ rfl rfl h

theorem StepKeeps.takeRequest (q : QueuedRequest) (h : P s) : P (takeRequest q s) := by
  unfold Machine.takeRequest
  split
  · exact k.conclude _ _ _ (k.serves _ _ h)
  · split
    · exact k.placeReply _ _ _ (k.addError _ h)
    · split
      · exact k.placeReply _ _ _ h
      · exact k.placeReply _ _ _ h
      · exact k.conclude _ _ _ (k.serves _ _ h)

theorem StepKeeps.pump (n : Nat) (h : P s) : P (pump n s) := by
  induction n generalizing s with
  | zero => exact h
  | succ n ih =>
    unfold Machine.pump
    repeat' split
    · exact h
    · exact ih (k.refreshes _ (k.takeRequest _ (k.sees s _ rfl rfl h)))
    · exact h

theorem StepKeeps.beginReport (h : P s) : P (beginReport s) := by
  unfold Machine.beginReport
  dsimp only
  repeat' split
  all_goals first | exact h | exact k.sees s _ rfl rfl h

theorem StepKeeps.finish (h : P s) : P (finish s) :=
  k.beginReport (k.pump _ (k.beginReply (k.refreshes _ h)))

theorem StepKeeps.event {f : State → State} (hf : ∀ u, P u → P (f u)) {t : State} (h : P s) (e : event f s = .next t) :
    P t := by
  unfold Machine.event at e
  split at e
  · rw [← Host.Outcome.next.inj e]
    exact k.finish (hf _ (k.sees s _ rfl rfl h))
  · rw [← Host.Outcome.next.inj e]
    exact h

theorem StepKeeps.offer (q : QueuedRequest) (h : P s) : P (offer q s) := by
  unfold Machine.offer
  split
  · exact k.sees s _ rfl rfl h
  · exact k.addError _ h

theorem StepKeeps.discardFrame (r : Receiver) (h : P s) : P (discardFrame r s) := k.addError _ (k.sees s _ rfl rfl h)

theorem StepKeeps.putReceiver (r : Receiver) (h : P s) : P (s.putReceiver r) := k.sees s _ rfl rfl h

theorem StepKeeps.completeFrame (bytes : List Byte) (h : P s) : P (completeFrame bytes s) := by
  unfold Machine.completeFrame
  dsimp only
  repeat' split
  · exact k.offer _ (k.putReceiver _ h)
  · exact k.discardFrame _ h
  · exact k.discardFrame _ h

theorem StepKeeps.frameByte (bytes : List Byte) (b : Byte) (h : P s) : P (frameByte bytes b s) := by
  unfold Machine.frameByte
  dsimp only
  repeat' split
  · exact k.putReceiver _ h
  · exact k.discardFrame _ h
  · exact k.putReceiver _ h
  · exact k.completeFrame _ h

theorem StepKeeps.receiveByte (b : Byte) (h : P s) : P (receiveByte b s) := by
  unfold Machine.receiveByte
  repeat' split
  · exact k.putReceiver _ h
  · exact h
  · exact k.discardFrame _ h
  · exact k.frameByte _ _ h
  · exact k.putReceiver _ h
  · exact k.frameByte _ _ h

theorem StepKeeps.receiveBytes (bytes : List Byte) (h : P s) : P (receiveBytes bytes s) := by
  unfold Machine.receiveBytes
  exact forEach_keeps _ (fun b _ h => k.pump _ (k.receiveByte b h)) h

theorem StepKeeps.writeDone (ok : Bool) (h : P s) : P (writeDone ok s) := by
  unfold Machine.writeDone
  dsimp only
  repeat' split
  · exact h
  · exact k.placeReply _ _ _ (k.exits _ (k.sees s _ rfl rfl h))
  · exact k.placeReply _ _ _ (k.addError _ (k.sees s _ rfl rfl h))

theorem StepKeeps.dropFrame (h : P s) : P (dropFrame s) := by
  unfold Machine.dropFrame
  split
  · exact k.discardFrame _ h
  · exact h

theorem StepKeeps.siteTxFinished (h : P s) : P (siteTxFinished s) := by
  unfold Machine.siteTxFinished
  split
  · exact h
  · exact k.sees s _ rfl rfl h

/-- Every command keeps the predicate. -/
theorem StepKeeps.exec (i : Instr) {t : State} (h : P s) (e : exec i s = .next t) : P t := by
  match hb : blockWork? i, hq : i.request? with
  | some f, _ => exact k.event (k.blocks i f hb) h (exec_block hb s ▸ e)
  | none, some (tag, r) => exact k.event (fun _ => k.offer _) h (exec_request hq s ▸ e)
  | none, none =>
    cases i <;> try simp [blockWork?, Instr.request?] at hb hq
    case powerOn =>
      rw [exec_powerOn, Host.Outcome.next.injEq] at e
      rw [← e]
      exact k.starts _ _
    case resetLine m =>
      refine k.event (f := fun s => if s.lowTooShort then lineIgnored s
        else start .resetLine (lineHigh (interruptWrite m s))) (fun u hu => ?_) h e
      split
      · exact forEach_keeps _ k.kicks (k.sees u _ rfl rfl hu)
      · exact k.starts _ _
    case siteReset =>
      refine k.event (f := fun s => if s.port.resetProgress == .due then start .resetRequest s else s)
        (fun u hu => ?_) h e
      split
      · exact k.starts _ _
      · exact hu
    case siteFrame bytes => exact k.event (fun _ => k.receiveBytes bytes) h e
    case siteRxTimeout =>
      refine k.event (f := fun s => if s.rxDue then Machine.dropFrame s else s) (fun u hu => ?_) h e
      split
      · exact k.dropFrame hu
      · exact hu
    case siteTxDone => exact k.event (fun _ => k.siteTxFinished) h e
    case unknownRequest => exact k.event (fun _ => k.offer _) h e
    case nvWriteDone ok => exact k.event (fun _ => k.writeDone ok) h e
    case lossOfPower m =>
      by_cases on : s.power.on = true
      · rw [exec_lossOfPower on, Host.Outcome.next.injEq] at e
        rw [← e]
        exact k.sees s _ (interruptWrite_links m s) (interruptWrite_wind m s) h
      · rw [exec_lossOfPower_off on, Host.Outcome.next.injEq] at e
        rw [← e]
        exact h
    case resetLineLow =>
      exact k.event (f := fun s => { s with power := { s.power with lowFor := some (s.power.lowFor.getD 0) } })
        (fun u hu => k.sees u _ rfl rfl hu) h e
    case badStopBit => exact k.event (fun _ => k.dropFrame) h e

/-- Every step keeps the predicate. -/
theorem StepKeeps.step {t : State} (h : P s) (e : step s = .next t) : P t := by
  unfold Machine.step at e
  split at e
  · rename_i i rest _
    exact k.exec (s := { s with pending := rest }) i (k.sees s _ rfl rfl h) e
  · rw [← Host.Outcome.next.inj e]
    unfold idle
    repeat' split
    · exact h
    · exact k.sees s _ rfl rfl h
    · exact k.sees s _ rfl rfl h

end

/-! ## The links -/

/-- Every link is well kept. -/
def State.LinksWellKept (s : State) : Prop := ∀ c, (s.link c).WellKept

theorem Link.atReset_wellKept (b : Bool) : (Link.atReset b).WellKept := by
  refine ⟨Nat.zero_le _, Nat.zero_le _, ?_, ?_⟩
  · show 0 < 256
    decide
  · show 0 < 65536
    decide

theorem started_links (cause : StartCause) (s : State) (c : Slot) :
    (s.started cause).link c = Link.atReset (((Geometry.started s.geo.image).slots.get c).record.isSome) := by
  simp [State.started, State.link, Vector.get_eq_getElem]

theorem start_linksWellKept (cause : StartCause) (s : State) : (start cause s).LinksWellKept := by
  refine Quiet.links (s := s.started cause) ?_ fun c => ?_
  · unfold start
    exact forEach_quiet _ _ (fun _ _ k => placeLinkMade_quiet _ k) (.refl _)
  · rw [started_links]
    exact Link.atReset_wellKept _

/-- The work of every block event keeps the links well kept. -/
theorem blockWork_linksWellKept {i : Instr} {f : State → State} (h : blockWork? i = some f) (s : State)
    (k : s.LinksWellKept) : (f s).LinksWellKept := by
  have q := Quiet.refl s
  cases i <;> simp only [blockWork?, Option.some.injEq, reduceCtorEq] at h
  all_goals subst h
  case poseReport c p => exact (takePose_quiet c p q).links k
  case cabBadFrame c b =>
    unfold takeCabBytes
    repeat' split
    · exact k
    · intro d; simpa [State.link] using k d
    · exact (takePose_quiet c _ q).links k
    · exact (takeAck_quiet c _ q).links k
    · exact (takeEStop_quiet c q).links k
  case estop c => exact (takeEStop_quiet c q).links k
  case ackMessage c code => exact (takeAck_quiet c code q).links k
  case cabTxDone c => exact (cabTxFinished_quiet c q).links k
  case limitRepeat c => exact (repeatLimit_quiet c q).links k
  case linkStale c => exact (becomeStale_quiet c q).links k
  case linkLost c => exact (becomeLost_quiet c q).links k
  case minuteAdvance =>
    unfold advanceMinute
    dsimp only
    repeat' split
    · exact k
    · exact (deliverMinute_quiet _ _ (.refl { s with clock := _ })).links k
    · exact k
    · exact k
  case holdTick =>
    unfold endTick
    split
    · exact (forEach_quiet _ _ (fun _ _ h => countTick_quiet _ h) (.refl { s with clock := _ })).links k
    · exact k
  case holdComplete c =>
    dsimp only
    split
    · exact (countTick_quiet c q).links k
    · exact k
  case dwellExpiry z => exact (expireDwell_quiet z q).links k
  case bucketClose => exact (closeBuckets_quiet q).links k
  case calmDownExpiry c => exact (expireCalmDown_quiet c q).links k
  case stormAfterHoldExpiry c => exact (expireStormAfterHold_quiet c q).links k
  case calmTimerExpiry c => exact (expireCalm_quiet c q).links k
  case waitLimitExpiry c => exact (expireWait_quiet c q).links k
  case claimLost c => exact (takeLosses_quiet c q).links k
  case claimRetry c => exact (takeRetry_quiet c q).links k
  case nextStep c => exact (takeNextStep_quiet c q).links k

theorem linksWellKept_stepKeeps : StepKeeps State.LinksWellKept where
  sees s t e _ h c := by unfold State.link; rw [e]; exact h c
  starts := start_linksWellKept
  serves r s h := (dispatch_served r s).links h
  refreshes s h := (refreshAll_refreshed s).quiet.links h
  exits s h := (completeSurveyExit_served s).links h
  kicks c s h := (kickCab_quiet c (.refl s)).links h
  blocks _ _ e s h := blockWork_linksWellKept e s h

/-! ## The effective wind states -/

/-- The effective wind state of crane c is the higher of its own state and the declaration (R116). -/
def State.WindKeptAt (s : State) (c : Slot) : Prop := (s.windOf c).effective = (s.windOf c).own.higher s.wind.declaration

/-- The scope of all work that leaves own and effective wind states alone. -/
def Scope.windSteady : Scope where
  arb := True
  bookings := True
  engine _ _ _ := True
  channel _ _ _ := True
  link _ _ _ := True
  wind _ w w' := w'.own = w.own ∧ w'.effective = w.effective
  status _ _ _ := True

theorem windSteady_arbitrates : Scope.windSteady.Arbitrates := ⟨trivial, fun _ _ _ => trivial, fun _ _ _ _ => trivial⟩

theorem windSteady_runs (s : State) : Scope.windSteady.Runs s :=
  ⟨windSteady_arbitrates, trivial, fun _ _ _ _ => trivial, fun _ _ _ _ _ => trivial, fun _ _ _ _ => trivial⟩

theorem windSteady_values (s : State) : Scope.windSteady.Values s :=
  ⟨windSteady_runs s, fun _ _ _ _ o e _ => ⟨o, e⟩, fun _ _ _ _ _ => ⟨rfl, rfl⟩⟩

theorem windSteady_judges (s : State) (c : Slot) : Scope.windSteady.Judges s c :=
  ⟨windSteady_runs s, fun _ _ _ => trivial, fun _ _ => trivial, fun _ _ => trivial, fun _ _ _ => trivial⟩

section
variable {s t : State} {c d : Slot}

theorem Work.windKeptAt (h : Work .windSteady s t) (k : s.WindKeptAt c) : t.WindKeptAt c := by
  have own := Work.wind_keeps (A := .windSteady) (fun w => w.own) c (fun _ _ ok => ok.1) h
  have effective := Work.wind_keeps (A := .windSteady) (fun w => w.effective) c (fun _ _ ok => ok.2) h
  unfold State.WindKeptAt
  rw [own, effective, h.declaration]
  exact k

theorem Work.windWellKept (h : Work .windSteady s t) (k : s.WindWellKept) : t.WindWellKept := fun c => h.windKeptAt (k c)

theorem updWind_windOf (c d : Slot) (f : Wind → Wind) (s : State) :
    (updWind c f s).windOf d = if c = d then f (s.windOf c) else s.windOf d := by
  rw [← State.putWind_windOf]
  unfold updWind State.windOf
  rw [markIf_wind]

@[simp] theorem updWind_declaration (c : Slot) (f : Wind → Wind) (s : State) :
    (updWind c f s).wind.declaration = s.wind.declaration := by
  unfold updWind
  rw [markIf_wind, State.putWind_declaration]

theorem updWind_windKeptAt_other (c : Slot) (f : Wind → Wind) (h : c ≠ d) (k : s.WindKeptAt d) :
    (updWind c f s).WindKeptAt d := by
  unfold State.WindKeptAt
  rw [updWind_windOf, if_neg h, updWind_declaration]
  exact k

/-- Recomputing the effective state of crane c leaves it well kept, whatever it was. -/
theorem recomputeEffective_windKeptAt (c : Slot) (k : c = d ∨ s.WindKeptAt d) : (recomputeEffective c s).WindKeptAt d := by
  unfold recomputeEffective
  dsimp only
  split
  · rename_i same
    rcases k with rfl | k
    · exact (beq_iff_eq.mp same).symm
    · exact k
  · have set : (updWind c (fun w => { w with effective := (s.windOf c).own.higher s.wind.declaration }) s).WindKeptAt d := by
      by_cases e : c = d
      · subst e
        unfold State.WindKeptAt
        rw [updWind_windOf, if_pos rfl, updWind_declaration]
      · exact updWind_windKeptAt_other c _ e (k.resolve_left e)
    generalize updWind c _ s = u at set ⊢
    split
    · exact set
    · refine Work.windKeptAt ?_ set
      have h := judgeChannelWind_work (windSteady_runs u) c .refl
      refine gateAndRun_work (windSteady_runs u) c ?_
      split
      · exact h
      · split
        · exact enterStorm_work (windSteady_values u) c h
        · split
          · exact beginExit_work (windSteady_values u) c h
          · exact h

theorem recomputeEffective_windWellKept (c : Slot) (k : ∀ d, c = d ∨ s.WindKeptAt d) :
    (recomputeEffective c s).WindWellKept := fun d => recomputeEffective_windKeptAt c (k d)

/-- Any change of a wind record followed by the recomputation of its effective state. -/
theorem updWind_recomputed (c : Slot) (f : Wind → Wind) (k : s.WindWellKept) :
    (recomputeEffective c (updWind c f s)).WindWellKept :=
  recomputeEffective_windWellKept c fun d => or_iff_not_imp_left.mpr fun e => updWind_windKeptAt_other c f e (k d)

theorem evaluate_windWellKept (c : Slot) (k : s.WindWellKept) : (evaluate c s).WindWellKept := by
  refine Work.windWellKept (judgeChannelWind_work (windSteady_runs _) c .refl) ?_
  refine recomputeEffective_windWellKept c fun d => or_iff_not_imp_left.mpr fun e => ?_
  refine Work.windKeptAt (judgeRelease_work (windSteady_values _) c .refl) ?_
  unfold riseOwn
  dsimp only
  split
  · exact updWind_windKeptAt_other c _ e (k d)
  · exact k d

theorem gateAndRun_windWellKept (c : Slot) (k : s.WindWellKept) : (gateAndRun c s).WindWellKept :=
  Work.windWellKept (gateAndRun_work (windSteady_runs s) c .refl) k

theorem recomputeValues_windWellKept (c : Slot) (k : s.WindWellKept) : (recomputeValues c s).WindWellKept :=
  Work.windWellKept (recomputeValues_work (windSteady_values s) c .refl) k

theorem evaluateCrane_windWellKept (c : Slot) (k : s.WindWellKept) : (evaluateCrane c s).WindWellKept :=
  gateAndRun_windWellKept c (evaluate_windWellKept c (recomputeValues_windWellKept c k))

theorem reevaluateBorrowers_windWellKept (skip : Option Slot) (k : s.WindWellKept) :
    (reevaluateBorrowers skip s).WindWellKept := by
  unfold reevaluateBorrowers
  refine forEach_keeps _ (fun c u h => ?_) k
  unfold reevaluateBorrower
  split
  · exact evaluateCrane_windWellKept c h
  · exact h

/-- A wind record change that leaves own and effective state alone. -/
theorem updWind_windWellKept (c : Slot) (f : Wind → Wind) (ho : ∀ w, (f w).own = w.own)
    (he : ∀ w, (f w).effective = w.effective) (k : s.WindWellKept) : (updWind c f s).WindWellKept :=
  Work.windWellKept (updWind_work c f ⟨ho _, he _⟩ .refl) k

theorem Wind.takesPose_levels (p : Pose) (w : Wind) :
    (w.takesPose p).own = w.own ∧ (w.takesPose p).effective = w.effective := by
  unfold Wind.takesPose Wind.sensorAfter Wind.sensorFails Wind.withSample
  dsimp only
  repeat' split
  all_goals exact ⟨rfl, rfl⟩

theorem windTakesPose_windWellKept (c : Slot) (p : Pose) (k : s.WindWellKept) : (windTakesPose c p s).WindWellKept :=
  reevaluateBorrowers_windWellKept _ (Work.windWellKept (examineBrake_work (windSteady_values _) c p .refl)
    (gateAndRun_windWellKept c (evaluate_windWellKept c (recomputeValues_windWellKept c
      (updWind_windWellKept c _ (fun w => (w.takesPose_levels p).1) (fun w => (w.takesPose_levels p).2) k)))))

theorem expireCalmDown_windWellKept (c : Slot) (k : s.WindWellKept) : (expireCalmDown c s).WindWellKept := by
  unfold expireCalmDown
  split
  · exact updWind_recomputed c _ k
  · exact k

theorem expireStormAfterHold_windWellKept (c : Slot) (k : s.WindWellKept) : (expireStormAfterHold c s).WindWellKept := by
  unfold expireStormAfterHold
  split
  · exact updWind_recomputed c _ k
  · exact k

theorem profileTimers_windWellKept (old : SiteProfile) (k : s.WindWellKept) : (profileTimers old s).WindWellKept := by
  unfold profileTimers
  exact forEach_keeps _ (fun c _ h => expireStormAfterHold_windWellKept c (expireCalmDown_windWellKept c h))
    (forEach_keeps _ (fun c _ h => updWind_windWellKept c _ (fun _ => rfl) (fun _ => rfl) h) k)

theorem closeBuckets_windWellKept (k : s.WindWellKept) : (closeBuckets s).WindWellKept := by
  unfold closeBuckets
  split
  · exact forEach_keeps _ (fun c _ h => evaluateCrane_windWellKept c h)
      (forEach_keeps _ (fun c _ h => updWind_windWellKept c _ (fun _ => rfl) (fun _ => rfl) h) k)
  · exact k

/-- After the effective states of a list of cranes are recomputed, those of the list are well kept, and so are those that
were. -/
theorem recomputeAll_windKeptAt (l : List Slot) (k : d ∈ l ∨ s.WindKeptAt d) :
    (forEach l recomputeEffective s).WindKeptAt d := by
  unfold forEach
  induction l generalizing s with
  | nil => exact k.resolve_left (List.not_mem_nil)
  | cons c l ih =>
    refine ih ?_
    by_cases m : d ∈ l
    · exact .inl m
    · refine .inr (recomputeEffective_windKeptAt c ?_)
      rcases k with k | k
      · exact .inl ((List.mem_cons.mp k).resolve_right m).symm
      · exact .inr k

theorem mem_allSlots (c : Slot) : c ∈ allSlots :=
  List.mem_map.mpr ⟨c.val, List.mem_range.mpr c.isLt, by simp⟩

theorem recomputeAll_windWellKept (s : State) : (forEach allSlots recomputeEffective s).WindWellKept :=
  fun d => recomputeAll_windKeptAt allSlots (.inl (mem_allSlots d))

theorem declare_windWellKept (level : WindLevel) (k : s.WindWellKept) : (declare level s).WindWellKept := by
  unfold declare
  dsimp only
  split
  · exact k
  · exact recomputeAll_windWellKept _

theorem clearWind_windWellKept (c : Slot) (k : s.WindWellKept) : (clearWind c s).WindWellKept := by
  intro d
  by_cases e : c = d
  · subst e
    unfold clearWind
    rw [updWind_windOf, if_pos rfl, updWind_declaration]
    cases s.wind.declaration <;> rfl
  · exact updWind_windKeptAt_other c _ e (k d)

theorem windStale_windWellKept (c : Slot) (k : s.WindWellKept) : (windStale c s).WindWellKept :=
  reevaluateBorrowers_windWellKept _ (Work.windWellKept (updChannel_work c _ trivial .refl)
    (updWind_windWellKept c _ (fun _ => rfl) (fun _ => rfl) k))

/-- What comes after stages 1 and 2 of an accepted pose is work that leaves the levels alone. -/
theorem poseStage3_steady (c : Slot) (r : CraneRecord) (p : Pose) (s : State) : Work .windSteady s (poseStage3 c r p s) := by
  unfold poseStage3
  split
  · split
    · exact .refl
    · exact judgeAwait_work (windSteady_runs s) c p _ (retryAlreadyWaiting_work (windSteady_runs s) c
        (compute_work (windSteady_judges s c) (fun _ _ => trivial) (fun _ _ _ => trivial) r p .refl))
  · exact placeLinkMade_work (windSteady_runs s) c (fun _ _ _ => trivial) .refl

theorem handOn3_windWellKept (c : Slot) (r : CraneRecord) (p : Pose) (flagged : Bool) (k : s.WindWellKept) :
    (handOn3 c r p flagged s).WindWellKept := by
  have stage2 : (craneTakesPose c p flagged (windTakesPose c p s)).WindWellKept :=
    Work.windWellKept (craneTakesPose_work (windSteady_judges _ c) p flagged (fun _ _ => trivial) .refl)
      (windTakesPose_windWellKept c p k)
  have stage3 := (poseStage3_steady c r p _).windWellKept stage2
  unfold handOn3
  dsimp only
  split
  · exact gateAndRun_windWellKept c stage3
  · exact stage3

theorem raise_windWellKept (c : Slot) (cause : FaultCause) (cell : Option CellPos) (k : s.WindWellKept) :
    (raise c cause cell s).WindWellKept :=
  Work.windWellKept (raise_work (windSteady_judges s c) cause cell (fun _ _ _ => trivial) .refl) k

/-- Changing a link leaves the levels alone. -/
theorem updLink_windWellKept (c : Slot) (f : Link → Link) (k : s.WindWellKept) : (updLink c f s).WindWellKept :=
  Work.windWellKept (updLink_work c f trivial .refl) k

theorem updCrane_windWellKept (c : Slot) (f : CraneStatus → CraneStatus) (k : s.WindWellKept) :
    (updCrane c f s).WindWellKept := Work.windWellKept (updCrane_work c f trivial .refl) k

theorem updChannel_windWellKept (c : Slot) (f : Channel → Channel) (k : s.WindWellKept) :
    (updChannel c f s).WindWellKept := Work.windWellKept (updChannel_work c f trivial .refl) k

theorem placeLinkMade_windWellKept (c : Slot) (k : s.WindWellKept) : (placeLinkMade c s).WindWellKept :=
  Work.windWellKept (placeLinkMade_work (windSteady_runs s) c (fun _ _ _ => trivial) .refl) k

theorem letForward_windWellKept (c : Slot) (k : s.WindWellKept) : (letForward c s).WindWellKept :=
  Work.windWellKept (letForward_work (windSteady_runs s) c .refl) k

/-- The levels depend on the wind records and the declaration alone. -/
theorem windWellKept_of_eq (e : t.wind = s.wind) (k : s.WindWellKept) : t.WindWellKept := by
  unfold State.WindWellKept State.windOf
  rw [e]
  exact k

theorem acceptPose_windWellKept (c : Slot) (r : CraneRecord) (p : Pose) (k : s.WindWellKept) :
    (acceptPose c r p s).WindWellKept := by
  unfold acceptPose
  refine handOn3_windWellKept c r p _ ?_
  have accepted := updLink_windWellKept c (Link.accepts p) k
  split
  · exact accepted
  · unfold linkReturns
    exact updCrane_windWellKept c _ accepted

theorem takePose_windWellKept (c : Slot) (f : PoseFrame) (k : s.WindWellKept) : (takePose c f s).WindWellKept := by
  unfold takePose
  repeat' split
  · exact k
  · exact k
  · exact k
  · unfold takeInvalid
    dsimp only
    split
    · exact raise_windWellKept c _ _ (updLink_windWellKept c _ k)
    · exact updLink_windWellKept c _ k
  · exact acceptPose_windWellKept c _ _ k

theorem takeEStop_windWellKept (c : Slot) (k : s.WindWellKept) : (takeEStop c s).WindWellKept := by
  unfold takeEStop
  split
  · exact raise_windWellKept c _ _ k
  · exact k

theorem takeAck_windWellKept (c : Slot) (code : Byte) (k : s.WindWellKept) : (takeAck c code s).WindWellKept := by
  unfold takeAck
  split
  · exact Work.windWellKept (offerAck_work (windSteady_runs s) c code (.mark _ (updLink_work c _ trivial .refl))) k
  · exact k

theorem becomeStale_windWellKept (c : Slot) (k : s.WindWellKept) : (becomeStale c s).WindWellKept := by
  unfold becomeStale
  split
  · exact windStale_windWellKept c (Work.windWellKept (arbiterStale_work (windSteady_arbitrates) c (fun _ => trivial)
      (conditionCeases_work (windSteady_judges s c) .linkLost
        (placeLinkMade_work (windSteady_runs s) c (fun _ _ _ => trivial) (updLink_work c _ trivial .refl)))) k)
  · exact k

theorem becomeLost_windWellKept (c : Slot) (k : s.WindWellKept) : (becomeLost c s).WindWellKept := by
  unfold becomeLost
  split
  · exact Work.windWellKept (withdrawCrane_work windSteady_arbitrates c (fun _ _ => trivial)
      (raise_work (windSteady_judges s c) .linkLost none (fun _ _ _ => trivial) (updLink_work c _ trivial .refl))) k
  · exact k

theorem deliverMinute_windWellKept (p : Option Nat) (n : Nat) (k : s.WindWellKept) : (deliverMinute p n s).WindWellKept :=
  forEach_keeps _ (fun c _ h => gateAndRun_windWellKept c h)
    (Work.windWellKept (minuteToBookings_work (windSteady_runs s) p n .refl) k)

theorem countTick_windWellKept (c : Slot) (k : s.WindWellKept) : (countTick c s).WindWellKept :=
  Work.windWellKept (countTick_work (windSteady_runs s) c .refl) k

/-! ### Starts, survey, configuration, removal and admission -/

theorem start_windWellKept (cause : StartCause) (s : State) : (start cause s).WindWellKept := by
  unfold start
  refine forEach_keeps _ (fun c _ h => placeLinkMade_windWellKept c h) fun c => ?_
  simp only [State.started, State.windOf, Vector.get_eq_getElem, Vector.getElem_replicate]
  rfl

theorem clearEngine_windWellKept (c : Slot) (k : s.WindWellKept) : (clearEngine c s).WindWellKept :=
  Work.windWellKept (.engine c _ trivial (updEvict_work windSteady_arbitrates c _
    (setRecovery_work (windSteady_judges s c) false .refl))) k

theorem clearEngines_windWellKept (k : s.WindWellKept) :
    (forEach allSlots clearEngine (arbiterCleared s)).WindWellKept :=
  forEach_keeps _ (fun c _ h => clearEngine_windWellKept c h)
    (Work.windWellKept (arbiterCleared_work windSteady_arbitrates .refl) k)

theorem updExitPending_windWellKept (c : Slot) (b : Bool) (k : s.WindWellKept) :
    (updWind c (fun w => { w with exitPending := b }) s).WindWellKept :=
  updWind_windWellKept c _ (fun _ => rfl) (fun _ => rfl) k

theorem enterSurvey_windWellKept (k : s.WindWellKept) : (enterSurvey s).WindWellKept := by
  unfold enterSurvey
  dsimp only
  refine forEach_keeps _ (fun c _ h => placeLinkMade_windWellKept c h) ?_
  refine forEach_keeps _ (fun c u h => updExitPending_windWellKept c _
    (updCrane_windWellKept c _ (updChannel_windWellKept c _ h))) ?_
  exact clearEngines_windWellKept (windWellKept_of_eq (s := s) rfl k)

theorem buildStorm_windWellKept (c : Slot) (k : s.WindWellKept) : (buildStorm c s).WindWellKept :=
  Work.windWellKept (buildStorm_work (windSteady_values s) c .refl) k

theorem joinAtExit_windWellKept (c : Slot) (k : s.WindWellKept) : (joinAtExit c s).WindWellKept :=
  letForward_windWellKept c (updChannel_windWellKept c _ (updCrane_windWellKept c _ k))

theorem completeSurveyExit_windWellKept (k : s.WindWellKept) : (completeSurveyExit s).WindWellKept := by
  unfold completeSurveyExit
  dsimp only
  refine forEach_keeps _ (fun c _ h => gateAndRun_windWellKept c h) ?_
  refine forEach_keeps _ (fun c _ h => buildStorm_windWellKept c h) ?_
  refine forEach_keeps _ (fun c _ h => placeLinkMade_windWellKept c h) ?_
  refine forEach_keeps _ (fun c _ h => updExitPending_windWellKept c _ (updChannel_windWellKept c _ h)) ?_
  refine forEach_keeps _ (fun c _ h => joinAtExit_windWellKept c h) ?_
  exact clearEngines_windWellKept (windWellKept_of_eq (s := s) rfl k)

theorem failAtExit_windWellKept (n : Nat) (k : s.WindWellKept) : (failAtExit n s).WindWellKept := by
  have change (f : Booking → Booking) : (updBooking n f s).WindWellKept :=
    Work.windWellKept (updBooking_work n f trivial .refl) k
  unfold failAtExit
  repeat' split
  · exact k
  · exact k
  · exact change _
  · exact change _
  · exact k

theorem beginExitWrite_windWellKept (k : s.WindWellKept) : (beginExitWrite s).WindWellKept := by
  unfold beginExitWrite deriveZones
  dsimp only
  exact forEach_keeps _ (fun n _ h => failAtExit_windWellKept n h) (windWellKept_of_eq (s := s) rfl k)

theorem clearForSlot_windWellKept (c : Slot) (k : s.WindWellKept) : (clearForSlot c s).WindWellKept :=
  clearEngine_windWellKept c (clearWind_windWellKept c (updChannel_windWellKept c _ k))

theorem putSlot_windWellKept (c : Slot) (x : CraneSlot) (k : s.WindWellKept) : (s.putSlot c x).WindWellKept :=
  windWellKept_of_eq (s := s) rfl k

theorem configureSlot_windWellKept (c : Slot) (r : CraneRecord) (k : s.WindWellKept) :
    (configureSlot c r s).WindWellKept :=
  reevaluateBorrowers_windWellKept _ (recomputeValues_windWellKept c (placeLinkMade_windWellKept c
    (updLink_windWellKept c _ (letForward_windWellKept c (updCrane_windWellKept c _
      (clearForSlot_windWellKept c (putSlot_windWellKept c _ k)))))))

theorem unconfigureSlot_windWellKept (c : Slot) (k : s.WindWellKept) : (unconfigureSlot c s).WindWellKept :=
  reevaluateBorrowers_windWellKept _ (updLink_windWellKept c _
    (Work.windWellKept (holdBack_work (windSteady_runs _) c .refl) (updCrane_windWellKept c _
      (clearForSlot_windWellKept c (putSlot_windWellKept c _ k)))))

theorem releaseEStop_windWellKept (c : Slot) (k : s.WindWellKept) : (releaseEStop c s).WindWellKept :=
  updCrane_windWellKept c _ k

theorem removeCrane_windWellKept (c : Slot) (k : s.WindWellKept) : (removeCrane c s).WindWellKept := by
  have cancelled : (cancelRemoved c (s.putExcluded c true)).WindWellKept :=
    Work.windWellKept (cancelRemoved_work (windSteady_runs _) c .refl) (putSlot_windWellKept c _ k)
  have stopped : (releaseEStop c (updCrane c (fun x =>
      { x.closeContext .removal s.now with state := .offline, fault := none, check := none })
      (updChannel c (fun _ => .cleared) (cancelRemoved c (s.putExcluded c true))))).WindWellKept :=
    releaseEStop_windWellKept c (updCrane_windWellKept c _ (updChannel_windWellKept c _ cancelled))
  have freed := Work.windWellKept (arbiterRemove_work windSteady_arbitrates c (fun _ => trivial) .refl) stopped
  exact reevaluateBorrowers_windWellKept _ (placeLinkMade_windWellKept c (updLink_windWellKept c _
    (clearEngine_windWellKept c (clearWind_windWellKept c freed))))

theorem admitCrane_windWellKept (c : Slot) (k : s.WindWellKept) : (admitCrane c s).WindWellKept := by
  unfold admitCrane
  dsimp only
  refine reevaluateBorrowers_windWellKept _ (recomputeValues_windWellKept c ?_)
  have linked := placeLinkMade_windWellKept c (updLink_windWellKept c (Link.emptied .waiting) (clearEngine_windWellKept c
    (letForward_windWellKept c (updChannel_windWellKept c Channel.atAdmission (updCrane_windWellKept c
      (fun x => { x with state := .joining, fault := none, eStop := false, check := none })
      (putSlot_windWellKept c { s.slotOf c with excluded := false } k))))))
  split
  · exact buildStorm_windWellKept c linked
  · exact linked

end

/-! ### Requests -/

section
variable {P : State → Prop} {s : State}

theorem onSlot_keeps {n : Nat} {f : Slot → State → State × Answer} (hf : ∀ c, P (f c s).1) (h : P s) :
    P (onSlot n f s).1 := by
  unfold onSlot
  split
  · exact h
  · exact hf _

theorem onCrane_keeps {n : Nat} {f : Slot → State → State × Answer} (hf : ∀ c, P (f c s).1) (h : P s) :
    P (onCrane n f s).1 := by
  refine onSlot_keeps (fun c => ?_) h
  split
  · exact hf c
  · exact h

theorem inOperate_keeps {f : State → State × Answer} (hf : P (f s).1) (h : P s) : P (inOperate f s).1 := by
  unfold inOperate
  split
  · exact hf
  · exact h

theorem inSurvey_keeps {f : State → State × Answer} (hf : P (f s).1) (h : P s) : P (inSurvey f s).1 := by
  unfold inSurvey
  split
  · exact h
  · exact hf

theorem onZone_keeps {n : Nat} {f : ZoneId → State → State × Answer} (hf : ∀ z, P (f z s).1) (h : P s) :
    P (onZone n f s).1 := by
  refine inOperate_keeps ?_ h
  split
  · exact h
  · exact hf _

theorem ite_keeps {p : Prop} [Decidable p] {a : State} {x y : Answer} (hf : P a) (h : P s) :
    P (if p then (s, x) else (a, y)).1 := by
  split
  · exact h
  · exact hf

theorem ite_keeps' {p : Prop} [Decidable p] {a : State} {x y : Answer} (hf : P a) (h : P s) :
    P (if p then (a, x) else (s, y)).1 := by
  split
  · exact hf
  · exact h

end

section
variable {s : State}

theorem doSetClock_windWellKept (m p : Option Nat) (k : s.WindWellKept) : (doSetClock m p s).1.WindWellKept := by
  have minute (m : Nat) : (setMinute m s).WindWellKept := by
    unfold setMinute
    dsimp only
    repeat' split
    · exact deliverMinute_windWellKept _ _ (windWellKept_of_eq (s := s) rfl k)
    · exact deliverMinute_windWellKept _ _ (windWellKept_of_eq (s := s) rfl k)
    · exact windWellKept_of_eq (s := s) rfl k
  unfold doSetClock
  refine ite_keeps ?_ k
  cases m with
  | none => cases p with
    | none => exact k
    | some p => exact windWellKept_of_eq (s := s) rfl k
  | some m => cases p with
    | none => exact minute m
    | some p => exact windWellKept_of_eq (s := setMinute m s) rfl (minute m)

theorem doLeaveSurvey_windWellKept (k : s.WindWellKept) : (doLeaveSurvey s).1.WindWellKept := by
  unfold doLeaveSurvey
  repeat' split
  · exact k
  · exact k
  · exact beginExitWrite_windWellKept k

theorem doLoadCrane_windWellKept (n : Nat) (f : Option CraneFields) (k : s.WindWellKept) :
    (doLoadCrane n f s).1.WindWellKept := by
  refine inSurvey_keeps ?_ k
  repeat' split
  all_goals dsimp only
  · exact k
  · exact unconfigureSlot_windWellKept _ k
  · exact k
  · exact k
  · exact putSlot_windWellKept _ _ k
  · exact configureSlot_windWellKept _ _ k

theorem doLoadCells_windWellKept (n : Nat) (tb : CellTable) (first count : Nat) (classes : List Byte)
    (k : s.WindWellKept) : (doLoadCells n tb first count classes s).1.WindWellKept := by
  refine inSurvey_keeps (onCrane_keeps (fun c => ?_) k) k
  repeat' split
  · exact k
  · exact k
  · exact k
  · exact putSlot_windWellKept _ _ k

theorem doLoadPlan_windWellKept (n : Nat) (fields : List StepField) (k : s.WindWellKept) :
    (doLoadPlan n fields s).1.WindWellKept := by
  unfold doLoadPlan
  repeat' split
  · exact k
  · exact k
  · exact k
  · exact windWellKept_of_eq (s := s) rfl k
  · exact k

theorem doBook_windWellKept (f : BookFields) (k : s.WindWellKept) : (doBook f s).1.WindWellKept := by
  have effect (b : Booking) {u : State} (h : u.WindWellKept) : (admissionEffect b u).WindWellKept := by
    unfold admissionEffect
    repeat' split
    · exact gateAndRun_windWellKept _ h
    · exact h
    · exact gateAndRun_windWellKept _ h
    · exact h
    · exact gateAndRun_windWellKept _ h
    · exact h
    · exact Work.windWellKept (runNew_work (windSteady_runs u) _ _ (supersede_work (windSteady_runs u) _ _ .refl)) h
  unfold doBook
  repeat' split
  all_goals first
    | exact k
    | exact effect _ (Work.windWellKept (.mark _ .refl) (windWellKept_of_eq (s := s) rfl k))

theorem doCancel_windWellKept (n : Nat) (k : s.WindWellKept) : (doCancel n s).1.WindWellKept := by
  unfold doCancel
  repeat' split
  · exact k
  · exact k
  · exact Work.windWellKept (runNew_work (windSteady_runs s) _ _ (cancelBooking_work (windSteady_runs s) _ .refl)) k

theorem doRelay_windWellKept (dest : RelayDest) (code : Byte) (ack : Bool) (text : List Byte) (k : s.WindWellKept) :
    (doRelay dest code ack text s).1.WindWellKept := by
  have one (n : CabNotice) (c : Slot) (r : State × List Slot × List (Slot × SkipReason)) (h : r.1.WindWellKept) :
      (relayOne n c r).1.WindWellKept := by
    unfold relayOne
    split
    · exact h
    · exact Work.windWellKept (kickCab_work (windSteady_runs r.1) c (updLink_work c _ trivial .refl)) h
  have go (n : CabNotice) (l : List Slot) (r : State × List Slot × List (Slot × SkipReason)) (h : r.1.WindWellKept) :
      (l.foldl (fun r c => relayOne n c r) r).1.WindWellKept := by
    induction l generalizing r with
    | nil => exact h
    | cons c l ih => exact ih _ (one n c r h)
  unfold doRelay
  repeat' split
  · exact k
  · exact k
  · exact k
  · exact go _ _ _ k

theorem doCloseZone_windWellKept (n : Nat) (k : s.WindWellKept) : (doCloseZone n s).1.WindWellKept := by
  refine onZone_keeps (fun z => ?_) k
  repeat' split
  all_goals dsimp only
  · exact k
  · exact k
  · exact k
  · exact Work.windWellKept (closeTheZone_work windSteady_arbitrates z .refl) k

theorem doOpenZone_windWellKept (n : Nat) (k : s.WindWellKept) : (doOpenZone n s).1.WindWellKept := by
  refine onZone_keeps (fun z => ?_) k
  repeat' split
  all_goals dsimp only
  · exact Work.windWellKept (openTheZone_work windSteady_arbitrates z .refl) k
  · exact Work.windWellKept (withdrawClosure_work windSteady_arbitrates z .refl) k
  · exact k

theorem leaveLockout_windWellKept (c : Slot) (k : s.WindWellKept) : (leaveLockout c s).WindWellKept := by
  have left := modCrane_work (A := .windSteady) c (fun x =>
    { x with
      lockoutContext := x.lockoutContext.map (·.endIn .clearLockout s.now)
      state := .joining }) trivial (.refl (s := s))
  have lifted := removeReason_work (windSteady_runs s) c (fun r => { r with fault := false })
    (setRecovery_work (windSteady_judges s c) false left)
  exact Work.windWellKept (.mark _ (placeLinkMade_work (windSteady_runs s) c (fun _ _ _ => trivial)
    (letForward_work (windSteady_runs s) c lifted))) k

theorem doClearFault_windWellKept (n : Nat) (k : s.WindWellKept) : (doClearFault n s).1.WindWellKept := by
  refine onCrane_keeps (fun c => ?_) k
  repeat' split
  · exact k
  · exact k
  · exact Work.windWellKept (clearTheFault_work (windSteady_judges s c) _ _ .refl) k

theorem doDeclareWind_windWellKept (level : Nat) (k : s.WindWellKept) : (doDeclareWind level s).1.WindWellKept := by
  unfold doDeclareWind
  split
  · exact k
  · exact declare_windWellKept _ k

theorem doSetReportMask_windWellKept (kinds : List KeyKind) (k : s.WindWellKept) :
    (doSetReportMask kinds s).1.WindWellKept := by
  unfold doSetReportMask
  dsimp only
  split
  · exact forEach_keeps _ (fun n _ h => Work.windWellKept (.free n trivial .refl) h)
      (windWellKept_of_eq (s := s) rfl k)
  · exact windWellKept_of_eq (s := s) rfl k

/-- Every request keeps the levels well kept. -/
theorem dispatch_windWellKept (r : Request) (s : State) (k : s.WindWellKept) : (dispatch r s).1.WindWellKept := by
  have runs := windSteady_runs s
  cases r with
  | identify => exact k
  | reset => exact windWellKept_of_eq (s := s) rfl k
  | setClock m p => exact doSetClock_windWellKept m p k
  | readClock => exact k
  | enterSurvey => exact inOperate_keeps (ite_keeps (enterSurvey_windWellKept k) k) k
  | leaveSurvey => exact doLeaveSurvey_windWellKept k
  | loadCrane n f => exact doLoadCrane_windWellKept n f k
  | loadCells n tb first count classes => exact doLoadCells_windWellKept n tb first count classes k
  | loadChart n caps =>
    exact inSurvey_keeps (onCrane_keeps (fun c => ite_keeps' (putSlot_windWellKept c _ k) k) k) k
  | loadProfile p =>
    exact inSurvey_keeps (ite_keeps' (profileTimers_windWellKept _ (windWellKept_of_eq (s := s) rfl k)) k) k
  | loadPlan n steps => exact doLoadPlan_windWellKept n steps k
  | book f => exact doBook_windWellKept f k
  | cancel n => exact doCancel_windWellKept n k
  | suspendChannel n =>
    exact onCrane_keeps (fun c => ite_keeps (Work.windWellKept (addReason_work runs c _ .refl) k) k) k
  | resumeChannel n =>
    exact onCrane_keeps (fun c => ite_keeps' (Work.windWellKept (removeReason_work runs c _ .refl) k) k) k
  | stepMode n on => exact onCrane_keeps (fun c => ite_keeps (updChannel_windWellKept c _ k) k) k
  | continueStep n =>
    exact onSlot_keeps (fun c => ite_keeps' (Work.windWellKept (liftPause_work runs c .refl) k) k) k
  | closeZone n => exact doCloseZone_windWellKept n k
  | openZone n => exact doOpenZone_windWellKept n k
  | forceRelease n =>
    exact onZone_keeps (fun z => ite_keeps (Work.windWellKept (forceFree_work windSteady_arbitrates z .refl) k) k) k
  | declareWind l => exact doDeclareWind_windWellKept l k
  | clearFault n => exact doClearFault_windWellKept n k
  | recover n =>
    exact onCrane_keeps (fun c => inOperate_keeps (ite_keeps'
      (Work.windWellKept (setRecovery_work (windSteady_judges s c) true .refl) k) k) k) k
  | clearLockout n =>
    exact onCrane_keeps (fun c => inOperate_keeps (ite_keeps' (leaveLockout_windWellKept c k) k) k) k
  | removeCrane n => exact onCrane_keeps (fun c => ite_keeps (removeCrane_windWellKept c k) k) k
  | admitCrane n => exact onCrane_keeps (fun c => ite_keeps' (admitCrane_windWellKept c k) k) k
  | relay d code ack text => exact doRelay_windWellKept d code ack text k
  | readCrane n =>
    refine onSlot_keeps (fun c => ?_) k
    split <;> exact k
  | readZone n =>
    show (doReadZone n s).1.WindWellKept
    unfold doReadZone
    split <;> exact k
  | readBooking n =>
    show (doReadBooking n s).1.WindWellKept
    unfold doReadBooking
    split <;> exact k
  | readChannel n => exact onCrane_keeps (fun _ => k) k
  | readWind n => exact onCrane_keeps (fun _ => k) k
  | readFault n => exact onCrane_keeps (fun _ => k) k
  | readErrors => exact windWellKept_of_eq (s := s) rfl k
  | setReportMask ks => exact doSetReportMask_windWellKept ks k

/-- The work of every block event keeps the levels well kept. -/
theorem blockWork_windWellKept {i : Instr} {f : State → State} (h : blockWork? i = some f) (s : State)
    (k : s.WindWellKept) : (f s).WindWellKept := by
  have runs := windSteady_runs s
  cases i <;> simp only [blockWork?, Option.some.injEq, reduceCtorEq] at h
  all_goals subst h
  case poseReport c p => exact takePose_windWellKept c p k
  case cabBadFrame c b =>
    unfold takeCabBytes
    repeat' split
    · exact k
    · exact windWellKept_of_eq (s := s) (by simp) k
    · exact takePose_windWellKept c _ k
    · exact takeAck_windWellKept c _ k
    · exact takeEStop_windWellKept c k
  case estop c => exact takeEStop_windWellKept c k
  case ackMessage c code => exact takeAck_windWellKept c code k
  case cabTxDone c => exact Work.windWellKept (cabTxFinished_work runs c (fun _ => trivial) .refl) k
  case limitRepeat c => exact Work.windWellKept (repeatLimit_work runs c (fun _ _ => trivial) .refl) k
  case linkStale c => exact becomeStale_windWellKept c k
  case linkLost c => exact becomeLost_windWellKept c k
  case minuteAdvance =>
    unfold advanceMinute
    dsimp only
    repeat' split
    · exact k
    · exact deliverMinute_windWellKept _ _ (windWellKept_of_eq (s := s) rfl k)
    · exact windWellKept_of_eq (s := s) rfl k
    · exact k
  case holdTick =>
    unfold endTick
    split
    · exact forEach_keeps _ (fun c _ h => countTick_windWellKept c h) (windWellKept_of_eq (s := s) rfl k)
    · exact k
  case holdComplete c =>
    dsimp only
    split
    · exact countTick_windWellKept c k
    · exact k
  case dwellExpiry z => exact Work.windWellKept (expireDwell_work windSteady_arbitrates z .refl) k
  case bucketClose => exact closeBuckets_windWellKept k
  case calmDownExpiry c => exact expireCalmDown_windWellKept c k
  case stormAfterHoldExpiry c => exact expireStormAfterHold_windWellKept c k
  case calmTimerExpiry c => exact Work.windWellKept (expireCalm_work runs c .refl) k
  case waitLimitExpiry c => exact Work.windWellKept (expireWait_work runs c .refl) k
  case claimLost c => exact Work.windWellKept (takeLosses_work runs c .refl) k
  case claimRetry c => exact Work.windWellKept (takeRetry_work runs c .refl) k
  case nextStep c => exact Work.windWellKept (takeNextStep_work runs c .refl) k

theorem windWellKept_stepKeeps : StepKeeps State.WindWellKept where
  sees _ _ _ e h := windWellKept_of_eq e h
  starts := start_windWellKept
  serves := dispatch_windWellKept
  refreshes _ h := Work.windWellKept (refreshAll_work (windSteady_values _) .refl) h
  exits _ h := completeSurveyExit_windWellKept h
  kicks c s h := Work.windWellKept (kickCab_work (windSteady_runs s) c .refl) h
  blocks _ _ e _ h := blockWork_windWellKept e _ h

end
end Sys2Proof.Machine
end

section
/-! SUPPORT and the statements O55 and O57. -/

namespace Sys2Proof.Machine

/-! ## The state before the first power-on -/

/-- A field of the record that a cleared vector holds at every place. -/
theorem replicate_get {α : Type} {n : Nat} (x : α) (i : Fin n) : (Vector.replicate n x).get i = x := by
  rw [Vector.get_eq_getElem, Vector.getElem_replicate]

theorem reset_link (c : Slot) : State.reset.link c = .unused := replicate_get _ c
theorem reset_windOf (c : Slot) : State.reset.windOf c = .cleared := replicate_get _ c
theorem reset_crane (c : Slot) : State.reset.crane c = .fresh .offline := replicate_get _ c
theorem reset_channel (c : Slot) : State.reset.channel c = .cleared := replicate_get _ c
theorem reset_zone (z : ZoneId) : State.reset.zone z = .free := replicate_get _ z

theorem reset_portWellKept : State.reset.port.WellKept :=
  ⟨List.nodup_nil, fun _ h => absurd h List.not_mem_nil, Nat.zero_le _, List.nodup_nil⟩

theorem reset_bookingsAgree : State.reset.BookingsAgree where
  numbers := List.nodup_nil
  current c n h := by rw [reset_channel] at h; exact absurd h (by simp [Channel.cleared])
  running _ h := absurd h List.not_mem_nil
  interrupted _ h := absurd h List.not_mem_nil
  returns _ h := absurd h List.not_mem_nil
  heldBack _ h := absurd h List.not_mem_nil
  survey _ _ h := absurd h List.not_mem_nil

theorem reset_arbiterBounded : State.reset.ArbiterBounded where
  pool := Nat.zero_le _
  storm z _ _ h := by rw [reset_zone] at h; exact absurd h (by simp [ZoneRecord.free])
  closure z _ _ h := by rw [reset_zone] at h; exact absurd h (by simp [ZoneRecord.free])

end Sys2Proof.Machine

open Sys2Proof Sys2Proof.Machine

/-- Settles O55: in the state before the first power-on every list is empty and every record cleared. -/
theorem resetIsWellKept : Obligations.ResetIsWellKept :=
  ⟨reset_portWellKept, fun c => reset_link c ▸ ⟨Nat.zero_le _, Nat.zero_le _, by decide, by decide⟩,
    fun c => by rw [reset_windOf]; rfl, List.nodup_nil, fun _ c => by rw [reset_crane]; decide, reset_bookingsAgree,
    reset_arbiterBounded⟩

/-- Settles O57: the blocks' work keeps the links, and the effective state of a crane is recomputed wherever its own state
or the declaration changes (R116); every step is made of such work. -/
theorem linksAndWindStayWellKept : Obligations.LinksAndWindStayWellKept :=
  ⟨fun _ _ h e => linksWellKept_stepKeeps.step h e, fun _ _ h e => windWellKept_stepKeeps.step h e⟩
end

section
/-! SUPPORT. What the end of an event adds to the event's work: an event that takes no request leaves the state of its work
(`event_leaves`), and a request that is taken at once is answered as its block answers it (`answered_of_dispatch`). -/

namespace Sys2Proof.Machine

/-! ## The end of an event -/

section
variable {s t u v w : State}

/-- t is u but for the event counter and the report list. -/
structure SameBlocks (u t : State) : Prop where
  pending : t.pending = u.pending
  power : t.power = u.power
  geo : t.geo = u.geo
  links : t.links = u.links
  clock : t.clock = u.clock
  engines : t.engines = u.engines
  arb : t.arb = u.arb
  wind : t.wind = u.wind
  bookings : t.bookings = u.bookings
  plans : t.plans = u.plans
  channels : t.channels = u.channels
  status : t.status = u.status
  port : t.port = { u.port with reports := t.port.reports }

theorem SameBlocks.refl (s : State) : SameBlocks s s := ⟨rfl, rfl, rfl, rfl, rfl, rfl, rfl, rfl, rfl, rfl, rfl, rfl, rfl⟩

theorem SameBlocks.trans (h : SameBlocks s t) (k : SameBlocks t u) : SameBlocks s u :=
  ⟨k.1.trans h.1, k.2.trans h.2, k.3.trans h.3, k.4.trans h.4, k.5.trans h.5, k.6.trans h.6, k.7.trans h.7, k.8.trans h.8,
    k.9.trans h.9, k.10.trans h.10, k.11.trans h.11, k.12.trans h.12, by rw [k.13, h.13]⟩

theorem nextEvent_sameBlocks (s : State) : SameBlocks s (nextEvent s) :=
  ⟨rfl, rfl, rfl, rfl, rfl, rfl, rfl, rfl, rfl, rfl, rfl, rfl, rfl⟩

theorem mark_sameBlocks (k : ReportKey) (h : SameBlocks s t) : SameBlocks s (mark k t) := by
  refine h.trans ⟨rfl, rfl, rfl, rfl, rfl, rfl, rfl, rfl, rfl, rfl, rfl, rfl, ?_⟩
  show t.port.marked k = _
  unfold SitePort.marked mark SitePort.marked
  split <;> rfl

theorem markIf_sameBlocks (b : Bool) (k : ReportKey) (h : SameBlocks s t) : SameBlocks s (markIf b k t) := by
  cases b
  · exact h
  · exact mark_sameBlocks k h

/-- The ports of s and t agree in what decides whether a request is taken. -/
theorem State.NoTake.of_eq (queue : t.port.queue = s.port.queue) (hand : t.port.hand = s.port.hand)
    (reset : t.port.resetProgress = s.port.resetProgress) (slot : t.port.slot = s.port.slot) (tx : t.port.tx = s.port.tx)
    (power : t.power = s.power) (h : s.NoTake) : t.NoTake := by
  unfold State.NoTake
  rw [queue, hand, reset, slot, tx, power]
  exact h

theorem State.NoTake.of_quiet (q : s.port.Quiet t.port) (power : t.power = s.power) (h : s.NoTake) : t.NoTake :=
  h.of_eq q.queue q.hand q.resetProgress q.slot q.tx power

theorem State.NoTake.nextEvent (h : s.NoTake) : (nextEvent s).NoTake := h

theorem State.NoTake.work {A : Scope} (h : s.NoTake) (k : Work A (Machine.nextEvent s) t) : t.NoTake :=
  State.NoTake.of_quiet (s := s) k.port k.power h

/-- A port that takes no request leaves the state as it is. -/
theorem pump_of_blocked (n : Nat) (h : s.port.queue = [] ∨ ¬ s.portReady = true) : pump n s = s := by
  cases n with
  | zero => rfl
  | succ n =>
    unfold pump
    split
    · rcases h with h | h
      · rw [h]
      · contradiction
    · rfl

theorem portReady_iff (s : State) :
    s.portReady = true ↔ s.port.hand = none ∧ s.port.slot = none ∧ s.port.resetProgress = .none := by
  unfold State.portReady
  simp [and_assoc]

/-- Beginning a reply changes only slot and transmitter. -/
theorem beginReply_eq (s : State) :
    beginReply s = { s with port := { s.port with tx := (beginReply s).port.tx, slot := (beginReply s).port.slot } } := by
  unfold beginReply
  split
  · split <;> rfl
  · rfl

theorem beginReply_blocked (h : s.port.tx ≠ none ∨ s.power.lowFor ≠ none) : beginReply s = s := by
  unfold beginReply
  split
  · rename_i e _
    have low : s.silent = true := by
      rcases h with h | h
      · exact absurd e h
      · exact Option.isSome_iff_ne_none.mpr h
    rw [if_pos low]
  · rfl

/-- An idle line that is high takes the reply that waits. -/
theorem beginReply_idle {r : Reply} (tx : s.port.tx = none) (slot : s.port.slot = some r) (high : s.power.lowFor = none) :
    beginReply s = { s with port := { s.port with tx := some (.reply r), slot := none } } := by
  unfold beginReply State.silent
  rw [tx, slot, high]
  rfl

/-- In a state in which no request is taken, none is after the waiting reply has been begun. -/
theorem pump_beginReply (h : s.NoTake) (n : Nat) : pump n (beginReply s) = beginReply s := by
  have kept := beginReply_eq s
  have queue : (beginReply s).port.queue = s.port.queue := by rw [kept]
  have hand : (beginReply s).port.hand = s.port.hand := by rw [kept]
  have reset : (beginReply s).port.resetProgress = s.port.resetProgress := by rw [kept]
  refine pump_of_blocked n ?_
  rw [portReady_iff]
  rcases h with h | h | h | ⟨slot, busy⟩
  · exact .inl (queue.trans h)
  · exact .inr fun ready => h (hand.symm.trans ready.1)
  · exact .inr fun ready => h (reset.symm.trans ready.2.2)
  · rw [beginReply_blocked busy]
    exact .inr fun ready => slot ready.2.1

/-- Beginning a report takes only an ended booking of the head key from the table (R140). -/
theorem beginReport_sameButPort (s : State) : SameButPort s (beginReport s) := by
  have same (p : SitePort) (h : p = { s.port with tx := p.tx, reports := p.reports }) :
      SameButPort s { s with port := p } := by
    rw [h]
    exact ⟨rfl, rfl, rfl, rfl, rfl, rfl, rfl, fun _ => rfl, rfl, rfl, fun _ h => h, fun _ h _ => h, rfl, rfl, rfl, rfl,
      rfl, rfl, rfl, rfl, rfl⟩
  unfold beginReport
  split
  · split
    · exact same s.port rfl
    · dsimp only
      split
      · rename_i k rest _ _ n ended
        refine ⟨rfl, rfl, rfl, rfl, rfl, rfl, rfl, fun _ => rfl, rfl, rfl, fun b h => List.mem_of_mem_filter h,
          fun b h notEnded => List.mem_filter.mpr ⟨h, ?_⟩, rfl, rfl, rfl, rfl, rfl, rfl, rfl, rfl, rfl⟩
        simp only [bne_iff_ne, ne_eq]
        rintro rfl
        unfold State.endedKey at ended
        split at ended
        · rename_i m
          split at ended
          · rename_i e found
            split at ended
            · rename_i isEnded
              obtain rfl : m = b.number := Option.some.inj ended
              have number : e.number = b.number := by simpa using List.find?_some found
              rw [notEnded e (List.mem_of_find?_eq_some found) number] at isEnded
              exact absurd isEnded (by decide)
            · cases ended
          · cases ended
        · cases ended
      · exact same _ rfl
  · exact same s.port rfl

/-- A refreshed state differs from what it was as `SameButPort` says. -/
theorem Refreshed.sameButPort (h : Refreshed s t) : SameButPort s t where
  pending := h.quiet.pending
  power := h.quiet.power
  geo := h.quiet.geo
  links := h.links
  clock := h.quiet.clock
  engines := h.engines
  arb := h.arb
  wind := h.wind
  declaration := h.declaration
  bucketPhase := h.bucketPhase
  bookingsFrom _ k := h.bookings ▸ k
  bookingsKept _ k _ := h.bookings.symm ▸ k
  plans := h.quiet.plans
  channels := h.channels
  status := h.status
  receiver := h.quiet.port.receiver
  queue := h.quiet.port.queue
  hand := h.quiet.port.hand
  masks := h.quiet.port.masks
  errors := h.quiet.port.errors
  resetProgress := h.quiet.port.resetProgress

theorem beginReply_sameButPort (s : State) : SameButPort s (beginReply s) := by
  rw [beginReply_eq]
  exact ⟨rfl, rfl, rfl, rfl, rfl, rfl, rfl, fun _ => rfl, rfl, rfl, fun _ h => h, fun _ h _ => h, rfl, rfl, rfl, rfl,
    rfl, rfl, rfl, rfl, rfl⟩

theorem SameBlocks.sameButPort (h : SameBlocks s t) : SameButPort s t where
  pending := h.pending
  power := h.power
  geo := h.geo
  links := h.links
  clock := h.clock
  engines := h.engines
  arb := h.arb
  wind c := by unfold State.windOf; rw [h.wind]
  declaration := by rw [h.wind]
  bucketPhase := by rw [h.wind]
  bookingsFrom _ k := h.bookings ▸ k
  bookingsKept _ k _ := h.bookings.symm ▸ k
  plans := h.plans
  channels := h.channels
  status := h.status
  receiver := by rw [h.port]
  queue := by rw [h.port]
  hand := by rw [h.port]
  masks := by rw [h.port]
  errors := by rw [h.port]
  resetProgress := by rw [h.port]

/-- The second state loses no booking before the third is compared with it. -/
theorem SameButPort.trans_of_bookings (h : SameButPort s t) (e : t.bookings = s.bookings) (k : SameButPort t u) :
    SameButPort s u where
  pending := k.pending.trans h.pending
  power := k.power.trans h.power
  geo := k.geo.trans h.geo
  links := k.links.trans h.links
  clock := k.clock.trans h.clock
  engines := k.engines.trans h.engines
  arb := k.arb.trans h.arb
  wind c := by rw [k.wind c, h.wind c]
  declaration := k.declaration.trans h.declaration
  bucketPhase := k.bucketPhase.trans h.bucketPhase
  bookingsFrom b m := e ▸ k.bookingsFrom b m
  bookingsKept b m n := k.bookingsKept b (e.symm ▸ m) (e.symm ▸ n)
  plans := k.plans.trans h.plans
  channels := k.channels.trans h.channels
  status := k.status.trans h.status
  receiver := k.receiver.trans h.receiver
  queue := k.queue.trans h.queue
  hand := k.hand.trans h.hand
  masks := k.masks.trans h.masks
  errors := k.errors.trans h.errors
  resetProgress := k.resetProgress.trans h.resetProgress

theorem finish_sameButPort (h : s.NoTake) : SameButPort s (finish s) := by
  have fresh := refreshAll_refreshed s
  unfold finish
  rw [pump_beginReply (h.of_quiet fresh.quiet.port fresh.quiet.power)]
  refine fresh.sameButPort.trans_of_bookings fresh.bookings
    ((beginReply_sameButPort _).trans_of_bookings ?_ (beginReport_sameButPort _))
  rw [beginReply_eq]

/-- An event that takes no request leaves the state of its work. -/
theorem event_leaves (f : State → State) (on : s.power.on = true) (h : (f (nextEvent s)).NoTake) :
    ∃ t, event f s = .next t ∧ SameButPort (f (nextEvent s)) t :=
  ⟨finish (f (nextEvent s)), if_pos on, finish_sameButPort h⟩

/-- An event whose work is u but for event counter and marks leaves u. -/
theorem leaves_of_event {i : Instr} (f : State → State) (e : exec i s = event f s) (on : s.power.on = true)
    (h : (f (nextEvent s)).NoTake) (same : SameBlocks u (f (nextEvent s))) : Leaves i s u := by
  obtain ⟨t, next, left⟩ := event_leaves f on h
  exact ⟨t, e.trans next, same.sameButPort.trans_of_bookings same.bookings left⟩

/-! ## Requests -/

/-- The port with another input queue. -/
def State.putQueue (s : State) (l : List QueuedRequest) : State := { s with port := { s.port with queue := l } }

theorem putQueue_putQueue (s : State) (l m : List QueuedRequest) : (s.putQueue l).putQueue m = s.putQueue m := rfl

theorem putQueue_self {l : List QueuedRequest} (h : s.port.queue = l) : s.putQueue l = s := by
  subst h
  rfl

theorem mark_putQueue (k : ReportKey) (l : List QueuedRequest) (s : State) :
    mark k (s.putQueue l) = (mark k s).putQueue l := by
  unfold mark State.putQueue SitePort.marked
  dsimp only
  split <;> rfl

theorem markIf_putQueue (b : Bool) (k : ReportKey) (l : List QueuedRequest) (s : State) :
    markIf b k (s.putQueue l) = (markIf b k s).putQueue l := by
  cases b
  · rfl
  · exact mark_putQueue k l s

theorem updWind_putQueue (c : Slot) (f : Wind → Wind) (l : List QueuedRequest) (s : State) :
    updWind c f (s.putQueue l) = (updWind c f s).putQueue l := markIf_putQueue _ _ l (s.putWind c (f (s.windOf c)))

theorem refreshStorm_putQueue (c : Slot) (l : List QueuedRequest) (s : State) :
    refreshStorm c (s.putQueue l) = (refreshStorm c s).putQueue l := by
  unfold refreshStorm
  dsimp only
  rw [updWind_putQueue, updWind_putQueue, markIf_putQueue]
  rfl

/-- Bringing the storm marks up to date does not look at the input queue. -/
theorem refreshAll_putQueue (l : List QueuedRequest) (s : State) :
    refreshAll (s.putQueue l) = (refreshAll s).putQueue l := by
  have go (slots : List Slot) (u : State) :
      forEach slots refreshStorm (u.putQueue l) = (forEach slots refreshStorm u).putQueue l := by
    unfold forEach
    induction slots generalizing u with
    | nil => rfl
    | cons c slots ih =>
      rw [List.foldl_cons, List.foldl_cons, refreshStorm_putQueue]
      exact ih _
  exact go _ s

/-! ### Replies -/

theorem SameButReply.trans (h : SameButReply s t) (k : SameButReply t u) : SameButReply s u where
  pending := k.pending.trans h.pending
  power := k.power.trans h.power
  geo := k.geo.trans h.geo
  links := k.links.trans h.links
  clock := k.clock.trans h.clock
  engines := k.engines.trans h.engines
  arb := k.arb.trans h.arb
  wind c := by rw [k.wind c, h.wind c]
  declaration := k.declaration.trans h.declaration
  bucketPhase := k.bucketPhase.trans h.bucketPhase
  bookings := k.bookings.trans h.bookings
  plans := k.plans.trans h.plans
  channels := k.channels.trans h.channels
  status := k.status.trans h.status
  receiver := k.receiver.trans h.receiver
  queue := k.queue.trans h.queue
  hand := k.hand.trans h.hand
  masks := k.masks.trans h.masks
  errors := k.errors.trans h.errors
  resetProgress := k.resetProgress.trans h.resetProgress

/-- Where no booking has left the table, `SameButPort` says what `SameButReply` says. -/
theorem SameButPort.sameButReply (h : SameButPort s t) (e : t.bookings = s.bookings) : SameButReply s t :=
  ⟨h.pending, h.power, h.geo, h.links, h.clock, h.engines, h.arb, h.wind, h.declaration, h.bucketPhase, e, h.plans,
    h.channels, h.status, h.receiver, h.queue, h.hand, h.masks, h.errors, h.resetProgress⟩

theorem SameBlocks.sameButReply (h : SameBlocks s t) : SameButReply s t := h.sameButPort.sameButReply h.bookings

theorem Refreshed.sameButReply (h : Refreshed s t) : SameButReply s t := h.sameButPort.sameButReply h.bookings

theorem judging_sameButReply (s : State) : SameButReply s s.judging :=
  (nextEvent_sameBlocks s).sameButReply.trans
    ((refreshAll_refreshed _).sameButReply.trans (nextEvent_sameBlocks _).sameButReply)

theorem judging_tx (s : State) : s.judging.port.tx = s.port.tx := by
  unfold State.judging
  rw [nextEvent_port, (refreshAll_refreshed (nextEvent s)).quiet.port.tx, nextEvent_port]

theorem beginReply_bookings (s : State) : (beginReply s).bookings = s.bookings := by rw [beginReply_eq]

/-- The reply slot filled. -/
def State.holdReply (s : State) (r : Reply) : State := { s with port := { s.port with slot := some r } }

theorem placeReply_eq (tag : Byte) (kind : Nat) (a : Answer) (s : State) :
    placeReply tag kind a s = beginReply (s.holdReply ⟨tag, kind, a.code, a.body⟩) := rfl

theorem holdReply_sameButReply (s : State) (r : Reply) : SameButReply s (s.holdReply r) :=
  ⟨rfl, rfl, rfl, rfl, rfl, rfl, rfl, fun _ => rfl, rfl, rfl, rfl, rfl, rfl, rfl, rfl, rfl, rfl, rfl, rfl, rfl⟩

/-- An answered state is the answering block's but for the reply. -/
theorem replied_sameButReply (tag : Byte) (kind : Nat) (a : Answer) (u : State) :
    SameButReply u (replied tag kind a u) := by
  unfold replied
  rw [placeReply_eq]
  exact (holdReply_sameButReply u _).trans (((beginReply_sameButPort _).sameButReply (beginReply_bookings _)).trans
    (refreshAll_refreshed _).sameButReply)

/-- Where the reply of a placed answer stands (R182, R195). -/
theorem placeReply_carries (tag : Byte) (kind : Nat) (a : Answer) (u : State) :
    Carries u (placeReply tag kind a u) ⟨tag, kind, a.code, a.body⟩ := by
  rw [placeReply_eq]
  refine ⟨fun free => ?_, fun busy => ?_⟩
  · rw [beginReply_idle (s := u.holdReply _) free.1 rfl free.2]
    exact ⟨rfl, rfl⟩
  · rw [beginReply_blocked (s := u.holdReply _) (not_and_or.mp busy)]
    exact ⟨rfl, rfl⟩

theorem replied_carries {tag : Byte} {kind : Nat} {a : Answer} (tx : u.port.tx = s.port.tx) (power : u.power = s.power) :
    Carries s (replied tag kind a u) ⟨tag, kind, a.code, a.body⟩ := by
  have placed := placeReply_carries tag kind a u
  have fresh := (refreshAll_refreshed (placeReply tag kind a u)).quiet.port
  unfold Carries at placed ⊢
  unfold replied
  rw [fresh.tx, fresh.slot, ← tx, ← power]
  exact placed

/-- An answered state carries a reply, so that neither a request nor a report is begun. -/
theorem replied_busy (tag : Byte) (kind : Nat) (a : Answer) (u : State) :
    (replied tag kind a u).port.tx ≠ none ∨ (replied tag kind a u).port.slot ≠ none := by
  have carried := replied_carries (tag := tag) (kind := kind) (a := a) (s := u) (u := u) rfl rfl
  by_cases free : u.port.tx = none ∧ u.power.lowFor = none
  · rw [(carried.1 free).1]
    exact .inl (by simp)
  · rw [(carried.2 free).2]
    exact .inr (by simp)

theorem beginReport_busy (h : s.port.tx ≠ none ∨ s.port.slot ≠ none) : beginReport s = s := by
  unfold beginReport
  split
  · rename_i tx slot _
    exact absurd h (by simp [tx, slot])
  · rfl

/-- The port after a request taken at once and answered. -/
theorem submit_answered {tag : Byte} {r : Request} {a : Answer} (hs : s.Ready)
    (hd : dispatch r s.judging = (u, some a)) : submit tag r s = .next (replied tag r.kind a u) := by
  obtain ⟨on, queue, hand, slot, reset⟩ := hs
  have served : Served s.judging u := by have h := dispatch_served r s.judging; rwa [hd] at h
  have offered : offer ⟨tag, .typed r⟩ (nextEvent s) = (nextEvent s).putQueue [⟨tag, .typed r⟩] := by
    unfold offer nextEvent State.putQueue
    dsimp only
    rw [queue]
    rfl
  have judged : nextEvent ((refreshAll ((nextEvent s).putQueue [⟨tag, .typed r⟩])).putQueue []) = s.judging := by
    unfold State.judging
    rw [refreshAll_putQueue, putQueue_putQueue, putQueue_self]
    rw [(refreshAll_refreshed _).quiet.port.queue, nextEvent_port, queue]
  have fresh := (refreshAll_refreshed ((nextEvent s).putQueue [⟨tag, .typed r⟩])).quiet.port
  generalize hv : refreshAll ((nextEvent s).putQueue [⟨tag, .typed r⟩]) = v at judged fresh
  have noReply : beginReply v = v := by
    unfold beginReply
    rw [show v.port.slot = none from fresh.slot.trans slot]
    split
    · rename_i e; cases e
    · rfl
  have ready : v.portReady = true :=
    (portReady_iff v).mpr ⟨fresh.hand.trans hand, fresh.slot.trans slot, fresh.resetProgress.trans reset⟩
  have concluded : refreshAll (conclude tag r.kind (u, some a)) = replied tag r.kind a u := rfl
  have first : pump (Config.inputCapacity + 1) v = replied tag r.kind a u := by
    show pump (4 + 1) v = _
    rw [pump, if_pos ready, show v.port.queue = [⟨tag, .typed r⟩] from fresh.queue]
    dsimp only
    rw [show nextEvent { v with port := { v.port with queue := [] } } = s.judging from judged, takeRequest]
    dsimp only
    rw [hd, concluded]
    refine pump_of_blocked 4 (.inl ?_)
    exact ((replied_sameButReply tag r.kind a u).queue.trans served.queue).trans
      ((judging_sameButReply s).queue.trans queue)
  unfold submit event finish
  rw [if_pos on, offered, hv, noReply, first, beginReport_busy (replied_busy tag r.kind a u)]

/-- A request that is taken at once is answered as its block answers it. -/
theorem answered_of_dispatch {i : Instr} {tag : Byte} {r : Request} {code : ReplyCode} {body : ReplyBody} (hs : s.Ready)
    (e : exec i s = submit tag r s) (hd : dispatch r s.judging = (u, some ⟨code, body⟩)) (same : SameButReply v u) :
    Answered i s tag r.kind code body v := by
  have served : Served s.judging u := by have h := dispatch_served r s.judging; rwa [hd] at h
  exact ⟨replied tag r.kind ⟨code, body⟩ u, e.trans (submit_answered hs hd), replied_carries (served.tx.trans (judging_tx s))
    (served.power.trans (judging_sameButReply s).power), same.trans (replied_sameButReply _ _ _ _)⟩

/-- A request that its block answers without changing anything. -/
theorem answered_unchanged {i : Instr} {tag : Byte} {r : Request} {code : ReplyCode} {body : ReplyBody} (hs : s.Ready)
    (e : exec i s = submit tag r s) (hd : dispatch r s.judging = (s.judging, some ⟨code, body⟩)) :
    Answered i s tag r.kind code body s := answered_of_dispatch hs e hd (judging_sameButReply s)

end
end Sys2Proof.Machine
end

section
/-! SUPPORT and the statement O12. What each reading shows is read off its definition, reading by reading; none of them looks
at the port, the event counter or, READ_WIND apart, the storm marks, so that a request shows them as they stand. -/

namespace Sys2Proof.Machine

section
variable (s : State) (c : Slot)

/-! ## READ_CLOCK -/

/-- The time shown into a minute or tick of a length is the time passed, held to the last millisecond (log 51). -/
theorem min_pred_eq_ite (length passed : Nat) :
    min (length - 1) passed = if passed < length then passed else length - 1 := by
  split <;> omega

theorem clockReading_holds : Parts.ClockReading := by
  intro s
  refine ⟨rfl, rfl, fun h => ?_, fun t h => ?_, rfl, rfl, min_pred_eq_ite _ _, rfl⟩
  · show s.clock.minutePhase.map _ = none
    rw [h]
    rfl
  · show s.clock.minutePhase.map _ = _
    rw [h, Option.map_some, min_pred_eq_ite]
    rfl

/-! ## Storm marks and links -/

theorem mem_allZones (z : ZoneId) : z ∈ allZones := List.mem_map.mpr ⟨z.val, List.mem_range.mpr z.isLt, by simp⟩

theorem mem_zoneSet {p : ZoneId → Bool} {z : ZoneId} : z ∈ zoneSet p ↔ p z = true := by
  simp [zoneSet, mem_allZones]

theorem mem_waitingZones {ref : ClaimRef} {z : ZoneId} :
    z ∈ s.waitingZones ref ↔ ∃ cz ∈ s.claimZones ref, cz.zone = z ∧ cz.status = .waiting := by
  simp [State.waitingZones, mem_zoneSet]

/-- Another crane's STORM claim holds the zone. -/
theorem stormHolder_iff (h : Holding) :
    (match h with
      | .held d (.storm _) => d != c
      | _ => false) = true ↔ ∃ d e, h = .held d (.storm e) ∧ d ≠ c := by
  cases h with
  | held d ref => cases ref <;> simp
  | free => simp
  | closed => simp

theorem stormBlocked_iff : s.stormBlocked c = true ↔ Parts.StormBlocked s c := by
  unfold State.stormBlocked Parts.StormBlocked
  rw [List.any_eq_true]
  constructor
  · rintro ⟨z, mem, held⟩
    obtain ⟨cz, found, rfl, waits⟩ := (mem_waitingZones s).mp mem
    exact ⟨cz, found, waits, (stormHolder_iff c _).mp held⟩
  · rintro ⟨cz, mem, waits, held⟩
    exact ⟨cz.zone, (mem_waitingZones s).mpr ⟨cz, mem, rfl, waits⟩, (stormHolder_iff c _).mpr held⟩

theorem slotClaimed_iff :
    s.slotClaimed c = true ↔ (s.channel c).state = .active ∧ (s.channel c).phase = .waitingSlot := by
  simp [State.slotClaimed, Channel.active]

theorem linkReading_holds : Parts.LinkReading := by
  intro s c k h
  obtain ⟨r, -, rfl⟩ := Option.map_eq_some_iff.mp h
  refine ⟨stormBlocked_iff s c, rfl, rfl, rfl, rfl, fun e => ?_, fun f e => ?_, fun e => ?_, fun p e => ?_,
    slotClaimed_iff s c⟩
  · show (s.link c).lastSent.map _ = _
    rw [e]; rfl
  · show (s.link c).lastSent.map _ = _
    rw [e]; rfl
  · show (s.link c).lastPose.map _ = _
    rw [e]; rfl
  · show (s.link c).lastPose.map _ = _
    rw [e]; rfl

/-! ## READ_ZONE -/

theorem pendingIn_iff {ref : ClaimRef} {z : ZoneId} :
    s.pendingIn ref z = true ↔ ∃ cz ∈ s.claimZones ref, cz.zone = z ∧ cz.pending ≠ none := by
  simp [State.pendingIn, Option.isSome_iff_ne_none]

theorem key_pool_stamp (n : Nat) : (s.key (.pool n)).stamp = n := by
  unfold State.key
  dsimp only
  split
  · split <;> rfl
  · rfl

variable {s}

/-- The holder claim of a zone that is HELD. -/
theorem readZone_held {z : ZoneId} {ref : ClaimRef} (h : (s.zone z).holding = .held c ref) :
    (s.readZone z).holder = some (c, s.readClaim ref) ∧ (s.readZone z).conversionPending = s.pendingIn ref z := by
  unfold State.readZone
  dsimp only
  rw [h]
  exact ⟨rfl, rfl⟩

theorem readClaim_pool {n : Nat} {r : PoolRecord} (h : s.poolRec? n = some r) :
    (s.readClaim (.pool n)).id = r.id ∧ (s.readClaim (.pool n)).booking = r.booking ∧
      (s.readClaim (.pool n)).stamp = n := by
  refine ⟨?_, ?_, key_pool_stamp s n⟩
  · show ((s.poolRec? n).map _).getD 0 = _
    rw [h]
    rfl
  · show (s.poolRec? n).bind _ = _
    rw [h]
    rfl

theorem readZone_substate (z : ZoneId) : (s.readZone z).evicting = (s.zone z).substate? := rfl

theorem readZone_dwell_pool {z : ZoneId} {n : Nat} {r : PoolRecord} (held : (s.zone z).holding = .held c (.pool n))
    (found : s.poolRec? n = some r) : (s.readZone z).dwell =
      if r.kind = .transit then
        some ((s.engine c).occupancy.contains z || (s.engine c).reach.contains z, r.dwell) else none := by
  unfold State.readZone State.poolKind?
  dsimp only
  rw [held]
  dsimp only
  rw [found]
  cases h : r.kind <;> simp [h]

theorem readEntry_passedOver (z : ZoneId) (x : ClaimRef) :
    (s.readEntry z x).passedOver = true ↔ ∃ c, s.claimCrane? x = some c ∧ (s.link c).state = .stale := by
  unfold State.readEntry
  dsimp only
  split
  · rename_i c e
    simp [e]
  · rename_i e
    simp [e]

theorem readEntry_stormBlocked (z : ZoneId) (x : ClaimRef) : (s.readEntry z x).stormBlocked = true ↔
    ∃ c d f, x = .storm c ∧ (s.zone z).holding = .held d (.storm f) ∧ d ≠ c := by
  unfold State.readEntry
  dsimp only
  cases x with
  | storm c =>
    have h := stormHolder_iff c (s.zone z).holding
    constructor
    · intro blocked
      obtain ⟨d, e, held, other⟩ := h.mp (by
        revert blocked
        cases (s.zone z).holding with
        | held d ref => cases ref <;> exact id
        | free => exact id
        | closed => exact id)
      exact ⟨c, d, e, rfl, held, other⟩
    · rintro ⟨_, d, e, ⟨rfl⟩, held, other⟩
      rw [held]
      exact bne_iff_ne.mpr other
  | pool n => simp
  | closure z => simp

theorem zoneClaimReadings_holds : Parts.ZoneClaimReadings := by
  intro s z
  refine ⟨fun c ref held => ?_, fun c n r held found => ⟨⟨_, (readZone_held c held).1, readClaim_pool found⟩, ?_, ?_, ?_⟩,
    fun c d held => ⟨⟨_, (readZone_held c held).1, rfl, rfl, rfl⟩, ?_, ?_⟩, fun none => ?_, fun n r reserved found => ?_,
    fun i x e atS atRead => ?_⟩
  · rw [(readZone_held c held).2]
    exact pendingIn_iff s
  · rw [readZone_substate, ZoneRecord.substate?, held]
  · intro standing
    rw [readZone_dwell_pool c held found, standing]
    rfl
  · intro transit
    refine ⟨_, (readZone_dwell_pool c held found).trans (if_pos transit), ?_⟩
    simp
  · rw [readZone_substate, ZoneRecord.substate?, held]
    cases (s.zone z).evictees with
    | nil => rfl
    | cons => simp
  · unfold State.readZone
    dsimp only
    rw [held]
  · show (s.zone z).reservedFor.map _ = _
    rw [none]
    rfl
  · refine ⟨s.readClaim (.pool n), ?_, readClaim_pool found⟩
    show (s.zone z).reservedFor.map _ = _
    rw [reserved]
    rfl
  · have shown : e = s.readEntry z x := by
      have h : ((s.zone z).waiting.map (s.readEntry z))[i]? = some e := atRead
      rw [List.getElem?_map, atS] at h
      exact (Option.some.inj h).symm
    subst shown
    exact ⟨rfl, rfl, rfl, readEntry_passedOver z x, readEntry_stormBlocked z x⟩

/-! ## READ_WIND and READ_CHANNEL -/

theorem windAndChannelReadings_holds : Parts.WindAndChannelReadings := by
  intro s c
  refine ⟨rfl, rfl, rfl, rfl, rfl, rfl, rfl, rfl, rfl, rfl, stormBlocked_iff s c, fun b n x saved cur ret found kept => ?_⟩
  unfold State.readChannel
  dsimp only
  rw [cur]
  simp [ret, found, kept]

/-- The zones of a storm record come ascending, each with its status and substate (R192). -/
theorem mem_readStorm {z : ZoneId} {st : ZoneStatus} {sub : Option Bool} : (z, st, sub) ∈ s.readStorm c ↔
    (∃ cz ∈ (s.storm c).zones, cz.zone = z ∧ cz.status = st) ∧ sub = (s.zone z).substate? := by
  unfold State.readStorm
  simp only [List.mem_flatMap, List.mem_map, List.mem_filter, beq_iff_eq, Prod.mk.injEq]
  constructor
  · rintro ⟨_, -, cz, ⟨mem, rfl⟩, rfl, rfl, rfl⟩
    exact ⟨⟨cz, mem, rfl, rfl⟩, rfl⟩
  · rintro ⟨⟨cz, mem, rfl, rfl⟩, rfl⟩
    exact ⟨cz.zone, mem_allZones _, cz, ⟨mem, rfl⟩, rfl, rfl, rfl⟩

theorem allZones_pairwise : allZones.Pairwise (· < ·) := by decide

theorem readStorm_pairwise : (s.readStorm c).Pairwise fun a b => a.1 ≤ b.1 := by
  unfold State.readStorm
  refine List.pairwise_flatMap.mpr ⟨fun z _ => ?_, allZones_pairwise.imp fun {y z} below a ha b hb => ?_⟩
  · exact List.pairwise_map.mpr (List.pairwise_of_forall fun _ _ => le_refl z)
  · obtain ⟨_, -, rfl⟩ := List.mem_map.mp ha
    obtain ⟨_, -, rfl⟩ := List.mem_map.mp hb
    exact below.le

/-! ## READ_CRANE, READ_ZONE and the records -/

theorem mem_readHolds {z : ZoneId} {kind : ClaimKind} :
    (z, kind) ∈ s.readHolds c ↔ ∃ ref, (s.zone z).holding = .held c ref ∧ kind = s.claimKind ref := by
  unfold State.readHolds
  rw [List.mem_filterMap]
  constructor
  · rintro ⟨y, -, shown⟩
    split at shown
    · rename_i h ref held
      split at shown
      · rename_i own
        obtain ⟨rfl, rfl⟩ := Prod.mk.inj (Option.some.inj shown)
        exact ⟨ref, beq_iff_eq.mp own ▸ held, rfl⟩
      · cases shown
    · cases shown
  · rintro ⟨ref, held, rfl⟩
    refine ⟨z, mem_allZones z, ?_⟩
    rw [held]
    exact if_pos (beq_self_eq_true c)

theorem readZone_holder_none (z : ZoneId) :
    (s.readZone z).holder = none ↔ ∀ c ref, (s.zone z).holding ≠ .held c ref := by
  unfold State.readZone
  dsimp only
  cases (s.zone z).holding <;> simp

theorem craneAndZoneReadings_holds : Parts.CraneAndZoneReadings := by
  intro s
  refine ⟨fun _ => rfl, fun n r found => ?_, fun c => ?_, fun c k h => ?_, fun z => ?_⟩
  · unfold State.claimKind State.poolKind?
    dsimp only
    rw [found]
    dsimp only [Option.map_some]
    cases r.kind <;> rfl
  · cases h : (s.slotOf c).record <;> simp [State.readCrane, State.record?, State.configured, h]
  · obtain ⟨r, found, rfl⟩ := Option.map_eq_some_iff.mp h
    exact ⟨found, rfl, rfl, rfl, rfl, rfl, rfl, rfl, rfl, rfl, rfl, rfl, rfl, rfl, fun z kind => mem_readHolds c⟩
  · refine ⟨rfl, rfl, beq_iff_eq, readZone_holder_none z, fun c ref held => ⟨_, (readZone_held c held).1, rfl⟩, rfl, ?_, ?_,
      ?_⟩
    · exact List.length_map _
    · exact List.map_map
    · exact List.map_map

theorem causeAutoClears_iff :
    (s.readFault c).causeAutoClears = true ↔ ∃ f, (s.crane c).fault = some f ∧ f.cause ∈ s.profile.autoClear := by
  unfold State.readFault State.activeCause?
  cases (s.crane c).fault <;> simp

theorem recordReadings_holds : Parts.RecordReadings := by
  intro s
  refine ⟨fun n => Option.map_eq_none_iff, fun n k h => ?_, fun c => ⟨rfl, rfl, fun b cur => ?_, fun n r placed found => ?_⟩,
    fun c => ⟨rfl, rfl, rfl, rfl, rfl, rfl, rfl, rfl, rfl, readStorm_pairwise c, fun z st sub => mem_readStorm c⟩,
    fun c => ⟨rfl, rfl, causeAutoClears_iff c⟩⟩
  · obtain ⟨b, found, rfl⟩ := Option.map_eq_some_iff.mp h
    refine ⟨found, fun running current => ?_, fun other => ?_⟩
    · dsimp only at running current ⊢
      rw [if_pos]
      simp [running, current]
    · dsimp only at other ⊢
      rw [if_neg]
      simp [other]
  · show (s.current? c).map _ = _
    rw [cur]
    rfl
  · unfold State.readChannel
    dsimp only
    rw [placed]
    dsimp only
    rw [found]
    rfl

theorem craneReportShowsContexts_holds : Parts.CraneReportShowsContexts := by
  intro s c
  refine ⟨fun unconfigured => ?_, fun k h => ?_⟩
  · have none : s.readCrane c = none := (craneAndZoneReadings_holds s).2.2.1 c |>.mpr unconfigured
    show Snapshot.crane ((s.readCrane c).map _) = _
    rw [none]
    rfl
  · refine ⟨⟨k, (s.crane c).faultContext, (s.crane c).lockoutContext⟩, ?_, rfl, rfl, rfl⟩
    show Snapshot.crane ((s.readCrane c).map _) = _
    rw [h]
    rfl

/-! ## The requests -/

variable {t : State}

/-- What the readings but READ_WIND look at is not what the reply to a request changes. -/
theorem SameButReply.readings (h : SameButReply s t) : t.readClock = s.readClock ∧
    (∀ c, t.configured c = s.configured c) ∧ (∀ c, t.readCrane c = s.readCrane c) ∧ (∀ z, t.readZone z = s.readZone z) ∧
    (∀ n, t.readBooking n = s.readBooking n) ∧ (∀ c, t.readChannel c = s.readChannel c) ∧
    ∀ c, t.readFault c = s.readFault c := by
  obtain ⟨_, power, geo, links, clock, engines, arb, _, _, _, bookings, _, channels, status, _, _, _, _, _, _⟩ := h
  cases s
  cases t
  subst power geo links clock engines arb bookings channels status
  exact ⟨rfl, fun _ => rfl, fun _ => rfl, fun _ => rfl, fun _ => rfl, fun _ => rfl, fun _ => rfl⟩

theorem slotOf?_val (c : Slot) : slotOf? c.val = some c := dif_pos c.isLt

theorem zoneOf?_val (z : ZoneId) : zoneOf? z.val = some z := dif_pos z.isLt

theorem slotOf?_ge {n : Nat} (h : 12 ≤ n) : slotOf? n = none := dif_neg (Nat.not_lt.mpr h)

theorem zoneOf?_ge {n : Nat} (h : 48 ≤ n) : zoneOf? n = none := dif_neg (Nat.not_lt.mpr h)

theorem onSlot_val (c : Slot) (f : Slot → State → State × Answer) (s : State) : onSlot c.val f s = f c s := by
  unfold onSlot
  rw [slotOf?_val]

theorem onSlot_ge {n : Nat} (h : 12 ≤ n) (f : Slot → State → State × Answer) (s : State) :
    onSlot n f s = (s, codeOnly .badValue) := by
  unfold onSlot
  rw [slotOf?_ge h]

theorem onCrane_configured (h : s.configured c = true) (f : Slot → State → State × Answer) :
    onCrane c.val f s = f c s := (onSlot_val c _ s).trans (if_pos h)

theorem onCrane_unconfigured (h : s.configured c = false) (f : Slot → State → State × Answer) :
    onCrane c.val f s = (s, codeOnly .notConfigured) :=
  (onSlot_val c _ s).trans (if_neg (Bool.eq_false_iff.mp h))

theorem onCrane_ge {n : Nat} (h : 12 ≤ n) (f : Slot → State → State × Answer) :
    onCrane n f s = (s, codeOnly .badValue) := onSlot_ge h _ s

/-- A request whose block gives an answer and changes nothing. -/
theorem answered_reading {i : Instr} {tag : Byte} {r : Request} {a : Answer} (d : State → State × Answer)
    (hs : s.Ready) (e : exec i s = submit tag r s) (hr : ∀ u, dispatch r u = answered (d u))
    (hd : d s.judging = (s.judging, a)) : Answered i s tag r.kind a.code a.body s :=
  answered_unchanged hs e (by rw [hr, hd]; rfl)

end

/-- The requests of the readings on a state in which the port takes them. -/
theorem readingRequests_answered (tag : Byte) {s : State} (hs : s.Ready) :
    Answered (.identify tag) s tag 1 .ok s.identity s ∧ Answered (.readClock tag) s tag 4 .ok (.clock s.readClock) s ∧
    (∀ c : Slot, ∀ k, s.readCrane c = some k → Answered (.readCrane tag c.val) s tag 28 .ok (.crane k) s) ∧
    (∀ c : Slot, s.readCrane c = none → Answered (.readCrane tag c.val) s tag 28 .ok .craneUnconfigured s) ∧
    (∀ z : ZoneId, Answered (.readZone tag z.val) s tag 29 .ok (.zone (s.readZone z)) s) ∧
    (∀ n k, s.readBooking n = some k → Answered (.readBooking tag n) s tag 30 .ok (.booking k) s) ∧
    (∀ n, s.readBooking n = none → RefusedWith (.readBooking tag n) s tag 30 .notFound) := by
  have same := judging_sameButReply s
  obtain ⟨clock, -, crane, zone, booking, -, -⟩ := same.readings
  have identity : s.judging.identity = s.identity := by unfold State.identity; rw [same.power, same.geo]
  refine ⟨?_, ?_, fun c k h => ?_, fun c h => ?_, fun z => ?_, fun n k h => ?_, fun n h => ?_⟩
  · exact answered_reading (r := .identify) (a := okWith s.identity) doIdentify hs rfl (fun _ => rfl)
      (congrArg (fun b => (s.judging, okWith b)) identity)
  · exact answered_reading (r := .readClock) (a := okWith (.clock s.readClock)) doReadClock hs rfl (fun _ => rfl)
      (congrArg (fun b => (s.judging, okWith (.clock b))) clock)
  · refine answered_reading (r := .readCrane c.val) (a := okWith (.crane k)) (doReadCrane c.val)
      hs rfl (fun _ => rfl) ?_
    refine (onSlot_val c _ _).trans ?_
    rw [crane c, h]
  · refine answered_reading (r := .readCrane c.val) (a := okWith .craneUnconfigured) (doReadCrane c.val)
      hs rfl (fun _ => rfl) ?_
    refine (onSlot_val c _ _).trans ?_
    rw [crane c, h]
  · refine answered_reading (r := .readZone z.val) (a := okWith (.zone (s.readZone z))) (doReadZone z.val)
      hs rfl (fun _ => rfl) ?_
    unfold doReadZone
    rw [zoneOf?_val, ← zone z]
  · refine answered_reading (r := .readBooking n) (a := okWith (.booking k)) (doReadBooking n)
      hs rfl (fun _ => rfl) ?_
    unfold doReadBooking
    rw [booking n, h]
  · refine answered_reading (r := .readBooking n) (a := codeOnly .notFound) (doReadBooking n)
      hs rfl (fun _ => rfl) ?_
    unfold doReadBooking
    rw [booking n, h]

theorem readingOf_configured {u : State} {c : Slot} (h : u.configured c = true) (f : State → Slot → ReplyBody) :
    readingOf c.val f u = (u, okWith (f u c)) := onCrane_configured c h _

theorem readingOf_unconfigured {u : State} {c : Slot} (h : u.configured c = false) (f : State → Slot → ReplyBody) :
    readingOf c.val f u = (u, codeOnly .notConfigured) := onCrane_unconfigured c h _

theorem readingOf_ge {n : Nat} (h : 12 ≤ n) (f : State → Slot → ReplyBody) (u : State) :
    readingOf n f u = (u, codeOnly .badValue) := onCrane_ge h _

/-- A request that reads one configured slot. -/
theorem answered_readingOf {s : State} {i : Instr} {tag : Byte} {r : Request} {n : Nat} {a : Answer}
    (f : State → Slot → ReplyBody) (hs : s.Ready) (e : exec i s = submit tag r s)
    (hr : ∀ u, dispatch r u = answered (readingOf n f u)) (hd : readingOf n f s.judging = (s.judging, a)) :
    Answered i s tag r.kind a.code a.body s := answered_reading (readingOf n f) hs e hr hd

/-- The three requests that read a configured slot's records, answered alike. -/
theorem slotReadings_answered (tag : Byte) {s : State} (hs : s.Ready) {n : Nat} (a : (State → Slot → ReplyBody) → Answer)
    (hd : ∀ f, readingOf n f s.judging = (s.judging, a f)) :
    Answered (.readChannel tag n) s tag 31 (a fun s c => .channel (s.readChannel c)).code
        (a fun s c => .channel (s.readChannel c)).body s ∧
      Answered (.readWind tag n) s tag 32 (a fun s c => .wind (s.readWind c)).code
        (a fun s c => .wind (s.readWind c)).body s ∧
      Answered (.readFault tag n) s tag 33 (a fun s c => .fault (s.readFault c)).code
        (a fun s c => .fault (s.readFault c)).body s :=
  ⟨answered_readingOf (r := .readChannel n) _ hs rfl (fun _ => rfl) (hd _),
    answered_readingOf (r := .readWind n) _ hs rfl (fun _ => rfl) (hd _),
    answered_readingOf (r := .readFault n) _ hs rfl (fun _ => rfl) (hd _)⟩

theorem channelReadings_answered (tag : Byte) {s : State} (hs : s.Ready) (c : Slot) (h : s.configured c = true) :
    Answered (.readChannel tag c.val) s tag 31 .ok (.channel (s.readChannel c)) s ∧
      Answered (.readWind tag c.val) s tag 32 .ok (.wind (s.judging.readWind c)) s ∧
      Answered (.readFault tag c.val) s tag 33 .ok (.fault (s.readFault c)) s := by
  obtain ⟨-, configured, -, -, -, channel, fault⟩ := (judging_sameButReply s).readings
  rw [← channel c, ← fault c]
  exact slotReadings_answered tag hs (fun f => okWith (f s.judging c))
    (readingOf_configured ((configured c).trans h))

theorem channelReadings_unconfigured (tag : Byte) {s : State} (hs : s.Ready) (c : Slot) (h : s.configured c = false) :
    RefusedWith (.readChannel tag c.val) s tag 31 .notConfigured ∧
      RefusedWith (.readWind tag c.val) s tag 32 .notConfigured ∧
      RefusedWith (.readFault tag c.val) s tag 33 .notConfigured :=
  slotReadings_answered tag hs (fun _ => codeOnly .notConfigured)
    (readingOf_unconfigured (((judging_sameButReply s).readings.2.1 c).trans h))

theorem readings_outOfRange (tag : Byte) {s : State} (hs : s.Ready) (n : Nat) (h : 12 ≤ n) :
    RefusedWith (.readCrane tag n) s tag 28 .badValue ∧ RefusedWith (.readChannel tag n) s tag 31 .badValue ∧
      RefusedWith (.readWind tag n) s tag 32 .badValue ∧ RefusedWith (.readFault tag n) s tag 33 .badValue :=
  ⟨answered_reading (r := .readCrane n) (doReadCrane n) hs rfl (fun _ => rfl) (onSlot_ge h _ _),
    slotReadings_answered tag hs (fun _ => codeOnly .badValue) fun f => readingOf_ge h f _⟩

theorem readZone_outOfRange (tag : Byte) {s : State} (hs : s.Ready) (n : Nat) (h : 48 ≤ n) :
    RefusedWith (.readZone tag n) s tag 29 .badValue := by
  refine answered_reading (r := .readZone n) (a := codeOnly .badValue) (doReadZone n)
      hs rfl (fun _ => rfl) ?_
  unfold doReadZone
  rw [zoneOf?_ge h]

end Sys2Proof.Machine

open Sys2Proof Sys2Proof.Machine

/-- Settles O12: each reading is its definition's, and none of them looks at what taking and answering a request changes,
but for the storm marks of READ_WIND, which are those of the state in which the request is judged. -/
theorem readingsAnswer : Obligations.ReadingsAnswer := by
  refine ⟨clockReading_holds, linkReading_holds, zoneClaimReadings_holds, windAndChannelReadings_holds,
    craneAndZoneReadings_holds, recordReadings_holds, craneReportShowsContexts_holds, fun tag s hs => ?_⟩
  obtain ⟨identity, clock, crane, unconfigured, zone, booking, noBooking⟩ := readingRequests_answered tag hs
  exact ⟨identity, clock, crane, unconfigured, zone, booking, noBooking, channelReadings_answered tag hs,
    channelReadings_unconfigured tag hs, readings_outOfRange tag hs, readZone_outOfRange tag hs⟩
end

section
/-! SUPPORT and the statements O49 and O51: what the transmitter of a cab line chooses, case by case, and the messages that
change a link and a channel. States are compared by `SameBlocks`, which leaves out marks and the event counter. -/

namespace Sys2Proof.Machine

/-! ## Reading back and comparing -/

section
variable {s t u w : State} {c d : Slot}

theorem updLink_link (c d : Slot) (f : Link → Link) (s : State) :
    (updLink c f s).link d = if c = d then f (s.link c) else s.link d := by
  rw [← State.putLink_link]
  unfold updLink State.link
  rw [markIf_links]

theorem updChannel_channel (c d : Slot) (f : Channel → Channel) (s : State) :
    (updChannel c f s).channel d = if c = d then f (s.channel c) else s.channel d := by
  rw [← State.putChannel_channel]
  unfold updChannel State.channel
  rw [markIf_channels]

theorem updCrane_crane (c d : Slot) (f : CraneStatus → CraneStatus) (s : State) :
    (updCrane c f s).crane d = if c = d then f (s.crane c) else s.crane d := by
  rw [← State.putCrane_crane]
  unfold updCrane State.crane
  rw [markIf_status]

theorem updEngine_engine (c d : Slot) (f : Engine → Engine) (s : State) :
    (updEngine c f s).engine d = if c = d then f (s.engine c) else s.engine d := State.putEngine_engine ..

theorem putAt_putAt {α : Type} {n : Nat} (v : Vector α n) (i : Fin n) (x y : α) : putAt (putAt v i x) i y = putAt v i y := by
  unfold putAt
  exact Vector.set_set ..

theorem State.putLink_putLink (s : State) (c : Slot) (x y : Link) : (s.putLink c x).putLink c y = s.putLink c y := by
  unfold State.putLink
  rw [putAt_putAt]

theorem SameBlocks.putLink (h : SameBlocks u w) (c : Slot) (x : Link) : SameBlocks (u.putLink c x) (w.putLink c x) where
  pending := h.pending
  power := h.power
  geo := h.geo
  links := congrArg (putAt · c x) h.links
  clock := h.clock
  engines := h.engines
  arb := h.arb
  wind := h.wind
  bookings := h.bookings
  plans := h.plans
  channels := h.channels
  status := h.status
  port := h.port

theorem SameBlocks.putChannel (h : SameBlocks u w) (c : Slot) (x : Channel) :
    SameBlocks (u.putChannel c x) (w.putChannel c x) where
  pending := h.pending
  power := h.power
  geo := h.geo
  links := h.links
  clock := h.clock
  engines := h.engines
  arb := h.arb
  wind := h.wind
  bookings := h.bookings
  plans := h.plans
  channels := congrArg (putAt · c x) h.channels
  status := h.status
  port := h.port

/-- What the marks and the event counter are not asked for. -/
theorem SameBlocks.readings (h : SameBlocks u w) : (∀ c, w.link c = u.link c) ∧ (∀ c, w.channel c = u.channel c) ∧
    (∀ c, w.step? c = u.step? c) ∧ (∀ c, w.stepNotice? c = u.stepNotice? c) ∧ w.silent = u.silent ∧ w.now = u.now := by
  obtain ⟨_, power, geo, links, clock, _, _, _, bookings, plans, channels, _, _⟩ := h
  cases u
  cases w
  subst power geo links clock bookings plans channels
  exact ⟨fun _ => rfl, fun _ => rfl, fun _ => rfl, fun _ => rfl, rfl, rfl⟩

theorem SameBlocks.updLink {f : Link → Link} {x : Link} (h : SameBlocks u w) (c : Slot) (e : f (u.link c) = x) :
    SameBlocks (u.putLink c x) (updLink c f w) := by
  subst e
  rw [← h.readings.1 c]
  exact (h.putLink c _).trans (markIf_sameBlocks _ _ (.refl _))

theorem SameBlocks.updChannel {f : Channel → Channel} {x : Channel} (h : SameBlocks u w) (c : Slot)
    (e : f (u.channel c) = x) : SameBlocks (u.putChannel c x) (updChannel c f w) := by
  subst e
  rw [← h.readings.2.1 c]
  exact (h.putChannel c _).trans (markIf_sameBlocks _ _ (.refl _))

/-- A second change of the same link. -/
theorem SameBlocks.updLink_again {f : Link → Link} {x y : Link} (h : SameBlocks (u.putLink c x) w) (e : f x = y) :
    SameBlocks (u.putLink c y) (Machine.updLink c f w) := by
  have k := h.updLink c (f := f) (x := y) (by rw [State.putLink_link, if_pos rfl, e])
  rwa [State.putLink_putLink] at k

/-! ## What the transmitter of a cab line chooses (R34) -/

theorem kickCab_busy (h : (s.link c).tx ≠ none ∨ s.power.lowFor ≠ none) : kickCab c s = s := by
  unfold kickCab State.silent
  rw [if_pos]
  rw [Bool.or_eq_true, Option.isSome_iff_ne_none, Option.isSome_iff_ne_none]
  exact h.symm

/-- An idle transmitter on a high line may choose. -/
theorem cabFree (tx : (s.link c).tx = none) (high : s.power.lowFor = none) :
    ¬ (s.silent || (s.link c).tx.isSome) = true := by
  unfold State.silent
  rw [tx, high]
  decide

theorem kickCab_limit {g : StampedFrame} (tx : (s.link c).tx = none) (high : s.power.lowFor = none)
    (slot : (s.link c).slot = some g) : kickCab c s =
      updLink c (fun l => { l with tx := some (.limit g), slot := none, lastSent := some g, repeatFrom := some s.now })
        s := by
  unfold kickCab
  rw [if_neg (cabFree tx high), slot]

theorem kickCab_idle (tx : (s.link c).tx = none) (high : s.power.lowFor = none) (slot : (s.link c).slot = none)
    (notices : (s.link c).notices = []) : kickCab c s = s := by
  unfold kickCab
  rw [if_neg (cabFree tx high), slot, notices]

theorem kickCab_notice {n : CabNotice} {rest : List CabNotice} (tx : (s.link c).tx = none) (high : s.power.lowFor = none)
    (slot : (s.link c).slot = none) (notices : (s.link c).notices = n :: rest) : kickCab c s =
      placeFreed c (updLink c (fun l => { l with tx := some (.notice n), notices := rest }) s) := by
  unfold kickCab
  rw [if_neg (cabFree tx high), slot, notices]

theorem placeFreed_unclaimed (h : (s.channel c).state ≠ .active ∨ (s.channel c).phase ≠ .waitingSlot) :
    placeFreed c s = s := by
  unfold placeFreed
  rw [if_neg]
  rw [slotClaimed_iff]
  exact fun ⟨active, waits⟩ => h.elim (fun h => h active) (fun h => h waits)

theorem placeFreed_claimed {n : CabNotice} (active : (s.channel c).state = .active)
    (waits : (s.channel c).phase = .waitingSlot) (notice : s.stepNotice? c = some n) :
    placeFreed c s = noticeEntered c (updLink c (fun l => { l with notices := l.notices ++ [n] }) s) := by
  unfold placeFreed
  rw [if_pos ((slotClaimed_iff s c).mpr ⟨active, waits⟩), notice]

theorem noticeEntered_ack {code limit : Nat} {o : OnTimeout} (step : s.step? c = some (.ack code limit o)) :
    noticeEntered c s = updChannel c (fun ch => { ch with phase := .waitingAck }) s := by
  unfold noticeEntered
  rw [step]

theorem noticeEntered_notify {code p1 p2 : Nat} (step : s.step? c = some (.notify code p1 p2)) :
    noticeEntered c s = updChannel c (fun ch => ch.completed (ch.step + 1)) s := by
  unfold noticeEntered
  rw [step]

theorem stepNotice?_notify {code p1 p2 : Nat} (step : s.step? c = some (.notify code p1 p2)) :
    s.stepNotice? c = some (.coded code false p1 p2) := by
  unfold State.stepNotice?
  rw [step]

theorem stepNotice?_ack {code limit b : Nat} {o : OnTimeout} (step : s.step? c = some (.ack code limit o))
    (booking : (s.channel c).booking = some b) : s.stepNotice? c = some (.coded code true b (s.channel c).step) := by
  unfold State.stepNotice?
  rw [step, booking]

/-! ## LIMIT_REPEAT and CAB_TX_DONE -/

/-- A link event whose work is without effect. -/
theorem leaves_unchanged {i : Instr} (f : State → State) (e : exec i s = event f s) (on : s.power.on = true)
    (h : s.NoTake) (none : f (nextEvent s) = nextEvent s) : Leaves i s s :=
  leaves_of_event f e on (by rw [none]; exact h) (by rw [none]; exact nextEvent_sameBlocks s)

/-- A link event whose work is u but for marks. -/
theorem leaves_worked {i : Instr} (f : State → State) (e : exec i s = event f s) (on : s.power.on = true) (h : s.NoTake)
    (port : u.port = s.port) (power : u.power = s.power) (same : SameBlocks u (f (nextEvent s))) : Leaves i s u := by
  refine leaves_of_event f e on (State.NoTake.of_eq (s := s) ?_ ?_ ?_ ?_ ?_ (same.power.trans power) h) same
  all_goals rw [same.port, port]

theorem limitRepeat_leaves (on : s.power.on = true) (h : s.NoTake) (port : u.port = s.port) (power : u.power = s.power)
    (same : SameBlocks u (repeatLimit c (nextEvent s))) : Leaves (.limitRepeat c) s u :=
  leaves_worked (repeatLimit c) rfl on h port power same

theorem cabTxDone_leaves (on : s.power.on = true) (h : s.NoTake) (port : u.port = s.port) (power : u.power = s.power)
    (same : SameBlocks u (cabTxFinished c (nextEvent s))) : Leaves (.cabTxDone c) s u :=
  leaves_worked (cabTxFinished c) rfl on h port power same

theorem repeatDue_none (h : (s.link c).repeatFrom = none) : s.repeatDue c = false := by
  unfold State.repeatDue
  rw [h]

theorem repeatDue_some {t0 : Ms} (h : (s.link c).repeatFrom = some t0) : s.repeatDue c = decide (t0 + 250 ≤ s.now) := by
  unfold State.repeatDue
  rw [h]
  rfl

theorem repeatLimit_notDue (h : s.repeatDue c = false) : repeatLimit c s = s := if_neg (by rw [h]; decide)

theorem repeatLimit_due (h : s.repeatDue c = true) : repeatLimit c s =
    kickCab c (updLink c (fun l =>
      { l with repeatFrom := none, slot := if l.slot.isSome then l.slot else l.lastSent }) s) := if_pos h

/-- When the repeat is due on a busy line, the slot is filled from the last sent frame and nothing is begun. -/
theorem repeatLimit_busy {t0 : Ms} (timed : (s.link c).repeatFrom = some t0) (due : t0 + 250 ≤ s.now)
    (busy : (s.link c).tx ≠ none) : SameBlocks
      (s.putLink c
        { s.link c with
          repeatFrom := none, slot := if (s.link c).slot = none then (s.link c).lastSent else (s.link c).slot })
      (repeatLimit c s) := by
  rw [repeatLimit_due ((repeatDue_some timed).trans (decide_eq_true due)), kickCab_busy]
  · refine (SameBlocks.refl s).updLink c ?_
    cases (s.link c).slot <;> rfl
  · rw [updLink_link, if_pos rfl]
    exact .inl busy

/-- When the repeat is due on an idle line with an empty slot, the last sent frame is begun again. -/
theorem repeatLimit_sends {t0 : Ms} {g : StampedFrame} (timed : (s.link c).repeatFrom = some t0) (due : t0 + 250 ≤ s.now)
    (tx : (s.link c).tx = none) (high : s.power.lowFor = none) (slot : (s.link c).slot = none)
    (sent : (s.link c).lastSent = some g) : SameBlocks
      (s.putLink c { s.link c with tx := some (.limit g), repeatFrom := some s.now }) (repeatLimit c s) := by
  rw [repeatLimit_due ((repeatDue_some timed).trans (decide_eq_true due))]
  have placed : SameBlocks (s.putLink c { s.link c with repeatFrom := none, slot := some g })
      (updLink c (fun l => { l with repeatFrom := none, slot := if l.slot.isSome then l.slot else l.lastSent }) s) := by
    refine (SameBlocks.refl s).updLink c ?_
    simp [slot, sent]
  have link := placed.readings.1 c
  rw [State.putLink_link, if_pos rfl] at link
  rw [kickCab_limit (g := g) (by rw [link]; exact tx) (by rw [placed.power]; exact high) (by rw [link])]
  refine placed.updLink_again ?_
  rw [placed.readings.2.2.2.2.2, ← slot, ← sent]
  rfl

theorem cabTxFinished_idle (h : (s.link c).tx = none ∨ s.power.lowFor ≠ none) : cabTxFinished c s = s := by
  unfold cabTxFinished State.silent
  rw [if_pos]
  rw [Bool.or_eq_true, Option.isSome_iff_ne_none, Option.isNone_iff_eq_none]
  exact h.symm

theorem cabTxFinished_ends (tx : (s.link c).tx ≠ none) (high : s.power.lowFor = none) :
    cabTxFinished c s = kickCab c (updLink c (fun l => { l with tx := none }) s) := by
  unfold cabTxFinished State.silent
  rw [if_neg]
  rw [high, Bool.or_eq_true, Option.isNone_iff_eq_none]
  exact fun h => h.elim (by decide) tx

/-- The frame sent has ended: what the choice that follows starts from. -/
theorem cabTxFinished_begun (tx : (s.link c).tx ≠ none) (high : s.power.lowFor = none) : ∃ v,
    cabTxFinished c s = kickCab c v ∧ SameBlocks (s.putLink c { s.link c with tx := none }) v ∧
      v.link c = { s.link c with tx := none } ∧ v.power.lowFor = none := by
  have same : SameBlocks (s.putLink c { s.link c with tx := none }) (updLink c (fun l => { l with tx := none }) s) :=
    (SameBlocks.refl s).updLink c rfl
  refine ⟨_, cabTxFinished_ends tx high, same, ?_, ?_⟩
  · rw [same.readings.1, State.putLink_link, if_pos rfl]
  · rw [same.power]
    exact high

theorem cabTxFinished_limit {g : StampedFrame} (tx : (s.link c).tx ≠ none) (high : s.power.lowFor = none)
    (slot : (s.link c).slot = some g) : SameBlocks
      (s.putLink c { s.link c with tx := some (.limit g), slot := none, lastSent := some g, repeatFrom := some s.now })
      (cabTxFinished c s) := by
  obtain ⟨v, e, same, link, free⟩ := cabTxFinished_begun tx high
  rw [e, kickCab_limit (g := g) (by rw [link]) free (by rw [link]; exact slot)]
  refine same.updLink_again ?_
  rw [same.readings.2.2.2.2.2]
  rfl

theorem cabTxFinished_silent (tx : (s.link c).tx ≠ none) (high : s.power.lowFor = none)
    (slot : (s.link c).slot = none) (notices : (s.link c).notices = []) :
    SameBlocks (s.putLink c { s.link c with tx := none }) (cabTxFinished c s) := by
  obtain ⟨v, e, same, link, free⟩ := cabTxFinished_begun tx high
  rw [e, kickCab_idle (by rw [link]) free (by rw [link]; exact slot) (by rw [link]; exact notices)]
  exact same

/-- The frame sent has ended and the head notice is begun: a place of the queue is freed. -/
theorem cabTxFinished_notice {n : CabNotice} {rest : List CabNotice} (tx : (s.link c).tx ≠ none)
    (high : s.power.lowFor = none) (slot : (s.link c).slot = none) (notices : (s.link c).notices = n :: rest) :
    ∃ v, cabTxFinished c s = placeFreed c v ∧
      SameBlocks (s.putLink c { s.link c with tx := some (.notice n), notices := rest }) v ∧
      v.channel c = s.channel c ∧ v.step? c = s.step? c ∧ v.stepNotice? c = s.stepNotice? c := by
  obtain ⟨v, e, same, link, free⟩ := cabTxFinished_begun tx high
  have begun := same.updLink_again (f := fun l => { l with tx := some (.notice n), notices := rest }) rfl
  refine ⟨_, e.trans (kickCab_notice (n := n) (rest := rest) (by rw [link]) free (by rw [link]; exact slot)
    (by rw [link]; exact notices)), begun, ?_, ?_, ?_⟩
  · exact begun.readings.2.1 c
  · exact begun.readings.2.2.1 c
  · exact begun.readings.2.2.2.1 c

/-- A place freed that no step claims stays free. -/
theorem cabTxFinished_unclaimed {n : CabNotice} {rest : List CabNotice} (tx : (s.link c).tx ≠ none)
    (high : s.power.lowFor = none) (slot : (s.link c).slot = none) (notices : (s.link c).notices = n :: rest)
    (free : (s.channel c).state ≠ .active ∨ (s.channel c).phase ≠ .waitingSlot) : SameBlocks
      (s.putLink c { s.link c with tx := some (.notice n), notices := rest }) (cabTxFinished c s) := by
  obtain ⟨v, e, same, channel, -, -⟩ := cabTxFinished_notice tx high slot notices
  rw [e, placeFreed_unclaimed (by rw [channel]; exact free)]
  exact same

/-- A place freed is taken by the notice of the step that claims it. -/
theorem cabTxFinished_claimed {n m : CabNotice} {rest : List CabNotice} (tx : (s.link c).tx ≠ none)
    (high : s.power.lowFor = none) (slot : (s.link c).slot = none) (notices : (s.link c).notices = n :: rest)
    (active : (s.channel c).state = .active) (waits : (s.channel c).phase = .waitingSlot)
    (notice : s.stepNotice? c = some m) : ∃ v, cabTxFinished c s = noticeEntered c v ∧ SameBlocks
      (s.putLink c { s.link c with tx := some (.notice n), notices := rest ++ [m] }) v ∧ v.step? c = s.step? c := by
  obtain ⟨v, e, same, channel, -, offered⟩ := cabTxFinished_notice tx high slot notices
  have entered := same.updLink_again (f := fun l => { l with notices := l.notices ++ [m] }) rfl
  exact ⟨_, e.trans (placeFreed_claimed (by rw [channel]; exact active) (by rw [channel]; exact waits)
    (offered.trans notice)), entered, entered.readings.2.2.1 c⟩

theorem cabTxFinished_notify {n : CabNotice} {rest : List CabNotice} {code p1 p2 : Nat} (tx : (s.link c).tx ≠ none)
    (high : s.power.lowFor = none) (slot : (s.link c).slot = none) (notices : (s.link c).notices = n :: rest)
    (active : (s.channel c).state = .active) (waits : (s.channel c).phase = .waitingSlot)
    (step : s.step? c = some (.notify code p1 p2)) : SameBlocks
      ((s.putLink c
          { s.link c with
            tx := some (.notice n), notices := rest ++ [.coded code false p1 p2] }).putChannel c
        ((s.channel c).completed ((s.channel c).step + 1))) (cabTxFinished c s) := by
  obtain ⟨v, e, same, same_step⟩ :=
    cabTxFinished_claimed tx high slot notices active waits (stepNotice?_notify step)
  rw [e, noticeEntered_notify (same_step.trans step)]
  exact same.updChannel c rfl

theorem cabTxFinished_ack {n : CabNotice} {rest : List CabNotice} {code limit b : Nat} {o : OnTimeout}
    (tx : (s.link c).tx ≠ none) (high : s.power.lowFor = none) (slot : (s.link c).slot = none)
    (notices : (s.link c).notices = n :: rest) (active : (s.channel c).state = .active)
    (waits : (s.channel c).phase = .waitingSlot) (step : s.step? c = some (.ack code limit o))
    (booking : (s.channel c).booking = some b) : SameBlocks
      ((s.putLink c
          { s.link c with
            tx := some (.notice n), notices := rest ++ [.coded code true b (s.channel c).step] }).putChannel c
        { s.channel c with phase := .waitingAck }) (cabTxFinished c s) := by
  obtain ⟨v, e, same, same_step⟩ :=
    cabTxFinished_claimed tx high slot notices active waits (stepNotice?_ack step booking)
  rw [e, noticeEntered_ack (same_step.trans step)]
  exact same.updChannel c rfl

/-! ## CAB_BAD_FRAME and ACK_MESSAGE -/

theorem hears_iff : s.hears c = true ↔ (s.link c).state ≠ .unused ∧ (s.slotOf c).excluded = false := by
  simp [State.hears]

theorem deaf_of (h : (s.link c).state = .unused ∨ (s.slotOf c).excluded = true) : ¬ s.hears c = true := by
  rw [hears_iff]
  rintro ⟨used, included⟩
  rcases h with h | h
  · exact used h
  · rw [included] at h
    cases h

theorem takeCabBytes_deaf (bytes : List Byte) (h : ¬ s.hears c = true) : takeCabBytes c bytes s = s := by
  unfold takeCabBytes
  rw [if_pos (by simpa using h)]

theorem takeCabBytes_bad {bytes : List Byte} (h : s.hears c = true) (bad : checkCabFrame bytes = none) :
    takeCabBytes c bytes s = addError (.cabFrame c) s := by
  unfold takeCabBytes
  rw [if_neg (by simpa using h), bad]

/-- Adding a flag to the error summary is the same for states that differ in marks. -/
theorem addError_sameBlocks (e : ErrorFlag) (h : SameBlocks u w) : SameBlocks (addError e u) (addError e w) := by
  have errors : w.port.errors = u.port.errors := by rw [h.port]
  unfold addError
  rw [errors]
  split
  · exact h
  · exact ⟨h.pending, h.power, h.geo, h.links, h.clock, h.engines, h.arb, h.wind, h.bookings, h.plans, h.channels, h.status,
      by dsimp only; rw [h.port]⟩

/-- An ACK that arrives: what the offer to the channel starts from. -/
theorem takeAck_hears (code : Byte) (h : s.hears c = true) : ∃ v, takeAck c code s = offerAck c code v ∧ SameBlocks
    (s.putLink c
      { s.link c with lastAck := some (code.toNat, s.now), ackCount := ((s.link c).ackCount + 1) % 65536 }) v := by
  unfold takeAck
  rw [if_pos h]
  exact ⟨_, rfl, mark_sameBlocks _ ((SameBlocks.refl s).updLink c rfl)⟩

theorem offerAck_completes {code : Byte} {limit : Nat} {o : OnTimeout} (active : (s.channel c).state = .active)
    (waits : (s.channel c).phase = .waitingAck) (step : s.step? c = some (.ack code.toNat limit o)) :
    offerAck c code s = updChannel c (fun ch => ch.completed ((s.channel c).step + 1)) s := by
  unfold offerAck
  rw [if_pos, step]
  · exact if_pos rfl
  · simp [Channel.active, active, waits]

theorem offerAck_other {code : Byte} (h : (s.channel c).state ≠ .active ∨ (s.channel c).phase ≠ .waitingAck ∨
    ∀ limit o, s.step? c ≠ some (.ack code.toNat limit o)) : offerAck c code s = s := by
  unfold offerAck
  split
  · rename_i waits
    simp only [Channel.active, Bool.and_eq_true, beq_iff_eq] at waits
    split
    · rename_i k limit o step
      refine if_neg ?_
      rintro rfl
      rcases h with h | h | h
      · exact h waits.1
      · exact h waits.2
      · exact h limit o step
    · rfl
  · rfl

theorem takeAck_completes {code : Byte} {limit : Nat} {o : OnTimeout} (h : s.hears c = true)
    (active : (s.channel c).state = .active) (waits : (s.channel c).phase = .waitingAck)
    (step : s.step? c = some (.ack code.toNat limit o)) : SameBlocks
      ((s.putLink c
          { s.link c with
            lastAck := some (code.toNat, s.now), ackCount := ((s.link c).ackCount + 1) % 65536 }).putChannel c
        ((s.channel c).completed ((s.channel c).step + 1))) (takeAck c code s) := by
  obtain ⟨v, e, same⟩ := takeAck_hears code h
  have channel : v.channel c = s.channel c := same.readings.2.1 c
  rw [e, offerAck_completes (limit := limit) (o := o) (by rw [channel, active]) (by rw [channel, waits])
    ((same.readings.2.2.1 c).trans step), channel]
  exact same.updChannel c rfl

theorem takeAck_other {code : Byte} (h : s.hears c = true) (other : (s.channel c).state ≠ .active ∨
    (s.channel c).phase ≠ .waitingAck ∨ ∀ limit o, s.step? c ≠ some (.ack code.toNat limit o)) : SameBlocks
      (s.putLink c
        { s.link c with lastAck := some (code.toNat, s.now), ackCount := ((s.link c).ackCount + 1) % 65536 })
      (takeAck c code s) := by
  obtain ⟨v, e, same⟩ := takeAck_hears code h
  have channel : v.channel c = s.channel c := same.readings.2.1 c
  have step : v.step? c = s.step? c := same.readings.2.2.1 c
  rw [e, offerAck_other (by rw [channel, step]; exact other)]
  exact same

end
end Sys2Proof.Machine

open Sys2Proof Sys2Proof.Machine

/-- Settles O51: the transmitter's choice, case by case, from the state in which the last frame has ended. -/
theorem transmitterGoesOn : Obligations.TransmitterGoesOn := by
  intro c s on h
  have repeatDue : (nextEvent s).repeatDue c = s.repeatDue c := rfl
  refine ⟨fun none => ?_, fun t0 timed => ⟨fun early => ?_, fun due => ⟨fun busy => ?_, fun g tx high slot sent => ?_⟩⟩,
    fun idle => ?_, fun tx high => ⟨fun g slot => ?_, fun slot => ⟨fun notices => ?_, fun n rest notices => ⟨?_, ?_, ?_⟩⟩⟩⟩
  · exact leaves_unchanged (repeatLimit c) rfl on h (repeatLimit_notDue (repeatDue.trans (repeatDue_none none)))
  · refine leaves_unchanged (repeatLimit c) rfl on h (repeatLimit_notDue (repeatDue.trans ?_))
    rw [repeatDue_some timed]
    exact decide_eq_false (Nat.not_le.mpr early)
  · exact limitRepeat_leaves on h rfl rfl ((nextEvent_sameBlocks s).putLink c _ |>.trans (repeatLimit_busy timed due busy))
  · exact limitRepeat_leaves on h rfl rfl
      ((nextEvent_sameBlocks s).putLink c _ |>.trans (repeatLimit_sends timed due tx high slot sent))
  · exact leaves_unchanged (cabTxFinished c) rfl on h (cabTxFinished_idle idle)
  · exact cabTxDone_leaves on h rfl rfl
      ((nextEvent_sameBlocks s).putLink c _ |>.trans (cabTxFinished_limit tx high slot))
  · exact cabTxDone_leaves on h rfl rfl
      ((nextEvent_sameBlocks s).putLink c _ |>.trans (cabTxFinished_silent tx high slot notices))
  · intro free
    exact cabTxDone_leaves on h rfl rfl
      ((nextEvent_sameBlocks s).putLink c _ |>.trans (cabTxFinished_unclaimed tx high slot notices free))
  · intro code p1 p2 active waits step
    exact cabTxDone_leaves on h rfl rfl (((nextEvent_sameBlocks s).putLink c _).putChannel c _ |>.trans
      (cabTxFinished_notify tx high slot notices active waits step))
  · intro code limit o b active waits step booking
    exact cabTxDone_leaves on h rfl rfl (((nextEvent_sameBlocks s).putLink c _).putChannel c _ |>.trans
      (cabTxFinished_ack tx high slot notices active waits step booking))

/-- Settles O49: a link that is UNUSED or excluded takes nothing; on another a bad frame adds its flag, and an ACK is recorded
and offered to the channel. -/
theorem cabMessageIsTaken : Obligations.CabMessageIsTaken := by
  intro c bytes code s on h
  refine ⟨fun deaf => ⟨?_, ?_⟩, fun used included => ⟨fun bad => ?_, fun ⟨active, waits, limit, o, step⟩ => ?_,
    fun other => ?_⟩⟩
  · exact leaves_unchanged (takeCabBytes c bytes) rfl on h (takeCabBytes_deaf bytes (deaf_of deaf))
  · exact leaves_unchanged (takeAck c code) rfl on h (if_neg (deaf_of deaf))
  · have hears : (nextEvent s).hears c = true := hears_iff.mpr ⟨used, included⟩
    have same : SameBlocks (addError (.cabFrame c) s) (takeCabBytes c bytes (nextEvent s)) := by
      rw [takeCabBytes_bad hears bad]
      exact addError_sameBlocks _ (nextEvent_sameBlocks s)
    refine leaves_of_event (takeCabBytes c bytes) rfl on ?_ same
    rw [takeCabBytes_bad hears bad]
    unfold addError
    split <;> exact h
  · exact leaves_worked (takeAck c code) rfl on h rfl rfl (((nextEvent_sameBlocks s).putLink c _).putChannel c _ |>.trans
      (takeAck_completes (hears_iff.mpr ⟨used, included⟩) active waits step))
  · exact leaves_worked (takeAck c code) rfl on h rfl rfl ((nextEvent_sameBlocks s).putLink c _ |>.trans
      (takeAck_other (hears_iff.mpr ⟨used, included⟩) other))
end

section
/-! SUPPORT and the statements O46, O47 and O50: the judgement of a pose, an old or invalid pose, and a link that falls silent.
A first fault is followed through Crane State and the arbiter, which changes no link, booking or operating state. -/

namespace Sys2Proof.Machine

/-! ## What the arbiter changes -/

/-- The scope of the arbiter alone: its records, evict sets, what it tells the channels, and, in a withdrawal, transit
sets. -/
def Scope.arbiter (withdraws : Prop) : Scope where
  arb := True
  bookings := False
  engine _ e e' := (∃ l, e' = { e with evict := l }) ∨ (withdraws ∧ ∃ l, e' = { e with transit := l })
  channel _ ch ch' := ch.Told ch'
  link _ _ _ := False
  wind _ _ _ := False
  status _ _ _ := False

theorem arbiter_arbitrates (w : Prop) : (Scope.arbiter w).Arbitrates :=
  ⟨trivial, fun _ _ l => .inl ⟨l, rfl⟩, fun _ _ _ h => h⟩

section
variable {s t u : State} {c d : Slot} {w : Prop}

theorem withdrawCrane_arbiter (c : Slot) (s : State) : Work (.arbiter True) s (withdrawCrane c s) :=
  withdrawCrane_work (arbiter_arbitrates True) c (fun _ l => .inr ⟨trivial, l, rfl⟩) .refl

/-- A withdrawal empties the transit set (R99). -/
theorem withdrawCrane_transit (c : Slot) (s : State) : ((withdrawCrane c s).engine c).transit = [] := by
  unfold withdrawCrane
  dsimp only
  generalize forEach _ _ (forEach _ _ s) = v
  have h := settleZones_work (arbiter_arbitrates False) s [] (.refl (s := updEngine c (fun e => { e with transit := [] }) v))
  rw [h.engine_keeps (fun e => e.transit) c (fun x y ok => by obtain ⟨l, rfl⟩ := ok.resolve_right (fun k => k.1); rfl),
    updEngine_engine, if_pos rfl]

theorem Work.arbiter_told (h : Work (.arbiter w) s t) (c : Slot) : (s.channel c).Told (t.channel c) :=
  h.channel_rel Channel.Told (fun _ => ⟨rfl, rfl, rfl⟩) (fun _ _ _ p q =>
    ⟨q.1.trans p.1, q.2.1.trans p.2.1, q.2.2.trans p.2.2⟩) c (fun _ _ ok => ok)

theorem Work.arbiter_links (h : Work (.arbiter w) s t) : t.links = s.links := h.links_eq fun _ _ _ => id
theorem Work.arbiter_status (h : Work (.arbiter w) s t) : t.status = s.status := h.status_eq fun _ _ _ => id
theorem Work.arbiter_bookings (h : Work (.arbiter w) s t) : t.bookings = s.bookings := h.bookings_eq id

theorem updChannel_const (c : Slot) (f : Channel → Channel) (s : State) :
    updChannel c (fun _ => f (s.channel c)) s = updChannel c f s := rfl

/-- A channel that a reason reaches, the claim of a CLAIM step that it interrupts being given up. -/
def Channel.withReason (f : Reasons → Reasons) (ch : Channel) : Channel :=
  { ch with
    reasons := f ch.reasons
    claim :=
      if ch.booking.isSome && ch.reasons == .empty && f ch.reasons != .empty && ch.phase == .waitingClaim then none
      else ch.claim }

/-- Adding a reason changes the channel's record, and beyond it only what the withdrawal of a claim does. -/
theorem addReason_arbiter (c : Slot) (f : Reasons → Reasons) (s : State) :
    Work (.arbiter False) (updChannel c (Channel.withReason f) s) (addReason c f s) := by
  unfold addReason
  dsimp only
  rw [← updChannel_const c (Channel.withReason f)]
  generalize hv : updChannel c _ s = v
  rw [← updChannel_const] at hv
  generalize hw : updChannel c _ s = w
  have same : w = v := hw.symm.trans hv
  rw [same]
  split
  · split
    · exact withdrawClaim_work (arbiter_arbitrates False) _ .refl
    · exact .refl
  · exact .refl

/-- The state of a crane after its first fault (R167). -/
def CraneStatus.faulted (x : CraneStatus) (cause : FaultCause) (k : FaultContext) : CraneStatus :=
  { x.engagedBy cause with
    faultContext := some k, state := .fault
    fault := some { cause := cause, unjoined := x.state == .joining, conditionMet := false } }

/-- The effect of a first fault outside the arbiter: the crane's record and the FAULT reason of its channel. -/
theorem firstFault_effect (c : Slot) (cause : FaultCause) (cell : Option CellPos) (s : State) :
    (firstFault c cause cell s).links = s.links ∧ (firstFault c cause cell s).bookings = s.bookings ∧
      (firstFault c cause cell s).crane c = (s.crane c).faulted cause (s.newContext c cause cell) ∧
      ((firstFault c cause cell s).channel c).reasons = { (s.channel c).reasons with fault := true } ∧
      ((firstFault c cause cell s).engine c).transit = [] := by
  unfold firstFault
  dsimp only
  generalize hm : modCrane c _ s = m
  have crane : m.crane c = (s.crane c).faulted cause (s.newContext c cause cell) := by
    rw [← hm, modCrane_crane, if_pos rfl]
    rfl
  have same : m.links = s.links ∧ m.bookings = s.bookings ∧ m.channel c = s.channel c := by
    rw [← hm]
    exact ⟨rfl, rfl, rfl⟩
  have added := addReason_arbiter c (fun r => { r with fault := true }) m
  generalize addReason c _ m = v at added
  have left := withdrawCrane_arbiter c v
  have empty := withdrawCrane_transit c v
  generalize withdrawCrane c v = t at left empty
  have told := (added.arbiter_told c).2.1
  rw [updChannel_channel, if_pos rfl, same.2.2] at told
  refine ⟨?_, ?_, ?_, ?_, empty⟩
  · show t.links = s.links
    rw [left.arbiter_links, added.arbiter_links, ← same.1]
    exact markIf_links ..
  · show t.bookings = s.bookings
    rw [left.arbiter_bookings, added.arbiter_bookings, ← same.2.1]
    exact markIf_bookings ..
  · show t.status.get c = _
    rw [left.arbiter_status, added.arbiter_status, ← crane]
    exact congrArg (·.get c) (markIf_status ..)
  · show (t.channel c).reasons = _
    rw [(left.arbiter_told c).2.1, told]
    rfl

/-! ## Raising a cause, by the operating state -/

theorem raise_first {cause : FaultCause} {cell : Option CellPos}
    (h : (s.crane c).state = .inService ∨ (s.crane c).state = .joining) :
    raise c cause cell s = firstFault c cause cell s := by
  unfold raise
  rcases h with h | h <;> rw [h]

theorem raise_fault {f : ActiveFault} {cause : FaultCause} {cell : Option CellPos} (state : (s.crane c).state = .fault)
    (fault : (s.crane c).fault = some f) : raise c cause cell s =
      raiseInFault c f cause cell (if cause == .eStop then updCrane c (·.engagedBy cause) s else s) := by
  unfold raise
  rw [state, fault]

theorem raise_lockout {cause : FaultCause} {cell : Option CellPos} (state : (s.crane c).state = .lockout) :
    raise c cause cell s = updCrane c (fun x =>
      { x.engagedBy cause with lockoutContext := x.lockoutContext.map (·.flagged cause) }) s := by
  unfold raise
  rw [state]

theorem raise_offline {cause : FaultCause} {cell : Option CellPos} (state : (s.crane c).state = .offline) :
    raise c cause cell s = s := by
  unfold raise
  rw [state]

end

/-! ## The validity test (R26) -/

theorem judgeRate_invalid {maximum : Nat} {v : Int} (h : ¬ Parts.rateValid maximum v) : judgeRate maximum v = none := by
  unfold Parts.rateValid at h
  unfold judgeRate
  rw [if_neg (by omega), if_neg h]

/-- A valid rate is clamped to its maximum keeping its sign. -/
theorem judgeRate_valid {maximum : Nat} {v : Int} (h : Parts.rateValid maximum v) :
    judgeRate maximum v = some (max (-(maximum : Int)) (min maximum v)) := by
  unfold Parts.rateValid at h
  unfold judgeRate
  split
  · congr 1
    omega
  · congr 1
    split <;> omega

theorem judgeRadius_invalid {r : CraneRecord} {radius : Nat} (ordered : r.minRadius ≤ r.jibLength)
    (h : ¬ Parts.radiusValid r radius) : judgeRadius r.minRadius r.jibLength radius = none := by
  unfold Parts.radiusValid at h
  unfold judgeRadius
  split
  · exact if_neg (by omega)
  · rw [if_pos (by omega)]
    exact if_neg (by omega)

/-- A valid radius is clamped into minimum radius to jib length. -/
theorem judgeRadius_valid {r : CraneRecord} {radius : Nat} (ordered : r.minRadius ≤ r.jibLength)
    (h : Parts.radiusValid r radius) :
    judgeRadius r.minRadius r.jibLength radius = some (max r.minRadius (min r.jibLength radius)) := by
  obtain ⟨low, high⟩ := h
  unfold judgeRadius
  split
  · congr 1
    omega
  · split
    · congr 1
      omega
    · congr 1
      omega

theorem judgeUpTo_above {greatest v : Nat} (h : greatest < v) : judgeUpTo greatest v = none := if_neg (by omega)

theorem judgeUpTo_within {greatest v : Nat} (h : v ≤ greatest) : judgeUpTo greatest v = some v := if_pos h

/-- The table of R26, quantity by quantity. -/
theorem poseValues_holds : Parts.PoseValues := by
  intro r now f ordered
  refine ⟨fun bad => ?_, fun slew => ⟨fun bad => ?_, fun radial => ⟨fun bad => ?_, fun radius => ⟨fun bad => ?_,
    fun height => ⟨fun bad => ?_, fun load => ?_⟩⟩⟩⟩⟩
  all_goals unfold judgePose
  · rw [judgeRate_invalid bad]
  · rw [judgeRate_valid slew, judgeRate_invalid bad]
  · rw [judgeRate_valid slew, judgeRate_valid radial, judgeRadius_invalid ordered bad]
  · rw [judgeRate_valid slew, judgeRate_valid radial, judgeRadius_valid ordered radius, judgeUpTo_above bad]
  · rw [judgeRate_valid slew, judgeRate_valid radial, judgeRadius_valid ordered radius, judgeUpTo_within height,
      judgeUpTo_above bad]
  · rw [judgeRate_valid slew, judgeRate_valid radial, judgeRadius_valid ordered radius, judgeUpTo_within height,
      judgeUpTo_within load]
    exact ⟨_, rfl, rfl, rfl, rfl, rfl, rfl, rfl, rfl, rfl, Nat.min_comm .., rfl, rfl, rfl, rfl, rfl, rfl⟩

/-! ## What an accepted pose changes -/

/-- The scope of the work on a pose of crane c that has been accepted and whose sample has been taken: no link loses its state,
pose, streak or last invalid quantity, and no other crane's its generation; the samples of crane c stand. -/
def Scope.posed (c : Slot) : Scope where
  arb := True
  bookings := True
  engine _ _ _ := True
  channel _ _ _ := True
  link d l l' := l'.state = l.state ∧ l'.lastPose = l.lastPose ∧ l'.invalidStreak = l.invalidStreak ∧
    l'.lastInvalid = l.lastInvalid ∧ (d ≠ c → l'.generation = l.generation)
  wind d w w' := d = c → w.SameSamples w'
  status _ _ _ := True

theorem posed_runs (c : Slot) (s : State) : (Scope.posed c).Runs s :=
  { arb := trivial
    evict := fun _ _ _ => trivial
    told := fun _ _ _ _ => trivial
    bookings := trivial
    channel := fun _ _ _ _ => trivial
    calm := fun _ _ _ _ _ => trivial
    line := fun d l l' h => by
      rw [h.1]
      exact ⟨rfl, rfl, rfl, rfl, fun _ => rfl⟩ }

theorem posed_evaluates (c : Slot) (s : State) : (Scope.posed c).Evaluates s :=
  { posed_runs c s with
    values := fun _ _ _ h _ _ _ _ => h
    timed := fun _ _ _ _ _ _ => ⟨rfl, rfl, rfl, rfl, rfl⟩
    levels := fun _ _ _ h _ _ => h }

theorem posed_judges (c : Slot) (s : State) : (Scope.posed c).Judges s c :=
  { posed_runs c s with
    status := fun _ _ _ => trivial
    recovers := fun _ _ => trivial
    transit := fun _ _ => trivial
    frame := fun _ _ _ => ⟨rfl, rfl, rfl, rfl, fun h => absurd rfl h⟩ }

section
variable {A : Scope} {s t : State} {c : Slot}

/-- Stages 1 to 3 of R29 after the sample has been taken, and the gating of a crane that came IN_SERVICE. -/
theorem handOn3_work (hw : A.Evaluates s) (hj : A.Judges s c) (leave : ∀ x x', A.status c x x')
    (he : ∀ e e', A.engine c e e')
    (hf : ∀ l g f, A.link c l { l with generation := g, slot := some ⟨g, f⟩, inForce := some ⟨true, f.mode⟩ })
    (r : CraneRecord) (p : Pose) (flagged : Bool) (h : Work A s (updWind c (Wind.takesPose p) t)) :
    Work A s (handOn3 c r p flagged t) := by
  have stage2 := craneTakesPose_work hj p flagged leave (windTakesPose_work hw c p h)
  have stage3 : Work A s (poseStage3 c r p (craneTakesPose c p flagged (windTakesPose c p t))) := by
    unfold poseStage3
    split
    · split
      · exact stage2
      · exact judgeAwait_work hj.toRuns c p _ (retryAlreadyWaiting_work hj.toRuns c (compute_work hj he hf r p stage2))
    · exact placeLinkMade_work hj.toRuns c hj.frame stage2
  unfold handOn3
  dsimp only
  split
  · exact gateAndRun_work hj.toRuns c stage3
  · exact stage3

/-- The state in which the Wind Monitor takes an accepted pose: the link is LIVE with it, and the link-lost flags of a link
that was not LIVE have gone (R28, R170). -/
def State.accepted (s : State) (c : Slot) (p : Pose) : State :=
  if (s.link c).state == .live then updLink c (Link.accepts p) s else linkReturns c (updLink c (Link.accepts p) s)

theorem accepted_link (p : Pose) : (s.accepted c p).link c = (s.link c).accepts p := by
  have accepts : (updLink c (Link.accepts p) s).link c = (s.link c).accepts p := by rw [updLink_link, if_pos rfl]
  unfold State.accepted
  split
  · exact accepts
  · rw [← accepts]
    exact congrArg (·.get c) (markIf_links ..)

/-- An accepted pose, followed from the state in which its sample has been taken. -/
theorem acceptPose_posed (c : Slot) (r : CraneRecord) (p : Pose) (s : State) :
    Work (.posed c) (updWind c (Wind.takesPose p) (s.accepted c p)) (acceptPose c r p s) :=
  handOn3_work (posed_evaluates c _) (posed_judges c _) (fun _ _ => trivial) (fun _ _ => trivial)
    (fun _ _ _ => ⟨rfl, rfl, rfl, rfl, fun h => absurd rfl h⟩) r p _ .refl

theorem updWind_links (c : Slot) (f : Wind → Wind) (s : State) : (updWind c f s).links = s.links := markIf_links ..

theorem acceptPose_link (c : Slot) (r : CraneRecord) (p : Pose) (s : State) :
    ((acceptPose c r p s).link c).state = .live ∧ ((acceptPose c r p s).link c).lastPose = some p ∧
      ((acceptPose c r p s).link c).invalidStreak = 0 ∧
      ((acceptPose c r p s).link c).lastInvalid = (s.link c).lastInvalid := by
  have h := acceptPose_posed c r p s
  have start : (updWind c (Wind.takesPose p) (s.accepted c p)).link c = (s.link c).accepts p := by
    rw [← accepted_link]
    exact congrArg (·.get c) (updWind_links ..)
  refine ⟨?_, ?_, ?_, ?_⟩
  · rw [Work.link_keeps (A := .posed c) (fun l => l.state) c (fun _ _ ok => ok.1) h, start]
    rfl
  · rw [Work.link_keeps (A := .posed c) (fun l => l.lastPose) c (fun _ _ ok => ok.2.1) h, start]
    rfl
  · rw [Work.link_keeps (A := .posed c) (fun l => l.invalidStreak) c (fun _ _ ok => ok.2.2.1) h, start]
    rfl
  · rw [Work.link_keeps (A := .posed c) (fun l => l.lastInvalid) c (fun _ _ ok => ok.2.2.2.1) h, start]
    rfl

/-! ## The tests of a pose report (R21, R25) -/

/-- The distance of two sequences, as the window test reckons it. -/
theorem sequence_distance (a : Byte) (b : Nat) :
    (a.toNat + (256 - b % 256)) % 256 = (a - BitVec.ofNat 8 b).toNat := by
  rw [BitVec.toNat_sub, BitVec.toNat_ofNat]
  congr 1
  exact Nat.add_comm ..

theorem inWindow_heard {l : Link} {p : Pose} (state : l.state = .live ∨ l.state = .stale) (pose : l.lastPose = some p)
    (f : PoseFrame) : l.inWindow f.sequence.toNat =
      inRange 1 127 (f.sequence - BitVec.ofNat 8 p.sequence).toNat := by
  unfold Link.inWindow
  rw [pose, ← sequence_distance]
  rcases state with h | h <;> rw [h]

theorem inWindow_fresh {l : Link} {f : PoseFrame} (h : Parts.Fresh l f) : l.inWindow f.sequence.toNat = true := by
  rcases h with h | h | ⟨state, p, pose, -, above, below⟩
  · unfold Link.inWindow
    rw [h]
  · unfold Link.inWindow
    rw [h]
  · rw [inWindow_heard state pose, inRange, Bool.and_eq_true, decide_eq_true_eq, decide_eq_true_eq]
    exact ⟨above, below⟩

theorem fresh_used {l : Link} {f : PoseFrame} (h : Parts.Fresh l f) : l.state ≠ .unused := by
  rcases h with h | h | ⟨h | h, -⟩ <;> rw [h] <;> decide

theorem takePose_deaf (f : PoseFrame) (h : ¬ s.hears c = true) : takePose c f s = s := by
  unfold takePose
  rw [if_pos (by simpa using h)]

theorem takePose_old {f : PoseFrame} (h : (s.link c).inWindow f.sequence.toNat = false) : takePose c f s = s := by
  unfold takePose
  split
  · rfl
  · split
    · rfl
    · rw [if_pos (by simp [h])]

/-- A pose report that is heard and new is judged by the crane record (R26). -/
theorem takePose_invalid {f : PoseFrame} {r : CraneRecord} {q : Quantity} (included : (s.slotOf c).excluded = false)
    (record : s.record? c = some r) (fresh : Parts.Fresh (s.link c) f) (judged : judgePose r s.now f = .invalid q) :
    takePose c f s = takeInvalid c q s := by
  have hears : s.hears c = true := hears_iff.mpr ⟨fresh_used fresh, included⟩
  unfold takePose
  rw [if_neg (by simp [hears]), record]
  dsimp only
  rw [if_neg (by simp [inWindow_fresh fresh]), judged]

theorem takePose_valid {f : PoseFrame} {r : CraneRecord} {p : Pose} (included : (s.slotOf c).excluded = false)
    (record : s.record? c = some r) (fresh : Parts.Fresh (s.link c) f) (judged : judgePose r s.now f = .valid p) :
    takePose c f s = acceptPose c r p s := by
  have hears : s.hears c = true := hears_iff.mpr ⟨fresh_used fresh, included⟩
  unfold takePose
  rw [if_neg (by simp [hears]), record]
  dsimp only
  rw [if_neg (by simp [inWindow_fresh fresh]), judged]

/-- A link after an invalid pose (R27). -/
def Link.refuses (q : Quantity) (l : Link) : Link :=
  { l with invalidStreak := min 255 (l.invalidStreak + 1), lastInvalid := some q }

theorem takeInvalid_eq (q : Quantity) (s : State) : takeInvalid c q s =
    if (s.link c).invalidStreak = 1 then raise c .poseInvalid none (updLink c (Link.refuses q) s)
    else updLink c (Link.refuses q) s := by
  have same : updLink c (fun l =>
      { l with invalidStreak := min 255 ((s.link c).invalidStreak + 1), lastInvalid := some q }) s =
      updLink c (Link.refuses q) s := rfl
  unfold takeInvalid
  dsimp only
  rw [same]
  by_cases one : (s.link c).invalidStreak = 1
  · rw [if_pos one, if_pos]
    rw [one]
    decide
  · rw [if_neg one, if_neg]
    simp [one]

theorem updLink_channels (c : Slot) (f : Link → Link) (s : State) : (updLink c f s).channels = s.channels :=
  markIf_channels ..

theorem updLink_status (c : Slot) (f : Link → Link) (s : State) : (updLink c f s).status = s.status := markIf_status ..

/-- The last invalid quantity of a link whatever a raised cause does. -/
theorem takeInvalid_link (q : Quantity) (s : State) : ((takeInvalid c q s).link c).lastInvalid = some q ∧
    ((takeInvalid c q s).link c).lastPose = (s.link c).lastPose := by
  have refused : (updLink c (Link.refuses q) s).link c = (s.link c).refuses q := by rw [updLink_link, if_pos rfl]
  have kept : Work (.posed c) (updLink c (Link.refuses q) s) (takeInvalid c q s) := by
    rw [takeInvalid_eq]
    split
    · exact raise_work (posed_judges c _) .poseInvalid none (fun _ _ _ => trivial) .refl
    · exact .refl
  rw [Work.link_keeps (A := .posed c) (fun l => l.lastInvalid) c (fun _ _ ok => ok.2.2.2.1) kept,
    Work.link_keeps (A := .posed c) (fun l => l.lastPose) c (fun _ _ ok => ok.2.1) kept, refused]
  exact ⟨rfl, rfl⟩

end

/-! ## The work of a block event, seen after the event -/

section
variable {s : State} {c : Slot}

/-- An event whose work is within a scope takes no request after it. -/
theorem event_work_leaves {A : Scope} {i : Instr} (f : State → State) (e : exec i s = event f s) (on : s.power.on = true)
    (h : s.NoTake) (work : Work A (nextEvent s) (f (nextEvent s))) :
    ∃ t, exec i s = .next t ∧ SameButPort (f (nextEvent s)) t := by
  obtain ⟨t, next, left⟩ := event_leaves f on (h.work work)
  exact ⟨t, e.trans next, left⟩

theorem SameButPort.link {u t : State} (h : SameButPort u t) (c : Slot) : t.link c = u.link c := congrArg (·.get c) h.links

theorem SameButPort.crane {u t : State} (h : SameButPort u t) (c : Slot) : t.crane c = u.crane c :=
  congrArg (·.get c) h.status

theorem SameButPort.channel {u t : State} (h : SameButPort u t) (c : Slot) : t.channel c = u.channel c :=
  congrArg (·.get c) h.channels

theorem SameButPort.engine {u t : State} (h : SameButPort u t) (c : Slot) : t.engine c = u.engine c :=
  congrArg (·.get c) h.engines

/-- The scope of everything. -/
def Scope.all : Scope where
  arb := True
  bookings := True
  engine _ _ _ := True
  channel _ _ _ := True
  link _ _ _ := True
  wind _ _ _ := True
  status _ _ _ := True

theorem all_runs (s : State) : Scope.all.Runs s :=
  { arb := trivial
    evict := fun _ _ _ => trivial
    told := fun _ _ _ _ => trivial
    bookings := trivial
    channel := fun _ _ _ _ => trivial
    calm := fun _ _ _ _ _ => trivial
    line := fun _ _ _ _ => trivial }

theorem all_evaluates (s : State) : Scope.all.Evaluates s :=
  { all_runs s with
    values := fun _ _ _ _ _ _ _ => trivial
    timed := fun _ _ _ _ _ => trivial
    levels := fun _ _ _ _ _ => trivial }

theorem all_judges (s : State) (c : Slot) : Scope.all.Judges s c :=
  { all_runs s with
    status := fun _ _ _ => trivial
    recovers := fun _ _ => trivial
    transit := fun _ _ => trivial
    frame := fun _ _ _ => trivial }

/-- Work of any kind leaves geometry, clock and plans. -/
theorem site_of_work {A : Scope} {t u : State} (work : Work A (nextEvent s) u) (left : SameButPort u t) :
    t.geo = s.geo ∧ t.clock = s.clock ∧ t.plans = s.plans :=
  ⟨left.geo.trans work.geo, left.clock.trans work.clock, left.plans.trans work.plans⟩

theorem takeInvalid_work (q : Quantity) (s : State) : Work .all s (takeInvalid c q s) := by
  have refused : Work .all s (updLink c (Link.refuses q) s) := updLink_work c _ trivial .refl
  rw [takeInvalid_eq]
  split
  · exact raise_work (all_judges s c) _ _ (fun _ _ _ => trivial) refused
  · exact refused

theorem acceptPose_work (r : CraneRecord) (p : Pose) (s : State) : Work .all s (acceptPose c r p s) := by
  have accepted : Work .all s (s.accepted c p) := by
    unfold State.accepted
    split
    · exact updLink_work c _ trivial .refl
    · exact updCrane_work c _ trivial (updLink_work c _ trivial .refl)
  exact handOn3_work (all_evaluates s) (all_judges s c) (fun _ _ => trivial) (fun _ _ => trivial) (fun _ _ _ => trivial) r p _
    (updWind_work c _ trivial accepted)

theorem poseOutcome_holds : Parts.PoseOutcome := by
  intro c f r s on included record fresh h
  refine ⟨fun q judged => ?_, fun p judged => ?_⟩
  · have taken : takePose c f (nextEvent s) = takeInvalid c q (nextEvent s) :=
      takePose_invalid included record fresh judged
    obtain ⟨t, next, left⟩ := event_work_leaves (A := .all) (i := .poseReport c f) (takePose c f) rfl on h
      (taken ▸ takeInvalid_work q _)
    rw [taken] at left
    have link := takeInvalid_link (c := c) q (nextEvent s)
    exact ⟨t, next, by rw [left.link, link.1], by rw [left.link, link.2]; rfl⟩
  · have taken : takePose c f (nextEvent s) = acceptPose c r p (nextEvent s) :=
      takePose_valid included record fresh judged
    obtain ⟨t, next, left⟩ := event_work_leaves (A := .all) (i := .poseReport c f) (takePose c f) rfl on h
      (taken ▸ acceptPose_work r p _)
    rw [taken] at left
    have link := acceptPose_link c r p (nextEvent s)
    exact ⟨t, next, by rw [left.link, link.2.1], by rw [left.link, link.2.2.2]; rfl⟩

/-- An invalid pose that raises nothing. -/
theorem takeInvalid_streak (q : Quantity) (h : (s.link c).invalidStreak ≠ 1) :
    SameBlocks (s.putLink c ((s.link c).refuses q)) (takeInvalid c q s) := by
  rw [takeInvalid_eq, if_neg h]
  exact (SameBlocks.refl s).updLink c rfl

/-- The second invalid pose in a row of a crane that is IN_SERVICE or JOINING is its first fault. -/
theorem takeInvalid_faults (q : Quantity) (h : (s.link c).invalidStreak = 1)
    (state : (s.crane c).state = .inService ∨ (s.crane c).state = .joining) :
    takeInvalid c q s = firstFault c .poseInvalid none (updLink c (Link.refuses q) s) := by
  have crane : (updLink c (Link.refuses q) s).crane c = s.crane c := congrArg (·.get c) (updLink_status ..)
  rw [takeInvalid_eq, if_pos h, raise_first (by rw [crane]; exact state)]

/-! ## A link that falls silent (R22) -/

theorem unheardFor_iff {p : Pose} (pose : (s.link c).lastPose = some p) (ms : Ms) :
    s.unheardFor c ms = true ↔ p.acceptedAt + ms ≤ s.now := by
  unfold State.unheardFor
  rw [pose, decide_eq_true_eq]

theorem staleDue_iff {p : Pose} (pose : (s.link c).lastPose = some p) :
    s.staleDue c = true ↔ (s.link c).state = .live ∧ p.acceptedAt + 750 ≤ s.now := by
  unfold State.staleDue
  rw [Bool.and_eq_true, beq_iff_eq, unheardFor_iff pose]
  rfl

theorem lostDue_iff {p : Pose} (pose : (s.link c).lastPose = some p) :
    s.lostDue c = true ↔ (s.link c).state = .stale ∧ p.acceptedAt + 3000 ≤ s.now := by
  unfold State.lostDue
  rw [Bool.and_eq_true, beq_iff_eq, unheardFor_iff pose]
  rfl

theorem becomeStale_notDue (h : ¬ s.staleDue c = true) : becomeStale c s = s := if_neg h

theorem becomeLost_notDue (h : ¬ s.lostDue c = true) : becomeLost c s = s := if_neg h

/-! ### LOST -/

/-- The state of the link that Crane State is told of. -/
def State.losing (s : State) (c : Slot) : State := updLink c (fun l => { l with state := .lost }) s

theorem losing_link : (s.losing c).link c = { s.link c with state := .lost } := by
  unfold State.losing
  rw [updLink_link, if_pos rfl]

theorem losing_crane : (s.losing c).crane c = s.crane c := congrArg (·.get c) (updLink_status ..)

theorem becomeLost_due (h : s.lostDue c = true) :
    becomeLost c s = withdrawCrane c (raise c .linkLost none (s.losing c)) := if_pos h

theorem becomeLost_work (c : Slot) (s : State) : Work .all s (becomeLost c s) := by
  unfold becomeLost
  split
  · exact withdrawCrane_work (all_runs s).toArbitrates c (fun _ _ => trivial)
      (raise_work (all_judges s c) _ _ (fun _ _ _ => trivial) (updLink_work c _ trivial .refl))
  · exact .refl

/-- What the loss of a link leaves, from what raising LINK_LOST leaves. -/
theorem becomeLost_effect {v : State} (h : s.lostDue c = true) (raised : raise c .linkLost none (s.losing c) = v) :
    (becomeLost c s).link c = v.link c ∧ (becomeLost c s).crane c = v.crane c ∧
      ((becomeLost c s).channel c).reasons = (v.channel c).reasons ∧ ((becomeLost c s).engine c).transit = [] := by
  rw [becomeLost_due h, raised]
  have left := withdrawCrane_arbiter c v
  exact ⟨congrArg (·.get c) left.arbiter_links, congrArg (·.get c) left.arbiter_status, (left.arbiter_told c).2.1,
    withdrawCrane_transit c v⟩

/-- LINK_LOST of a crane that is IN_SERVICE or JOINING is its first fault. -/
theorem becomeLost_faults (h : s.lostDue c = true) (state : (s.crane c).state = .inService ∨ (s.crane c).state = .joining) :
    (becomeLost c s).link c = { s.link c with state := .lost } ∧
      (becomeLost c s).crane c = (s.crane c).faulted .linkLost ((s.losing c).newContext c .linkLost none) ∧
      ((becomeLost c s).channel c).reasons.fault = true ∧ ((becomeLost c s).engine c).transit = [] := by
  obtain ⟨link, crane, reasons, transit⟩ := becomeLost_effect h (raise_first (by rw [losing_crane]; exact state))
  obtain ⟨links, -, faulted, suspended, -⟩ := firstFault_effect c .linkLost none (s.losing c)
  refine ⟨?_, ?_, ?_, transit⟩
  · rw [link, ← losing_link]
    exact congrArg (·.get c) links
  · rw [crane, faulted, losing_crane]
  · rw [reasons, suspended]

/-- LINK_LOST of a crane in FAULT sets the link-lost flag, unless LINK_LOST is the active cause. -/
theorem becomeLost_inFault {f : ActiveFault} (h : s.lostDue c = true) (state : (s.crane c).state = .fault)
    (fault : (s.crane c).fault = some f) :
    (becomeLost c s).link c = { s.link c with state := .lost } ∧ ((becomeLost c s).engine c).transit = [] ∧
      (becomeLost c s).crane c = (if f.cause = .linkLost then s.crane c else
        { s.crane c with
          faultContext := (s.crane c).faultContext.map fun x => { x with linkLostFlag := true } }) := by
  have raised : raise c .linkLost none (s.losing c) =
      if f.cause = .linkLost then s.losing c
      else updCrane c (fun x => { x with faultContext := x.faultContext.map (·.flagged .linkLost) }) (s.losing c) := by
    rw [raise_fault (by rw [losing_crane]; exact state) (by rw [losing_crane]; exact fault), if_neg (by decide)]
    unfold raiseInFault
    by_cases own : f.cause = .linkLost
    · rw [if_pos own, own]
      rfl
    · have other : ¬ (FaultCause.linkLost == f.cause) = true := fun e => own (beq_iff_eq.mp e).symm
      have unlike : ¬ (FaultCause.linkLost == .intrusion && f.unjoined) = true := Bool.false_ne_true
      rw [if_neg own, if_neg unlike, if_neg other, if_neg (by decide)]
  obtain ⟨link, crane, -, transit⟩ := becomeLost_effect h raised
  refine ⟨?_, transit, ?_⟩
  · rw [link, ← losing_link]
    split
    · rfl
    · exact congrArg (·.get c) (markIf_links ..)
  · rw [crane]
    split
    · exact losing_crane
    · rw [updCrane_crane, if_pos rfl, losing_crane]
      rfl

/-- LINK_LOST of a crane in LOCKOUT sets the link-lost flag. -/
theorem becomeLost_inLockout (h : s.lostDue c = true) (state : (s.crane c).state = .lockout) :
    (becomeLost c s).link c = { s.link c with state := .lost } ∧ ((becomeLost c s).engine c).transit = [] ∧
      (becomeLost c s).crane c =
        { s.crane c with
          lockoutContext := (s.crane c).lockoutContext.map fun x => { x with linkLostFlag := true } } := by
  obtain ⟨link, crane, -, transit⟩ := becomeLost_effect h (raise_lockout (by rw [losing_crane]; exact state))
  refine ⟨?_, transit, ?_⟩
  · rw [link, ← losing_link]
    exact congrArg (·.get c) (markIf_links ..)
  · rw [crane, updCrane_crane, if_pos rfl, losing_crane]
    show CraneStatus.mk _ _ ((s.crane c).eStop || false) _ _ _ = _
    rw [Bool.or_false]
    rfl

/-! ### STALE -/

/-- The scope of the work after the link-made frame of a STALE link: links keep what the frame set, operating states stand, and
the wind timers of crane c do not start again. -/
def Scope.staling (c : Slot) : Scope where
  arb := True
  bookings := True
  engine _ _ _ := True
  channel d ch ch' := d = c → ch.calmFrom = none → ch'.calmFrom = none
  link _ l l' := l'.state = l.state ∧ l'.lastPose = l.lastPose ∧ l'.generation = l.generation ∧ l'.inForce = l.inForce
  wind d w w' := d = c → w.calmDown = none → w'.calmDown = none
  status _ x x' := x'.state = x.state

theorem Work.staling_link {t : State} (h : Work (.staling c) s t) (d : Slot) :
    (t.link d).state = (s.link d).state ∧ (t.link d).lastPose = (s.link d).lastPose ∧
      (t.link d).generation = (s.link d).generation ∧ (t.link d).inForce = (s.link d).inForce :=
  ⟨Work.link_keeps (A := .staling c) (fun l => l.state) d (fun _ _ ok => ok.1) h,
    Work.link_keeps (A := .staling c) (fun l => l.lastPose) d (fun _ _ ok => ok.2.1) h,
    Work.link_keeps (A := .staling c) (fun l => l.generation) d (fun _ _ ok => ok.2.2.1) h,
    Work.link_keeps (A := .staling c) (fun l => l.inForce) d (fun _ _ ok => ok.2.2.2) h⟩

/-- On a link that is not LIVE no timer of the crane starts. -/
theorem staling_evaluates (h : (s.link c).state ≠ .live) : (Scope.staling c).Evaluates s :=
  { arb := trivial
    evict := fun _ _ _ => trivial
    told := fun _ _ _ told _ none => told.2.2.trans none
    bookings := trivial
    channel := fun _ _ _ ok _ none => ok.elim (fun e => e.trans none) id
    calm := fun t work d m live same _ => by
      subst same
      exact absurd ((work.staling_link d).1.symm.trans live) h
    line := fun _ l l' ok => by
      rw [ok.1]
      exact ⟨rfl, rfl, rfl, rfl⟩
    values := fun _ _ _ _ _ _ ok _ none => ok.elim (fun e => e.trans none) id
    timed := fun t work d x live same _ => by
      subst same
      exact absurd ((work.staling_link d).1.symm.trans live) h
    levels := fun _ _ _ _ ok _ none => ok.elim (fun e => e.trans none) id }

/-- The link with its link-made frame placed, before anything is begun. -/
def State.stalled (s : State) (c : Slot) (r : CraneRecord) : State :=
  updLink c (fun l =>
    { l with
      generation := (l.generation + 1) % 256
      slot := some ⟨(l.generation + 1) % 256, linkMadeFrame s.geo.mode r⟩
      inForce := some ⟨false, (linkMadeFrame s.geo.mode r).mode⟩ })
    (updLink c (fun l => { l with state := .stale }) s)

theorem updLink_geo (c : Slot) (f : Link → Link) (s : State) : (updLink c f s).geo = s.geo := markIf_geo ..

theorem stalled_link (r : CraneRecord) : (s.stalled c r).link c =
    { s.link c with
      state := .stale, generation := ((s.link c).generation + 1) % 256
      slot := some ⟨((s.link c).generation + 1) % 256, linkMadeFrame s.geo.mode r⟩
      inForce := some ⟨false, (linkMadeFrame s.geo.mode r).mode⟩ } := by
  unfold State.stalled
  rw [updLink_link, if_pos rfl, updLink_link, if_pos rfl]

theorem becomeStale_due {r : CraneRecord} (h : s.staleDue c = true) (record : s.record? c = some r) :
    becomeStale c s = windStale c (arbiterStale c (conditionCeases c .linkLost (kickCab c (s.stalled c r)))) := by
  have same : (updLink c (fun l => { l with state := .stale }) s).record? c = some r := by
    rw [← record]
    unfold State.record? State.slotOf
    rw [updLink_geo]
  unfold becomeStale
  rw [if_pos h]
  unfold placeLinkMade
  rw [same, updLink_geo]
  rfl

theorem staling_conditionCeases {t : State} (c : Slot) (cause : FaultCause) (h : Work (.staling c) s t) :
    Work (.staling c) s (conditionCeases c cause t) := by
  unfold conditionCeases
  split
  · exact updCrane_work c _ rfl h
  · exact h

/-- All of it after the frame is work in the scope, and the timers of the crane are stopped at its end. -/
theorem becomeStale_effect {r : CraneRecord} (h : s.staleDue c = true) (record : s.record? c = some r) :
    Work (.staling c) (s.stalled c r) (becomeStale c s) ∧ ((becomeStale c s).windOf c).calmDown = none ∧
      ((becomeStale c s).channel c).calmFrom = none := by
  rw [becomeStale_due h record]
  have notLive {u : State} (work : Work (.staling c) (s.stalled c r) u) : (u.link c).state ≠ .live := by
    rw [(work.staling_link c).1, stalled_link]
    exact fun e => LinkState.noConfusion e
  have runs := (staling_evaluates (notLive .refl)).toRuns
  have told : Work (.staling c) (s.stalled c r)
      (arbiterStale c (conditionCeases c .linkLost (kickCab c (s.stalled c r)))) :=
    arbiterStale_work runs.toArbitrates c (fun _ => trivial) (staling_conditionCeases c _ (kickCab_work runs c .refl))
  generalize arbiterStale c _ = v at told
  have cleared : Work (.staling c) v (updChannel c (fun ch => { ch with calmFrom := none })
      (updWind c (fun w => { w with calmDown := none }) v)) :=
    updChannel_work (A := .staling c) c (fun ch => { ch with calmFrom := none }) (fun _ _ => rfl)
      (updWind_work (A := .staling c) c (fun w => { w with calmDown := none }) (fun _ _ => rfl) .refl)
  have calmFrom : ((updChannel c (fun ch => { ch with calmFrom := none })
      (updWind c (fun w => { w with calmDown := none }) v)).channel c).calmFrom = none := by
    rw [updChannel_channel, if_pos rfl]
  have calmDown : ((updChannel c (fun ch => { ch with calmFrom := none })
      (updWind c (fun w => { w with calmDown := none }) v)).windOf c).calmDown = none := by
    have h := updWind_windOf c c (fun w => { w with calmDown := none }) v
    rw [if_pos rfl] at h
    refine (congrArg (fun w : WindMonitor => (w.cranes.get c).calmDown) (markIf_wind ..)).trans ?_
    exact congrArg (fun w : Wind => w.calmDown) h
  unfold windStale
  generalize updChannel c _ _ = u at cleared calmFrom calmDown
  have both := told.trans cleared
  have rest := reevaluateBorrowers_work (staling_evaluates (notLive both)) none .refl
  refine ⟨both.trans rest, ?_, ?_⟩
  · exact Work.wind_rel (A := .staling c) (fun w w' => w.calmDown = none → w'.calmDown = none) (fun _ => id)
      (fun _ _ _ p q => q ∘ p) c (fun _ _ ok => ok rfl) rest calmDown
  · exact Work.channel_rel (A := .staling c) (fun ch ch' => ch.calmFrom = none → ch'.calmFrom = none) (fun _ => id)
      (fun _ _ _ p q => q ∘ p) c (fun _ _ ok => ok rfl) rest calmFrom

theorem stalled_status (r : CraneRecord) : (s.stalled c r).status = s.status := by
  unfold State.stalled
  rw [updLink_status, updLink_status]

theorem becomeStale_work (c : Slot) (s : State) : Work .all s (becomeStale c s) := by
  unfold becomeStale
  split
  · exact windStale_work (all_evaluates s) c (arbiterStale_work (all_runs s).toArbitrates c (fun _ => trivial)
      (conditionCeases_work (all_judges s c) .linkLost
        (placeLinkMade_work (all_runs s) c (fun _ _ _ => trivial) (updLink_work c _ trivial .refl))))
  · exact .refl

end
end Sys2Proof.Machine

open Sys2Proof Sys2Proof.Machine

/-- Settles O46: the table of R26 quantity by quantity, and what each outcome does to the link. -/
theorem poseIsJudged : Obligations.PoseIsJudged := ⟨poseValues_holds, poseOutcome_holds⟩

/-- Settles O47: a report that is not heard or old changes nothing; an invalid one raises the streak, and the second in a row
is a first fault. -/
theorem poseIsRefused : Obligations.PoseIsRefused := by
  intro c f s on h
  refine ⟨fun deaf => ?_, fun p state pose _ old => ?_, fun r q included record fresh judged => ⟨fun streak => ?_,
    fun streak state => ?_⟩⟩
  · exact leaves_unchanged (takePose c f) rfl on h (takePose_deaf f (deaf_of deaf))
  · refine leaves_unchanged (takePose c f) rfl on h (takePose_old ?_)
    refine (inWindow_heard state pose f).trans ?_
    rw [inRange, Bool.and_eq_false_iff, decide_eq_false_iff_not, decide_eq_false_iff_not]
    omega
  · have taken : takePose c f (nextEvent s) = takeInvalid c q (nextEvent s) :=
      takePose_invalid included record fresh judged
    refine leaves_worked (takePose c f) rfl on h rfl rfl ?_
    rw [taken]
    exact (nextEvent_sameBlocks s).putLink c _ |>.trans (takeInvalid_streak (s := nextEvent s) q streak)
  · have taken : takePose c f (nextEvent s) = takeInvalid c q (nextEvent s) :=
      takePose_invalid included record fresh judged
    have work := takeInvalid_work (c := c) q (nextEvent s)
    obtain ⟨t, next, left⟩ := event_work_leaves (A := .all) (i := .poseReport c f) (takePose c f) rfl on h
      (taken ▸ work)
    rw [taken] at left
    have site := site_of_work work left
    rw [takeInvalid_faults (s := nextEvent s) q streak state] at left
    obtain ⟨links, -, crane, reasons, -⟩ := firstFault_effect c .poseInvalid none
      (updLink c (Link.refuses q) (nextEvent s))
    have before : (updLink c (Link.refuses q) (nextEvent s)).crane c = s.crane c := congrArg (·.get c) (updLink_status ..)
    rw [before] at crane
    refine ⟨t, next, ?_, ?_, ?_, ?_, site⟩
    · rw [left.link]
      refine (congrArg (·.get c) links).trans ((updLink_link c c _ _).trans ((if_pos rfl).trans ?_))
      show (s.link c).refuses q = _
      unfold Link.refuses
      rw [streak]
      rfl
    · rw [left.crane, crane]
      rfl
    · rw [left.crane, crane]
      show some _ = some _
      congr 2
    · rw [left.channel, reasons]

/-- Settles O50: a link heard recently is left; STALE is followed from the state with the link-made frame, LOST through the
cause raised in each operating state. -/
theorem silentLinkGoesDown : Obligations.SilentLinkGoesDown := by
  intro c p s on h pose
  have lost := becomeLost_work c (nextEvent s)
  refine ⟨fun early => ?_, fun early => ?_, fun r record live due => ?_, fun stale due state => ?_, fun stale due =>
    ⟨fun f state fault => ?_, fun state => ?_⟩⟩
  · refine leaves_unchanged (becomeStale c) rfl on h (becomeStale_notDue fun d => ?_)
    obtain ⟨live, passed⟩ := (staleDue_iff (s := nextEvent s) pose).mp d
    exact early.elim (fun e => e live) (fun e => absurd passed (Nat.not_le.mpr e))
  · refine leaves_unchanged (becomeLost c) rfl on h (becomeLost_notDue fun d => ?_)
    obtain ⟨stale, passed⟩ := (lostDue_iff (s := nextEvent s) pose).mp d
    exact early.elim (fun e => e stale) (fun e => absurd passed (Nat.not_le.mpr e))
  · have work := becomeStale_work c (nextEvent s)
    obtain ⟨t, next, left⟩ := event_work_leaves (i := .linkStale c) (becomeStale c) rfl on h work
    obtain ⟨after, calmDown, calmFrom⟩ :=
      becomeStale_effect (s := nextEvent s) ((staleDue_iff (s := nextEvent s) pose).mpr ⟨live, due⟩) record
    obtain ⟨state, lastPose, generation, inForce⟩ := after.staling_link c
    rw [stalled_link] at state lastPose generation inForce
    refine ⟨t, next, ?_, ?_, ?_, ?_, ?_, ?_, fun d => ?_, site_of_work work left⟩
    · rw [left.link, state]
    · rw [left.link, lastPose]
      exact pose
    · rw [left.link, generation]
      rfl
    · rw [left.link, inForce]
      rfl
    · rw [left.wind c]
      exact calmDown
    · rw [left.channel, calmFrom]
    · rw [left.crane, Work.status_keeps (A := .staling c) (fun x => x.state) d (fun _ _ ok => ok) after]
      exact congrArg (fun v : Vector CraneStatus 12 => (v.get d).state) (stalled_status (s := nextEvent s) r)
  · obtain ⟨t, next, left⟩ := event_work_leaves (i := .linkLost c) (becomeLost c) rfl on h lost
    obtain ⟨link, crane, reasons, transit⟩ :=
      becomeLost_faults (s := nextEvent s) ((lostDue_iff (s := nextEvent s) pose).mpr ⟨stale, due⟩) state
    refine ⟨t, next, (left.link c).trans link, ?_, ?_, ?_, ?_, site_of_work lost left⟩
    · rw [left.crane, crane]
      rfl
    · rw [left.crane, crane]
      show some _ = some _
      congr 2
    · rw [left.channel, reasons]
    · rw [left.engine, transit]
  · obtain ⟨t, next, left⟩ := event_work_leaves (i := .linkLost c) (becomeLost c) rfl on h lost
    obtain ⟨link, transit, crane⟩ := becomeLost_inFault (s := nextEvent s)
      ((lostDue_iff (s := nextEvent s) pose).mpr ⟨stale, due⟩) state fault
    exact ⟨t, next, (left.link c).trans link, by rw [left.engine, transit], (left.crane c).trans crane⟩
  · obtain ⟨t, next, left⟩ := event_work_leaves (i := .linkLost c) (becomeLost c) rfl on h lost
    obtain ⟨link, transit, crane⟩ := becomeLost_inLockout (s := nextEvent s)
      ((lostDue_iff (s := nextEvent s) pose).mpr ⟨stale, due⟩) state
    exact ⟨t, next, (left.link c).trans link, by rw [left.engine, transit], (left.crane c).trans crane⟩
end

section
/-! SUPPORT for the statement O52: numbers and their bytes, escaping and its reading, and the cab frame around a content. -/

namespace Sys2Proof.Machine

/-! ## Numbers and their bytes -/

@[simp] theorem length_bytesOf (n v : Nat) : (bytesOf n v).length = n := by
  induction n generalizing v with
  | zero => rfl
  | succ n ih => simp [bytesOf, ih]

theorem numberOf_append_byte (l : List Byte) (b : Byte) : numberOf (l ++ [b]) = 256 * numberOf l + b.toNat := by
  simp [numberOf]

/-- The lowest n bytes of a number spell it modulo 256 to the n. -/
theorem numberOf_bytesOf (n v : Nat) : numberOf (bytesOf n v) = v % 256 ^ n := by
  induction n generalizing v with
  | zero => simp [bytesOf, numberOf, Nat.mod_one]
  | succ n ih =>
    rw [bytesOf, numberOf_append_byte, ih, BitVec.toNat_ofNat, Nat.pow_succ' (m := 256), Nat.mod_mul]
    omega

/-- A number that fits n bytes is what its n bytes spell. -/
theorem numberOf_bytesOf_fits {n v : Nat} (fits : v < 256 ^ n) : numberOf (bytesOf n v) = v :=
  (numberOf_bytesOf n v).trans (Nat.mod_eq_of_lt fits)

theorem numberOf_byte (b : Byte) : numberOf [b] = b.toNat := by simp [numberOf]

/-- The high and the low part of a number of n + m bits, put together again. -/
theorem append_ofNat_div_mod {n m : Nat} (x : BitVec (n + m)) :
    BitVec.ofNat n (x.toNat / 2 ^ m) ++ BitVec.ofNat m x.toNat = x := by
  apply BitVec.eq_of_toNat_eq
  have high : x.toNat / 2 ^ m < 2 ^ n := Nat.div_lt_of_lt_mul (x.isLt.trans_eq ((Nat.pow_add 2 n m).trans (Nat.mul_comm ..)))
  have low : x.toNat % 2 ^ m < 2 ^ m := Nat.mod_lt _ (Nat.two_pow_pos m)
  rw [BitVec.toNat_append, BitVec.toNat_ofNat, BitVec.toNat_ofNat, Nat.mod_eq_of_lt high,
    ← Nat.shiftLeft_add_eq_or_of_lt low, Nat.shiftLeft_eq, Nat.div_add_mod']

/-- The two bytes of a number of 16 bits, put together again. -/
theorem word_ofBytes (x : BitVec 16) : BitVec.ofNat 8 (x.toNat / 256) ++ BitVec.ofNat 8 x.toNat = x :=
  append_ofNat_div_mod (n := 8) (m := 8) x

/-- The four bytes of a number of 32 bits, put together again. -/
theorem dword_ofBytes (x : BitVec 32) :
    BitVec.ofNat 8 (x.toNat / 256 / 256 / 256) ++ BitVec.ofNat 8 (x.toNat / 256 / 256) ++ BitVec.ofNat 8 (x.toNat / 256) ++
      BitVec.ofNat 8 x.toNat = x := by
  have upper {n : Nat} {v : Nat} (fits : v < 2 ^ (n + 8)) :
      BitVec.ofNat n (v / 256) ++ BitVec.ofNat 8 v = BitVec.ofNat (n + 8) v := by
    have h := append_ofNat_div_mod (n := n) (m := 8) (BitVec.ofNat (n + 8) v)
    rwa [BitVec.toNat_ofNat, Nat.mod_eq_of_lt fits] at h
  have lt := x.isLt
  have two := upper (n := 8) (v := x.toNat / 256 / 256) (by omega)
  have three := upper (n := 16) (v := x.toNat / 256) (by omega)
  have four := upper (n := 24) (v := x.toNat) lt
  rw [two, three, four, BitVec.ofNat_toNat, BitVec.setWidth_eq]

/-! ## Escaping -/

/-- A byte that is neither start nor escape byte is read as itself. -/
theorem unescapeBytes_plain {b : Byte} (l : List Byte) (plain : (b == startByte || b == escapeByte) = false) :
    unescapeBytes (b :: l) = (unescapeBytes l).map (b :: ·) := by
  have ⟨notStart, notEscape⟩ := Bool.or_eq_false_iff.mp plain
  cases l with
  | nil => simp [unescapeBytes, plain]
  | cons b' l => simp [unescapeBytes, notStart, notEscape]

/-- An escaped byte is read as the byte it stands for. -/
theorem unescapeBytes_escaped {b : Byte} (l : List Byte) (special : (b == startByte || b == escapeByte) = true) :
    unescapeBytes (escapeByte :: (b ^^^ escapeMask) :: l) = (unescapeBytes l).map (b :: ·) := by
  have cases : b = startByte ∨ b = escapeByte := by simpa using special
  rcases cases with rfl | rfl <;> rfl

/-- What a sender escapes is read as it was. -/
theorem unescapeBytes_escapeBytes (l : List Byte) : unescapeBytes (escapeBytes l) = some l := by
  induction l with
  | nil => rfl
  | cons b l ih =>
    rw [escapeBytes]
    split
    next special => rw [unescapeBytes_escaped _ special, ih, Option.map_some]
    next plain => rw [unescapeBytes_plain _ (Bool.eq_false_iff.mpr plain), ih, Option.map_some]

/-- No start byte stands among escaped bytes. -/
theorem startByte_not_mem_escapeBytes (l : List Byte) : startByte ∉ escapeBytes l := by
  induction l with
  | nil => exact List.not_mem_nil
  | cons b l ih =>
    rw [escapeBytes]
    split
    next special =>
      have cases : b = startByte ∨ b = escapeByte := by simpa using special
      have masked : startByte ≠ b ^^^ escapeMask := by rcases cases with rfl | rfl <;> decide
      have escape : startByte ≠ escapeByte := by decide
      simp [ih, masked, escape]
    next plain =>
      have notStart : startByte ≠ b := fun e => plain (by simp [← e])
      simp [ih, notStart]

/-! ## The frame of a content -/

/-- The check of a frame around a content of at most 255 bytes reads the content. -/
theorem checkCabFrame_cabFrame {content : List Byte} (fits : content.length < 256) :
    checkCabFrame (cabFrame content) = cabMessageOf? content := by
  have len : (BitVec.ofNat 8 content.length).toNat = content.length := by
    rw [BitVec.toNat_ofNat]
    exact Nat.mod_eq_of_lt fits
  have two (l : List Byte) : (crcBytes l).length = 2 := length_bytesOf 2 _
  simp [checkCabFrame, cabFrame, unescapeBytes_escapeBytes, len, two]

/-- The fields of a pose report are read as they were written. -/
theorem cabMessageOf?_poseBytes (p : PoseFrame) : cabMessageOf? (poseBytes p) = some (.pose p) := by
  have read : poseOfBytes? (poseBytes p).tail = some p := by
    simp only [poseBytes, bytesOf, List.nil_append, List.cons_append, List.tail_cons, poseOfBytes?, word_ofBytes,
      dword_ofBytes]
  exact congrArg (Option.map CabMessage.pose) read

theorem inboundIsRead : Parts.InboundIsRead := by
  refine ⟨fun p => ?_, fun code => checkCabFrame_cabFrame (by simp), checkCabFrame_cabFrame (by simp)⟩
  have length : (poseBytes p).length = 21 := by simp [poseBytes]
  exact (checkCabFrame_cabFrame (by omega)).trans (cabMessageOf?_poseBytes p)

/-! ## The layouts of what the part sends -/

theorem frameMode_ofCode (m : FrameMode) :
    [FrameMode.survey, .holdPosition, .normal, .evict, .storm, .stormRelease, .fault, .lockout][m.code]? = some m := by
  cases m <;> rfl

theorem frameMode_code_lt (m : FrameMode) : m.code < 256 := by cases m <;> decide

theorem hoistMode_ofCode (m : HoistMode) : [HoistMode.free, .lowerOnly, .park][m.code]? = some m := by
  cases m <;> rfl

theorem hoistMode_code_lt (m : HoistMode) : m.code < 256 := by cases m <;> decide

/-- The presence byte of two limits: bit 0 and bit 1, and no other. -/
theorem presence_bits (cw ccw : Bool) :
    let x : Byte := BitVec.ofNat 8 ((if cw then 1 else 0) + (if ccw then 2 else 0))
    x.getLsbD 0 = cw ∧ x.getLsbD 1 = ccw ∧ ∀ i, 2 ≤ i → x.getLsbD i = false := by
  have bits : ∀ cw ccw : Bool, let x : Byte := BitVec.ofNat 8 ((if cw then 1 else 0) + (if ccw then 2 else 0))
      x.getLsbD 0 = cw ∧ x.getLsbD 1 = ccw ∧ ∀ i < 8, 2 ≤ i → x.getLsbD i = false := by decide
  obtain ⟨first, second, others⟩ := bits cw ccw
  exact ⟨first, second, fun i two => (lt_or_ge i 8).elim (fun lt => others i lt two) (BitVec.getLsbD_of_ge _ i)⟩

/-- A flag's byte spells 1 or 0. -/
theorem numberOf_flag (b : Bool) : numberOf [if b then 1#8 else 0#8] = if b = true then 1 else 0 := by
  cases b <;> rfl

theorem limitFrameBytes_layout : Parts.LimitFrameBytes := by
  intro f b
  have mode : Parts.field b 1 1 = f.frame.mode.code := numberOf_bytesOf_fits (n := 1) (frameMode_code_lt _)
  have hoist : Parts.field b 20 1 = f.frame.hoist.code := numberOf_bytesOf_fits (n := 1) (hoistMode_code_lt _)
  have cw : Parts.field b 4 2 = numberOf (bytesOf 2 (f.frame.cwLimit.getD 0)) := rfl
  have ccw : Parts.field b 6 2 = numberOf (bytesOf 2 (f.frame.ccwLimit.getD 0)) := rfl
  refine ⟨rfl, rfl, mode ▸ frameMode_ofCode _, numberOf_bytesOf_fits (n := 1),
    ⟨_, rfl, presence_bits f.frame.cwLimit.isSome f.frame.ccwLimit.isSome⟩,
    fun none => by rw [cw, none]; rfl, fun v some fits => by rw [cw, some]; exact numberOf_bytesOf_fits fits,
    fun none => by rw [ccw, none]; rfl, fun v some fits => by rw [ccw, some]; exact numberOf_bytesOf_fits fits,
    numberOf_bytesOf_fits (n := 1), numberOf_bytesOf_fits (n := 1), numberOf_bytesOf_fits (n := 4),
    numberOf_bytesOf_fits (n := 4), numberOf_bytesOf_fits (n := 1), numberOf_bytesOf_fits (n := 1),
    hoist ▸ hoistMode_ofCode _, numberOf_flag _⟩

theorem noticeBytes_layout : Parts.NoticeBytes := by
  refine ⟨fun code ack chars short => ?_, fun code ack p1 p2 fitsCode fits1 fits2 => ?_⟩
  · exact ⟨rfl, rfl, numberOf_flag ack, numberOf_byte code, numberOf_bytesOf_fits (n := 1) (by omega), rfl⟩
  · exact ⟨rfl, rfl, rfl, numberOf_flag ack, numberOf_bytesOf_fits (n := 1) fitsCode, numberOf_bytesOf_fits (n := 2) fits1,
      numberOf_bytesOf_fits (n := 2) fits2⟩

theorem lineBytes_eq (o : CabOutbound) : o.lineBytes = cabFrame (Parts.content o) := by cases o <;> rfl

theorem outboundIsFramedForCab : Parts.OutboundIsFramedForCab := fun o =>
  ⟨_, lineBytes_eq o, startByte_not_mem_escapeBytes _, unescapeBytes_escapeBytes _⟩

/-- Settles O52: what a sender escapes is read as it was, and the layouts are lists of bytes of known places. -/
theorem cabFramesAreRead : Obligations.CabFramesAreRead :=
  ⟨inboundIsRead, limitFrameBytes_layout, noticeBytes_layout, outboundIsFramedForCab⟩

end Sys2Proof.Machine
end

section
/-! SUPPORT and the statement O15. A RELAY goes over distinct cranes, and the notice queued for one changes only that crane's
link and a channel whose NOTIFY or ACK step waits for a place: so each crane is judged as it stood before the RELAY. -/

namespace Sys2Proof.Machine

/-! ## What a scope without a kind of change leaves alone -/

section
variable {A : Scope} {s t : State}

theorem Work.arb_eq (hA : ¬ A.arb) (h : Work A s t) : t.arb = s.arb := by
  induction h with
  | refl => rfl
  | arb a ok _ _ => exact absurd ok hA
  | mark | free | bookings | engine | channel | link | wind | status => assumption

theorem Work.engines_eq (hA : ∀ c x y, ¬ A.engine c x y) (h : Work A s t) : t.engines = s.engines := by
  induction h with
  | refl => rfl
  | engine c x ok _ _ => exact absurd ok (hA _ _ _)
  | mark | arb | free | bookings | channel | link | wind | status => assumption

theorem Work.channels_eq (hA : ∀ c x y, ¬ A.channel c x y) (h : Work A s t) : t.channels = s.channels := by
  induction h with
  | refl => rfl
  | channel c x ok _ _ => exact absurd ok (hA _ _ _)
  | mark | arb | free | bookings | engine | link | wind | status => assumption

end

/-! ## What the transmitters of some cranes may change -/

/-- The links of some cranes may change, and channels whose step waits for a place of the notice queue. -/
def Scope.transmits (P : Slot → Prop) : Scope where
  arb := False
  bookings := False
  engine _ _ _ := False
  channel _ ch _ := ch.phase = .waitingSlot
  link c _ _ := P c
  wind _ _ _ := False
  status _ _ _ := False

section
variable {s t u : State} {c d : Slot} {P : Slot → Prop}

section
variable (h : Work (.transmits P) s t)
include h

theorem Work.transmits_arb : t.arb = s.arb := h.arb_eq id

theorem Work.transmits_engines : t.engines = s.engines := h.engines_eq fun _ _ _ => id

theorem Work.transmits_status : t.status = s.status := h.status_eq fun _ _ _ => id

theorem Work.transmits_bookings : t.bookings = s.bookings := h.bookings_eq id

theorem Work.transmits_link (other : ¬ P c) : t.link c = s.link c :=
  Work.link_keeps (A := .transmits P) id c (fun _ _ ok => (other ok).elim) h

theorem Work.transmits_channel (steady : (s.channel c).phase ≠ .waitingSlot) : t.channel c = s.channel c :=
  Work.channel_rel (A := .transmits P) (fun ch ch' => ch.phase ≠ .waitingSlot → ch' = ch) (fun _ _ => rfl)
    (fun _ _ _ p q steady => (q (by rw [p steady]; exact steady)).trans (p steady)) c
    (fun _ _ ok steady => (steady ok).elim) h steady

theorem Work.transmits_slotOf : t.slotOf c = s.slotOf c := by
  unfold State.slotOf
  rw [h.geo]

/-- A crane whose link has not changed is skipped as before. -/
theorem Work.transmits_skip (other : ¬ P c) : t.relaySkip? c = s.relaySkip? c := by
  unfold State.relaySkip?
  rw [h.transmits_link other, h.transmits_slotOf]

end

/-- More links may change. -/
theorem Work.transmits_mono {Q : Slot → Prop} (le : ∀ c, P c → Q c) (h : Work (.transmits P) s t) :
    Work (.transmits Q) s t := by
  induction h with
  | refl => exact .refl
  | mark k _ ih => exact .mark k ih
  | arb a ok _ _ => exact ok.elim
  | bookings l ok _ _ => exact ok.elim
  | free n ok _ _ => exact ok.elim
  | engine c x ok _ _ => exact ok.elim
  | channel c x ok _ ih => exact .channel c x ok ih
  | link c x ok _ ih => exact .link c x (le c ok) ih
  | wind c x ok _ _ => exact ok.elim
  | status c x ok _ _ => exact ok.elim

theorem updLink_channel (c : Slot) (f : Link → Link) (s : State) (d : Slot) : (updLink c f s).channel d = s.channel d :=
  congrArg (·.get d) (updLink_channels c f s)

theorem noticeEntered_transmits (waits : (s.channel c).phase = .waitingSlot) :
    Work (.transmits P) s (noticeEntered c s) := by
  unfold noticeEntered
  split
  · exact updChannel_work (A := .transmits P) _ _ waits .refl
  · exact updChannel_work (A := .transmits P) _ _ waits .refl

theorem placeFreed_transmits (own : P c) (s : State) : Work (.transmits P) s (placeFreed c s) := by
  unfold placeFreed
  split
  next claimed =>
    split
    next n _ =>
      refine (updLink_work (A := .transmits P) c _ own .refl).trans (noticeEntered_transmits ?_)
      rw [updLink_channel]
      exact ((slotClaimed_iff s c).mp claimed).2
    next => exact .refl
  next => exact .refl

theorem kickCab_transmits (own : P c) (s : State) : Work (.transmits P) s (kickCab c s) := by
  unfold kickCab
  split
  next => exact .refl
  next =>
    split
    next => exact updLink_work (A := .transmits P) c _ own .refl
    next =>
      split
      next => exact .refl
      next => exact (updLink_work (A := .transmits P) c _ own .refl).trans (placeFreed_transmits own _)

/-! ## One crane -/

/-- A notice put at the tail of a crane's queue, and begun where nothing stands before it. -/
def queueNotice (n : CabNotice) (c : Slot) (s : State) : State :=
  kickCab c (updLink c (fun l => { l with notices := l.notices ++ [n] }) s)

theorem queueNotice_transmits (own : P c) (n : CabNotice) (s : State) : Work (.transmits P) s (queueNotice n c s) :=
  (updLink_work (A := .transmits P) c _ own .refl).trans (kickCab_transmits own _)

/-- What becomes of a link, seen with its channel's phase and the reset line, as a notice is queued on it. -/
def Link.Noticed (n : CabNotice) (low : Option Ms) (phase : ChannelPhase) (l l' : Link) : Prop :=
  (l.tx ≠ none → l' = { l with notices := l.notices ++ [n] }) ∧
    (l.tx = none → low = none → l.slot = none → l.notices = [] → phase ≠ .waitingSlot → l' = { l with tx := some (.notice n) })

theorem queueNotice_noticed (n : CabNotice) (c : Slot) (s : State) :
    Link.Noticed n s.power.lowFor (s.channel c).phase (s.link c) ((queueNotice n c s).link c) := by
  unfold queueNotice
  have queued := (SameBlocks.refl s).updLink c (f := fun l => { l with notices := l.notices ++ [n] }) rfl
  have link : (updLink c (fun l => { l with notices := l.notices ++ [n] }) s).link c =
      { s.link c with notices := (s.link c).notices ++ [n] } := (updLink_link ..).trans (if_pos rfl)
  have channel := updLink_channel c (fun l => { l with notices := l.notices ++ [n] }) s c
  have power := queued.power
  generalize updLink c _ s = v at link channel power
  refine ⟨fun busy => ?_, fun idle high slot none steady => ?_⟩
  · rw [kickCab_busy (by rw [link]; exact .inl busy), link]
  · rw [kickCab_notice (n := n) (rest := []) (by rw [link]; exact idle) (by rw [power]; exact high)
      (by rw [link]; exact slot) (by rw [link, none]; rfl), placeFreed_unclaimed, updLink_link, if_pos rfl, link, none]
    refine .inr ?_
    rw [updLink_channel, channel]
    exact steady

/-! ## The cranes of a RELAY in turn -/

theorem relayOne_skipped {n : CabNotice} {why : SkipReason} (q : List Slot) (k : List (Slot × SkipReason))
    (h : s.relaySkip? c = some why) : relayOne n c (s, q, k) = (s, q, k ++ [(c, why)]) := by
  unfold relayOne
  dsimp only
  rw [h]

theorem relayOne_queued {n : CabNotice} (q : List Slot) (k : List (Slot × SkipReason)) (h : s.relaySkip? c = none) :
    relayOne n c (s, q, k) = (queueNotice n c s, q ++ [c], k) := by
  unfold relayOne
  dsimp only
  rw [h]
  rfl

/-- The cranes of a list with the reasons for which they are skipped. -/
def State.skipped (s : State) (l : List Slot) : List (Slot × SkipReason) :=
  l.filterMap fun c => (s.relaySkip? c).map fun why => (c, why)

/-- The cranes of a list that are not skipped. -/
def State.queued (s : State) (l : List Slot) : List Slot := l.filter fun c => (s.relaySkip? c).isNone

/-- What a RELAY over some cranes comes to, of the state and the two lists it began with. -/
structure Relayed (n : CabNotice) (l : List Slot) (s : State) (q : List Slot) (k : List (Slot × SkipReason))
    (r : State × List Slot × List (Slot × SkipReason)) : Prop where
  queued : r.2.1 = q ++ s.queued l
  skipped : r.2.2 = k ++ s.skipped l
  work : Work (.transmits fun c => c ∈ l ∧ s.relaySkip? c = none) s r.1
  noticed : ∀ c ∈ l, s.relaySkip? c = none →
    Link.Noticed n s.power.lowFor (s.channel c).phase (s.link c) (r.1.link c)

theorem relayAll {n : CabNotice} {l : List Slot} (distinct : l.Nodup) (s : State) (q : List Slot)
    (k : List (Slot × SkipReason)) : Relayed n l s q k (l.foldl (fun r c => relayOne n c r) (s, q, k)) := by
  induction l generalizing s q k with
  | nil => exact ⟨(List.append_nil _).symm, (List.append_nil _).symm, .refl, fun _ mem => (List.not_mem_nil mem).elim⟩
  | cons c l ih =>
    obtain ⟨notIn, distinct⟩ := List.nodup_cons.mp distinct
    rw [List.foldl_cons]
    cases h : s.relaySkip? c with
    | some why =>
      rw [relayOne_skipped q k h]
      obtain ⟨queued, skipped, work, noticed⟩ := ih distinct s q (k ++ [(c, why)])
      refine ⟨?_, ?_, work.transmits_mono fun d ok => ⟨List.mem_cons_of_mem _ ok.1, ok.2⟩, fun d mem free => ?_⟩
      · rw [queued, State.queued, State.queued, List.filter_cons_of_neg (by rw [h]; exact Bool.false_ne_true)]
      · rw [skipped, State.skipped, State.skipped, List.filterMap_cons_some (by rw [h]; rfl), List.append_assoc]
        rfl
      · rcases List.mem_cons.mp mem with rfl | mem
        · rw [h] at free
          cases free
        · exact noticed d mem free
    | none =>
      rw [relayOne_queued q k h]
      obtain ⟨queued, skipped, work, noticed⟩ := ih distinct (queueNotice n c s) (q ++ [c]) k
      have first : Work (.transmits (c = ·)) s (queueNotice n c s) := queueNotice_transmits rfl n s
      have other {d : Slot} (mem : d ∈ l) : c ≠ d := fun e => notIn (e ▸ mem)
      have skip {d : Slot} (mem : d ∈ l) : (queueNotice n c s).relaySkip? d = s.relaySkip? d :=
        first.transmits_skip (other mem)
      refine ⟨?_, ?_, ?_, fun d mem free => ?_⟩
      · rw [queued, State.queued, State.queued, List.filter_cons_of_pos (by rw [h]; rfl), List.append_assoc,
          List.filter_congr fun d mem => congrArg Option.isNone (skip mem)]
        rfl
      · rw [skipped, State.skipped, State.skipped, List.filterMap_cons_none (by rw [h]; rfl),
          List.filterMap_congr fun d mem => congrArg (Option.map fun why => (d, why)) (skip mem)]
      · refine (queueNotice_transmits ⟨List.mem_cons_self, h⟩ n s).trans (work.transmits_mono fun d ok => ?_)
        exact ⟨List.mem_cons_of_mem _ ok.1, (skip ok.1).symm.trans ok.2⟩
      · rcases List.mem_cons.mp mem with rfl | mem
        · rw [work.transmits_link fun ok => notIn ok.1]
          exact queueNotice_noticed n d s
        · have h := noticed d mem ((skip mem).trans free)
          rw [first.transmits_link (other mem), first.power] at h
          exact ⟨h.1, fun idle high slot none steady => h.2 idle high slot none
            (by rw [first.transmits_channel steady]; exact steady)⟩

/-! ## The destination -/

theorem nodup_allSlots : allSlots.Nodup := by decide

theorem filter_one {p : Slot → Bool} (h : p c = true) : (allSlots.filter fun d => d.val == c.val && p d) = [c] := by
  have only : (fun d : Slot => d.val == c.val && p d) = fun d => d == c := by
    funext d
    rcases eq_or_ne d c with rfl | other
    · rw [h, Bool.and_true]
      exact (beq_self_eq_true _).trans (beq_self_eq_true _).symm
    · rw [beq_false_of_ne other, beq_false_of_ne (Fin.val_ne_of_ne other), Bool.false_and]
  rw [only, List.filter_beq, List.count_eq_one_of_mem nodup_allSlots (mem_allSlots c)]
  rfl

/-- A destination that is not refused names the cranes R186 gives it. -/
theorem relayCranes_ok (dest : RelayDest) (one : ∀ n, dest = .one n → ∃ c : Slot, c.val = n ∧ s.configured c = true)
    (except : ∀ n, dest = .allExcept n → n < 12) : s.relayCranes dest = .ok (Parts.relayed s dest) := by
  unfold State.relayCranes Parts.relayed
  cases dest with
  | one n =>
    obtain ⟨c, rfl, configured⟩ := one n rfl
    dsimp only
    rw [slotOf?_val]
    exact (if_pos configured).trans (congrArg _ (filter_one configured).symm)
  | all => rfl
  | allExcept n =>
    obtain ⟨c, rfl⟩ : ∃ c : Slot, c.val = n := ⟨⟨n, except n rfl⟩, rfl⟩
    dsimp only
    rw [slotOf?_val]
    refine congrArg Except.ok (List.filter_congr fun d _ => ?_)
    rw [Bool.and_comm]
    rcases eq_or_ne d c with rfl | other
    · rw [bne_self_eq_false, bne_self_eq_false]
    · rw [bne_iff_ne.mpr other, bne_iff_ne.mpr (Fin.val_ne_of_ne other)]

theorem nodup_relayed (s : State) (dest : RelayDest) : (Parts.relayed s dest).Nodup := by
  cases dest <;> exact List.Nodup.filter _ nodup_allSlots

/-! ## The request -/

theorem relayChar_iff (b : Byte) : relayChar b = true ↔ 0x20 ≤ b.toNat ∧ b.toNat ≤ 0x7E := by
  simp [relayChar, inRange]

/-- A text that a RELAY may hold. -/
theorem relayChars_all {text : List Byte} (h : ∀ b ∈ text, 0x20 ≤ b.toNat ∧ b.toNat ≤ 0x7E) :
    ¬ (!text.all relayChar) = true := by
  rw [Bool.not_eq_true, Bool.not_eq_false', List.all_eq_true]
  exact fun b mem => (relayChar_iff b).mpr (h b mem)

theorem doRelay_long {text : List Byte} (h : 40 < text.length) (dest : RelayDest) (code : Byte) (ack : Bool) :
    doRelay dest code ack text s = (s, codeOnly .badLength) := if_pos h

theorem doRelay_badChar {text : List Byte} (short : text.length ≤ 40) (h : ∃ b ∈ text, b.toNat < 0x20 ∨ 0x7E < b.toNat)
    (dest : RelayDest) (code : Byte) (ack : Bool) : doRelay dest code ack text s = (s, codeOnly .badValue) := by
  refine (if_neg (Nat.not_lt.mpr short)).trans (if_pos ?_)
  obtain ⟨b, mem, out⟩ := h
  rw [Bool.not_eq_true', List.all_eq_false]
  exact ⟨b, mem, fun ok => by have := (relayChar_iff b).mp ok; omega⟩

/-- A destination that is refused, with a text that may be relayed or not. -/
theorem doRelay_badDest {text : List Byte} (short : text.length ≤ 40) {dest : RelayDest}
    (h : s.relayCranes dest = .error (codeOnly .badValue)) (code : Byte) (ack : Bool) :
    doRelay dest code ack text s = (s, codeOnly .badValue) := by
  refine (if_neg (Nat.not_lt.mpr short)).trans ?_
  split
  · rfl
  · rw [h]

theorem doRelay_taken {text : List Byte} (short : text.length ≤ 40)
    (chars : ∀ b ∈ text, 0x20 ≤ b.toNat ∧ b.toNat ≤ 0x7E) (dest : RelayDest) (code : Byte) (ack : Bool) :
    doRelay dest code ack text s = match s.relayCranes dest with
      | .error a => (s, a)
      | .ok cranes =>
        let r := cranes.foldl (fun r c => relayOne (.text code ack text) c r) (s, [], [])
        (r.1, okWith (.relayed r.2.1 r.2.2)) :=
  (if_neg (Nat.not_lt.mpr short)).trans (if_neg (relayChars_all chars))

theorem relay_refused {tag code : Byte} {ack : Bool} {text : List Byte} {dest : RelayDest} {why : ReplyCode} (hs : s.Ready)
    (h : doRelay dest code ack text s.judging = (s.judging, codeOnly why)) :
    RefusedWith (.relay tag dest code ack text) s tag 27 why :=
  answered_reading (r := .relay dest code ack text) (a := codeOnly why) (doRelay dest code ack text) hs rfl (fun _ => rfl) h

theorem relayIsRefused_holds : Parts.RelayIsRefused := by
  intro tag code ack text s hs
  have configured := (judging_sameButReply s).readings.2.1
  refine ⟨fun long dest => relay_refused hs (doRelay_long long dest code ack), fun short =>
    ⟨fun bad dest => relay_refused hs (doRelay_badChar short bad dest code ack), fun n big => ?_, fun chars c no => ?_⟩⟩
  · have one : s.judging.relayCranes (.one n) = .error (codeOnly .badValue) := by
      unfold State.relayCranes
      dsimp only
      rw [slotOf?_ge big]
    have except : s.judging.relayCranes (.allExcept n) = .error (codeOnly .badValue) := by
      unfold State.relayCranes
      dsimp only
      rw [slotOf?_ge big]
    exact ⟨relay_refused hs (doRelay_badDest short one code ack), relay_refused hs (doRelay_badDest short except code ack)⟩
  · have one : s.judging.relayCranes (.one c.val) = .error (codeOnly .notConfigured) := by
      unfold State.relayCranes
      dsimp only
      rw [slotOf?_val]
      exact if_neg (by rw [configured c, no]; decide)
    refine relay_refused hs ((doRelay_taken short chars _ code ack).trans ?_)
    rw [one]

theorem skipReasons_holds : Parts.SkipReasons := by
  intro c s
  unfold State.relaySkip?
  simp only [bne_iff_ne]
  rfl

/-- What a RELAY asks of a state is not what the taking of a request changes. -/
theorem SameButReply.relaying (h : SameButReply s t) : (∀ c, t.relaySkip? c = s.relaySkip? c) ∧
    (∀ dest, Parts.relayed t dest = Parts.relayed s dest) ∧ (∀ c, t.link c = s.link c) ∧
    (∀ c, t.channel c = s.channel c) := by
  obtain ⟨_, _, geo, links, _, _, _, _, _, _, _, _, channels, _, _, _, _, _, _, _⟩ := h
  cases s
  cases t
  subst geo links channels
  exact ⟨fun _ => rfl, fun dest => by cases dest <;> rfl, fun _ => rfl, fun _ => rfl⟩

theorem relayIsTaken_holds : Parts.RelayIsTaken := by
  intro tag code ack text dest s hs short chars one except
  have judged := judging_sameButReply s
  obtain ⟨skip, cranes, link, channel⟩ := judged.relaying
  have named : s.judging.relayCranes dest = .ok (Parts.relayed s dest) := by
    rw [← cranes]
    exact relayCranes_ok dest
      (fun n e => (one n e).imp fun c h => ⟨h.1, (judged.readings.2.1 c).trans h.2⟩) except
  obtain ⟨queued, skipped, work, noticed⟩ :=
    relayAll (n := .text code ack text) (nodup_relayed s dest) s.judging [] []
  have done := doRelay_taken (s := s.judging) short chars dest code ack
  rw [named] at done
  dsimp only at done
  rw [queued, skipped] at done
  generalize (List.foldl (fun r c => relayOne (.text code ack text) c r) (s.judging, [], []) (Parts.relayed s dest)).1 = u
    at done work noticed
  obtain ⟨t, next, carried, left⟩ := answered_of_dispatch (i := .relay tag dest code ack text) (tag := tag)
    (r := .relay dest code ack text) hs rfl (congrArg (fun x => answered x) done) (SameBlocks.refl u).sameButReply
  have same : State.queued s.judging = s.queued ∧ State.skipped s.judging = s.skipped := by
    unfold State.queued State.skipped
    simp only [skip, and_self]
  rw [same.1, same.2, List.nil_append, List.nil_append] at carried
  obtain ⟨-, -, linkLeft, channelLeft⟩ := left.relaying
  refine ⟨t, next, carried, fun c mem free => ?_, fun c not => ?_, fun c steady => ?_, ?_, ?_, ?_, ?_, ?_, ?_, ?_⟩
  · rw [linkLeft]
    have h := noticed c mem ((skip c).trans free)
    rw [link, channel, judged.power] at h
    exact h
  · rw [linkLeft, work.transmits_link, link]
    exact fun ok => not.elim (fun h => h ok.1) (fun h => h ((skip c).symm.trans ok.2))
  · rw [channelLeft, work.transmits_channel, channel]
    rw [channel]
    exact steady
  · exact left.geo.trans (work.geo.trans judged.geo)
  · exact left.clock.trans (work.clock.trans judged.clock)
  · exact left.arb.trans (work.transmits_arb.trans judged.arb)
  · exact left.status.trans (work.transmits_status.trans judged.status)
  · exact left.engines.trans (work.transmits_engines.trans judged.engines)
  · exact left.bookings.trans (work.transmits_bookings.trans judged.bookings)
  · exact left.plans.trans (work.plans.trans judged.plans)

end

/-- Settles O15: the cranes of a RELAY are distinct and the notice queued for one changes no other crane's link, so the
judgement of each in turn is that of the state before. -/
theorem relayReachesCranes : Obligations.RelayReachesCranes :=
  ⟨relayIsTaken_holds, relayIsRefused_holds, skipReasons_holds⟩

end Sys2Proof.Machine
end

section
/-! SUPPORT for the statement O48: an accepted pose followed through Wind Monitor, Crane State and the Envelope Engine. What
each stage settles is read off the state that the stage leaves, and what later stages leave alone off the scope they work
in. -/

namespace Sys2Proof.Machine

section
variable {s t u : State} {c d : Slot}

/-! ## Scopes of the later stages -/

/-- The scope of channels and transmitters at work: computed values and operating states stand, and a link that sends, or
whose reset line is low, changes in nothing but its notices. -/
def Scope.running (low : Prop) : Scope where
  arb := True
  bookings := True
  engine _ e e' := ∃ l, e' = { e with evict := l }
  channel _ _ _ := True
  link _ l l' := l.Lined low l'
  wind _ _ _ := False
  status _ _ _ := False

theorem running_runs (s : State) : (Scope.running (s.power.lowFor ≠ none)).Runs s :=
  { arb := trivial
    evict := fun _ _ l => ⟨l, rfl⟩
    told := fun _ _ _ _ => trivial
    bookings := trivial
    channel := fun _ _ _ _ => trivial
    calm := fun _ _ _ _ _ => trivial
    line := fun _ _ _ h => h }

section
variable {low : Prop} (h : Work (.running low) s t)
include h

theorem Work.running_status : t.status = s.status := h.status_eq fun _ _ _ => id

theorem Work.running_inForce (c : Slot) : (t.link c).inForce = (s.link c).inForce :=
  Work.link_keeps (A := .running low) (fun l => l.inForce) c (fun _ _ ok => by rw [ok.1]) h

/-- A link that sends, or whose reset line is low, changes in nothing but its notices. -/
theorem Work.running_busy (c : Slot) (busy : (s.link c).tx ≠ none ∨ low) :
    t.link c = { s.link c with notices := (t.link c).notices } :=
  Work.link_rel (A := .running low) (fun l l' => l.tx ≠ none ∨ low → l' = { l with notices := l'.notices })
    (fun _ _ => rfl) (fun x y z p q b => by
      have first := p b
      have second := q (by rw [first]; exact b)
      rw [second, first]) c (fun _ _ ok => ok.2) h busy

theorem Work.running_engine (c : Slot) : t.engine c = { s.engine c with evict := (t.engine c).evict } :=
  Work.engine_rel (A := .running low) (fun e e' => e' = { e with evict := e'.evict }) (fun _ => rfl)
    (fun x y z p q => by rw [q, p]) c (fun _ _ ⟨l, ok⟩ => by rw [ok]) h

end

/-! ## Frames that are placed -/

/-- A frame that has been placed is begun at once on a line that is idle and high. -/
theorem kickCab_settles (slot : (s.link c).slot ≠ none) :
    ((kickCab c s).link c).tx ≠ none ∨ s.power.lowFor ≠ none := by
  by_cases busy : (s.link c).tx ≠ none ∨ s.power.lowFor ≠ none
  · rw [kickCab_busy busy]
    exact busy
  · obtain ⟨tx, high⟩ := not_or.mp busy
    obtain ⟨g, held⟩ := Option.ne_none_iff_exists'.mp slot
    rw [kickCab_limit (not_not.mp tx) (not_not.mp high) held, updLink_link, if_pos rfl]
    exact .inl (Option.some_ne_none _)

theorem updLink_power (c : Slot) (f : Link → Link) (s : State) : (updLink c f s).power = s.power := markIf_power ..

/-- The link after a frame has been placed: its mode is in force, and the line is busy or low. -/
theorem placeFrame_effect (c : Slot) (computed : Bool) (f : LimitFrame) (s : State) :
    ((placeFrame c computed f s).link c).inForce = some ⟨computed, f.mode⟩ ∧
      (((placeFrame c computed f s).link c).tx ≠ none ∨ s.power.lowFor ≠ none) := by
  unfold placeFrame
  dsimp only
  generalize hv : updLink c _ s = v
  have link : (v.link c).inForce = some ⟨computed, f.mode⟩ ∧ (v.link c).slot ≠ none := by
    rw [← hv, updLink_link, if_pos rfl]
    exact ⟨rfl, Option.some_ne_none _⟩
  have power : v.power = s.power := by
    rw [← hv, updLink_power]
  refine ⟨?_, ?_⟩
  · rw [(kickCab_work (running_runs v) c .refl).running_inForce c, link.1]
  · rw [← power]
    exact kickCab_settles link.2

theorem placeLinkMade_inForce {r : CraneRecord} (record : s.record? c = some r) :
    ((placeLinkMade c s).link c).inForce = some ⟨false, (linkMadeFrame s.geo.mode r).mode⟩ := by
  unfold placeLinkMade
  rw [record]
  exact (placeFrame_effect c false (linkMadeFrame s.geo.mode r) s).1

/-! ## The computation -/

theorem handOver_arbiter (c : Slot) (join : Bool) (occupancy reach : List ZoneId) (s : State) : Work (.arbiter False)
    (updEngine c (fun e => { e with occupancy := occupancy, reach := reach, handOverDue := false }) s)
    (handOver c join occupancy reach s) := by
  have ha := arbiter_arbitrates False
  refine settleZones_work ha _ _ ?_
  repeat' first
    | exact .refl
    | with_reducible apply forEach_work
    | with_reducible apply joinGrant_work
    | with_reducible apply judgeDwells_work
    | with_reducible apply endEvictions_work
    | with_reducible apply replaceDeferred_work
    | with_reducible assumption
    | split
    | intro _

theorem Work.arbiter_engine {w : Prop} (h : Work (.arbiter w) s t) (c : Slot) :
    (t.engine c).occupancy = (s.engine c).occupancy ∧ (t.engine c).record = (s.engine c).record :=
  ⟨Work.engine_keeps (A := .arbiter w) (fun e => e.occupancy) c
      (fun _ _ ok => by rcases ok with ⟨l, rfl⟩ | ⟨-, l, rfl⟩ <;> rfl) h,
    Work.engine_keeps (A := .arbiter w) (fun e => e.record) c
      (fun _ _ ok => by rcases ok with ⟨l, rfl⟩ | ⟨-, l, rfl⟩ <;> rfl) h⟩

theorem Work.arbiter_transit (h : Work (.arbiter False) s t) (c : Slot) :
    (t.engine c).transit = (s.engine c).transit :=
  Work.engine_keeps (A := .arbiter False) (fun e => e.transit) c
    (fun _ _ ok => by obtain ⟨l, rfl⟩ := ok.resolve_right (fun k => k.1); rfl) h

theorem handOver_occupancy (c : Slot) (join : Bool) (occupancy reach : List ZoneId) (s : State) :
    ((handOver c join occupancy reach s).engine c).occupancy = occupancy := by
  rw [((handOver_arbiter c join occupancy reach s).arbiter_engine c).1, updEngine_engine, if_pos rfl]

theorem transitHandOver_transit (c : Slot) (zones : List ZoneId) (s : State) :
    ((transitHandOver c zones s).engine c).transit = zones := by
  have ha := arbiter_arbitrates False
  unfold transitHandOver
  dsimp only
  generalize forEach _ _ s = v
  have left := settleZones_work ha s [] (forEach_work zones (requestTransit c) (fun _ _ k => requestTransit_work ha c _ k)
    (.refl (s := updEngine c (fun e => { e with transit := zones }) v)))
  rw [left.arbiter_transit c, updEngine_engine, if_pos rfl]

/-- The scope of stages 5 to 8, in which the occupancy set that has been handed over stands. -/
def Scope.occupied : Scope where
  arb := True
  bookings := True
  engine _ e e' := e'.occupancy = e.occupancy
  channel _ _ _ := True
  link _ _ _ := True
  wind _ _ _ := True
  status _ _ _ := True

theorem occupied_judges (s : State) (c : Slot) : Scope.occupied.Judges s c :=
  { arb := trivial
    evict := fun _ _ _ => rfl
    told := fun _ _ _ _ => trivial
    bookings := trivial
    channel := fun _ _ _ _ => trivial
    calm := fun _ _ _ _ _ => trivial
    line := fun _ _ _ _ => trivial
    status := fun _ _ _ => trivial
    recovers := fun _ _ => rfl
    transit := fun _ _ => rfl
    frame := fun _ _ _ => trivial }

/-- Stages 5 to 8 keep the occupancy set that is handed over and end with the transit set that is asserted. -/
theorem stages_effect (c : Slot) (join joins overload : Bool) (occupancy reach transit : List ZoneId)
    (intrusion : Option CellPos) (check : Option RecoveryCheck) (s : State) :
    let v := transitHandOver c transit (judgeChart c overload (judgePresent c joins intrusion check
      (handOver c join occupancy reach s)))
    (v.engine c).occupancy = occupancy ∧ (v.engine c).transit = transit ∧ v.power = s.power := by
  intro v
  have hj := occupied_judges (handOver c join occupancy reach s) c
  have work : Work .occupied (handOver c join occupancy reach s) v :=
    transitHandOver_work hj.toArbitrates c _ (fun _ => rfl) (judgeChart_work hj _ (judgePresent_work hj _ _ _ .refl))
  have before : (handOver c join occupancy reach s).power = s.power := (handOver_arbiter c join occupancy reach s).power
  refine ⟨?_, transitHandOver_transit c transit _, work.power.trans before⟩
  rw [Work.engine_keeps (A := .occupied) (fun e => e.occupancy) c (fun _ _ ok => ok) work, handOver_occupancy]

/-- A computation ends by concluding with a record of its pose, whose occupancy and transit sets are the engine's. -/
theorem compute_concludes (c : Slot) (r : CraneRecord) (p : Pose) (s : State) : ∃ k v,
    compute c r p s = concludeComputation c (s.engine c) k v ∧ k.sequence = p.sequence ∧ k.poseAt = p.acceptedAt ∧
      (v.engine c).occupancy = k.occupancy ∧ (v.engine c).transit = k.transit ∧ v.power = s.power := by
  unfold compute
  dsimp only
  refine ⟨_, _, rfl, rfl, rfl, ?_⟩
  exact stages_effect ..

/-- What the conclusion of a computation leaves (R76). -/
theorem concludeComputation_effect (c : Slot) (before : Engine) (k : Computation) (s : State) :
    ((concludeComputation c before k s).engine c).record = some k ∧
      ((concludeComputation c before k s).engine c).occupancy = (s.engine c).occupancy ∧
      ((concludeComputation c before k s).engine c).transit = (s.engine c).transit ∧
      ((concludeComputation c before k s).link c).inForce = some ⟨true, k.frame.mode⟩ ∧
      (((concludeComputation c before k s).link c).tx ≠ none ∨ s.power.lowFor ≠ none) := by
  have placed := placeFrame_effect c true k.frame s
  have engine : (placeFrame c true k.frame s).engine c =
      { s.engine c with evict := ((placeFrame c true k.frame s).engine c).evict } := by
    unfold placeFrame
    generalize hv : updLink c _ s = v
    have same : v.engine c = s.engine c := by
      rw [← hv]
      exact congrArg (·.get c) (markIf_engines ..)
    rw [← same]
    exact (kickCab_work (running_runs v) c .refl).running_engine c
  unfold concludeComputation
  dsimp only
  generalize placeFrame c true k.frame s = v at placed engine
  generalize hw : updEngine c _ v = w
  have link : w.link c = v.link c := by
    rw [← hw]
    rfl
  have eng : w.engine c =
      { v.engine c with
        record := some k, evictThen := (v.engine c).evict, latchThen := (v.engine c).latch
        recoveryThen := (v.engine c).recovery } := by
    rw [← hw, updEngine_engine, if_pos rfl]
  have marked (b : Bool) : (markIf b (.crane c) w).engine c = w.engine c ∧ (markIf b (.crane c) w).link c = w.link c :=
    ⟨congrArg (·.get c) (markIf_engines ..), congrArg (·.get c) (markIf_links ..)⟩
  rw [(marked _).1, (marked _).2, link, eng]
  refine ⟨rfl, ?_, ?_, placed⟩
  · rw [engine]
  · rw [engine]

/-- What a computation leaves in engine and link, whatever it finds (R52, R76). -/
theorem compute_effect (c : Slot) (r : CraneRecord) (p : Pose) (s : State) : ∃ k,
    ((compute c r p s).engine c).record = some k ∧ k.sequence = p.sequence ∧ k.poseAt = p.acceptedAt ∧
      ((compute c r p s).engine c).occupancy = k.occupancy ∧ ((compute c r p s).engine c).transit = k.transit ∧
      ((compute c r p s).link c).inForce = some ⟨true, k.frame.mode⟩ ∧
      (((compute c r p s).link c).tx ≠ none ∨ s.power.lowFor ≠ none) := by
  obtain ⟨k, v, e, sequence, poseAt, occupancy, transit, power⟩ := compute_concludes c r p s
  obtain ⟨record, occupancy', transit', inForce, busy⟩ := concludeComputation_effect c (s.engine c) k v
  rw [e]
  exact ⟨k, record, sequence, poseAt, occupancy'.trans occupancy, transit'.trans transit, inForce, power ▸ busy⟩

/-! ## Crane State takes the pose -/

/-- The scope of everything that leaves the e-stop field of crane c alone. -/
def Scope.stopHeld (c : Slot) : Scope where
  arb := True
  bookings := True
  engine _ _ _ := True
  channel _ _ _ := True
  link _ _ _ := True
  wind _ _ _ := True
  status d x x' := d = c → x'.eStop = x.eStop

theorem stopHeld_judges (c : Slot) (s : State) : (Scope.stopHeld c).Judges s c :=
  { arb := trivial
    evict := fun _ _ _ => trivial
    told := fun _ _ _ _ => trivial
    bookings := trivial
    channel := fun _ _ _ _ => trivial
    calm := fun _ _ _ _ _ => trivial
    line := fun _ _ _ _ => trivial
    status := fun _ _ e _ => e
    recovers := fun _ _ => trivial
    transit := fun _ _ => trivial
    frame := fun _ _ _ => trivial }

theorem Work.stopHeld_eStop (h : Work (.stopHeld c) s t) : (t.crane c).eStop = (s.crane c).eStop :=
  Work.status_keeps (A := .stopHeld c) (fun x => x.eStop) c (fun _ _ ok => ok rfl) h

/-- An E_STOP raised for a crane that is not OFFLINE engages its e-stop field and leaves it in FAULT or LOCKOUT (R166). -/
theorem raise_eStop (h : (s.crane c).state ≠ .offline) : ((raise c .eStop none s).crane c).eStop = true ∧
    (((raise c .eStop none s).crane c).state = .fault ∨ ((raise c .eStop none s).crane c).state = .lockout) := by
  have first : ((firstFault c .eStop none s).crane c).eStop = true ∧
      ((firstFault c .eStop none s).crane c).state = .fault := by
    rw [(firstFault_effect c .eStop none s).2.2.1]
    exact ⟨Bool.or_true _, rfl⟩
  cases state : (s.crane c).state with
  | offline => exact absurd state h
  | joining =>
    rw [raise_first (.inr state)]
    exact ⟨first.1, .inl first.2⟩
  | inService =>
    rw [raise_first (.inl state)]
    exact ⟨first.1, .inl first.2⟩
  | lockout =>
    rw [raise_lockout state, updCrane_crane, if_pos rfl]
    exact ⟨Bool.or_true _, .inr state⟩
  | fault =>
    cases fault : (s.crane c).fault with
    | none =>
      unfold raise
      rw [state, fault]
      exact ⟨first.1, .inl first.2⟩
    | some f =>
      rw [raise_fault state fault]
      rw [if_pos (show (FaultCause.eStop == FaultCause.eStop) = true from rfl)]
      generalize hv : updCrane c _ s = v
      have engaged : (v.crane c).eStop = true ∧ (v.crane c).state = .fault := by
        rw [← hv, updCrane_crane, if_pos rfl]
        exact ⟨Bool.or_true _, state⟩
      have held := (raiseInFault_work (stopHeld_judges c v) f .eStop none .refl).stopHeld_eStop
      refine ⟨held.trans engaged.1, .inl ?_⟩
      unfold raiseInFault
      repeat' split
      · exact engaged.2
      · unfold setCondition
        rw [updCrane_crane, if_pos rfl]
        exact engaged.2
      · exact engaged.2
      · rename_i serious
        cases serious
      · rw [updCrane_crane, if_pos rfl]
        exact engaged.2

theorem setRecovery_state (c d : Slot) (on : Bool) (s : State) :
    ((setRecovery c on s).crane d).state = (s.crane d).state := by
  unfold setRecovery
  split
  · rfl
  · show ((State.putCrane _ c _).crane d).state = _
    rw [State.putCrane_crane]
    split
    · rename_i e
      subst e
      rfl
    · rfl

/-- The scope of everything that leaves the operating states alone. -/
def Scope.steady : Scope where
  arb := True
  bookings := True
  engine _ _ _ := True
  channel _ _ _ := True
  link _ _ _ := True
  wind _ _ _ := True
  status _ _ _ := False

theorem steady_evaluates (s : State) : Scope.steady.Evaluates s :=
  { arb := trivial
    evict := fun _ _ _ => trivial
    told := fun _ _ _ _ => trivial
    bookings := trivial
    channel := fun _ _ _ _ => trivial
    calm := fun _ _ _ _ _ => trivial
    line := fun _ _ _ _ => trivial
    values := fun _ _ _ _ _ _ _ => trivial
    timed := fun _ _ _ _ _ => trivial
    levels := fun _ _ _ _ _ => trivial }

theorem Work.steady_crane (h : Work .steady s t) (c : Slot) : t.crane c = s.crane c :=
  congrArg (·.get c) (h.status_eq fun _ _ _ => id)

/-- A fault that clears leaves its crane JOINING, or IN_SERVICE in OPERATE (R173). -/
theorem clearTheFault_state (c : Slot) (way : EndWay) (place : ClearPlace) (s : State) :
    ((clearTheFault c way place s).crane c).state = .joining ∨
      (s.operate = true ∧ ((clearTheFault c way place s).crane c).state = .inService) := by
  unfold clearTheFault
  dsimp only
  generalize hj : (!s.operate || _) = joining
  generalize hm : modCrane c _ s = m
  have state : ((setRecovery c false m).crane c).state = if joining then .joining else .inService := by
    rw [setRecovery_state, ← hm, modCrane_crane, if_pos rfl]
  generalize setRecovery c false m = v at state
  have runs := (steady_evaluates v).toRuns
  have lifted := Work.mark (.crane c) (removeReason_work runs c (fun r => { r with fault := false }) (.refl (s := v)))
  have after : Work .steady v (if joining then if s.operate && place != .computation then
        placeLinkMade c (mark (.crane c) (removeReason c (fun r => { r with fault := false }) v))
        else mark (.crane c) (removeReason c (fun r => { r with fault := false }) v)
      else if place == .outside then gateAndRun c (mark (.crane c) (removeReason c (fun r => { r with fault := false }) v))
        else mark (.crane c) (removeReason c (fun r => { r with fault := false }) v)) := by
    repeat' split
    · exact placeLinkMade_work runs c (fun _ _ _ => trivial) lifted
    · exact lifted
    · exact gateAndRun_work runs c lifted
    · exact lifted
  rw [after.steady_crane c, state]
  cases joining with
  | true => exact .inl rfl
  | false =>
    refine .inr ⟨?_, rfl⟩
    cases operate : s.operate with
    | true => rfl
    | false =>
      rw [operate] at hj
      cases hj

/-- A clear that is judged leaves the crane's state, or clears the fault (R171). -/
theorem judgeAutoClear_state (c : Slot) (place : ClearPlace) (s : State) :
    ((judgeAutoClear c place s).crane c).state = (s.crane c).state ∨
      ((judgeAutoClear c place s).crane c).state = .joining ∨
      (s.operate = true ∧ ((judgeAutoClear c place s).crane c).state = .inService) := by
  unfold judgeAutoClear
  repeat' split
  all_goals first
    | exact .inl rfl
    | exact .inr (clearTheFault_state ..)

/-- The state in which Crane State judges a clear after it has taken the pose's emergency-stop flag (R166). -/
def State.stopTaken (s : State) (c : Slot) (p : Pose) : State :=
  if p.emergencyStop then raise c .eStop none s else releaseEStop c s

theorem stopTaken_work (p : Pose) (s : State) : Work .all s (s.stopTaken c p) := by
  unfold State.stopTaken
  split
  · exact raise_work (all_judges s c) _ _ (fun _ _ _ => trivial) .refl
  · exact updCrane_work c _ trivial .refl

theorem stopTaken_eStop (p : Pose) (h : (s.crane c).state ≠ .offline) :
    ((s.stopTaken c p).crane c).eStop = p.emergencyStop := by
  unfold State.stopTaken
  split
  · rename_i stop
    rw [(raise_eStop h).1, stop]
  · rename_i go
    unfold releaseEStop
    rw [updCrane_crane, if_pos rfl]
    exact (Bool.eq_false_iff.mpr go).symm

theorem stopTaken_state (p : Pose) (s : State) : ((s.stopTaken c p).crane c).state = (s.crane c).state ∨
    ((s.stopTaken c p).crane c).state = .fault ∨ ((s.stopTaken c p).crane c).state = .lockout := by
  unfold State.stopTaken
  split
  · by_cases h : (s.crane c).state = .offline
    · rw [raise_offline h]
      exact .inl rfl
    · exact .inr (raise_eStop h).2
  · unfold releaseEStop
    rw [updCrane_crane, if_pos rfl]
    exact .inl rfl

theorem setCondition_state (c : Slot) (met : Bool) (s : State) :
    ((setCondition c met s).crane c).state = (s.crane c).state := by
  unfold setCondition
  rw [updCrane_crane, if_pos rfl]

/-- Stage 2 of R29 from the state in which the flag has been taken: a clear is judged, or not. -/
theorem craneTakesPose_cases (c : Slot) (p : Pose) (flagged : Bool) (s : State) :
    craneTakesPose c p flagged s = judgeAutoClear c .stage2 (setCondition c true (s.stopTaken c p)) ∨
      craneTakesPose c p flagged s = judgeAutoClear c .stage2 (s.stopTaken c p) ∨
      craneTakesPose c p flagged s = s.stopTaken c p := by
  have same : (if p.emergencyStop = true then raise c .eStop none s else releaseEStop c s) = s.stopTaken c p := rfl
  unfold craneTakesPose
  dsimp only
  rw [same]
  split
  · exact .inl (if_pos rfl)
  · split
    · exact .inl rfl
    · split
      · exact .inr (.inl rfl)
      · exact .inr (.inr rfl)
  · rw [if_neg Bool.false_ne_true]
    split
    · exact .inr (.inl rfl)
    · exact .inr (.inr rfl)

theorem craneTakesPose_eStop (p : Pose) (flagged : Bool) (h : (s.crane c).state ≠ .offline) :
    ((craneTakesPose c p flagged s).crane c).eStop = p.emergencyStop := by
  rw [← stopTaken_eStop p h]
  have hj := stopHeld_judges c (s.stopTaken c p)
  rcases craneTakesPose_cases c p flagged s with e | e | e <;> rw [e]
  · exact (judgeAutoClear_work hj _ (setCondition_work hj _ .refl)).stopHeld_eStop
  · exact (judgeAutoClear_work hj _ .refl).stopHeld_eStop

/-- The operating state after stage 2: as before, in FAULT or LOCKOUT by the stop, or as a clear leaves it. -/
theorem craneTakesPose_state (c : Slot) (p : Pose) (flagged : Bool) (s : State) (x : OpState)
    (e : ((craneTakesPose c p flagged s).crane c).state = x) :
    x = (s.crane c).state ∨ x = .fault ∨ x = .lockout ∨ x = .joining ∨ (s.operate = true ∧ x = .inService) := by
  subst e
  have stop := stopTaken_state (c := c) p s
  have operate : (s.stopTaken c p).operate = s.operate := by
    unfold State.operate
    rw [(stopTaken_work (c := c) p s).geo]
  have conditioned : (setCondition c true (s.stopTaken c p)).operate = s.operate := by
    rw [← operate]
    unfold State.operate
    rw [(setCondition_work (all_judges _ c) true (.refl (s := s.stopTaken c p))).geo]
  rcases craneTakesPose_cases c p flagged s with e | e | e <;> rw [e]
  · have clear := judgeAutoClear_state c .stage2 (setCondition c true (s.stopTaken c p))
    rw [setCondition_state, conditioned] at clear
    rcases clear with clear | clear | clear
    · rw [clear]
      exact stop.imp_right fun h => h.elim .inl (fun h => .inr (.inl h))
    · exact .inr (.inr (.inr (.inl clear)))
    · exact .inr (.inr (.inr (.inr clear)))
  · have clear := judgeAutoClear_state c .stage2 (s.stopTaken c p)
    rw [operate] at clear
    rcases clear with clear | clear | clear
    · rw [clear]
      exact stop.imp_right fun h => h.elim .inl (fun h => .inr (.inl h))
    · exact .inr (.inr (.inr (.inl clear)))
    · exact .inr (.inr (.inr (.inr clear)))
  · exact stop.imp_right fun h => h.elim .inl (fun h => .inr (.inl h))

end
end Sys2Proof.Machine
end

section
/-! SUPPORT for the statement O48: the wind sensor after a pose, and the two stages of an accepted pose put together. -/

namespace Sys2Proof.Machine

section
variable {s t u : State} {c d : Slot}

/-! ## The wind sensor -/

/-- What `SensorFollows` asks of the record that results is its samples, sensor state and streaks. -/
theorem SensorFollows.of_sameSamples {p : Pose} {w v v' : Wind} (h : Parts.SensorFollows p w v) (e : v.SameSamples v') :
    Parts.SensorFollows p w v' := by
  obtain ⟨ring, buckets, sensor, missing, recovering⟩ := e
  unfold Parts.SensorFollows at h ⊢
  rw [ring, buckets, sensor, missing, recovering]
  exact h

/-- The ring of twelve with a sample joined. -/
theorem ring_joined (l : List Nat) (x : Nat) : (if 12 < (l ++ [x]).length then (l ++ [x]).drop 1 else l ++ [x]) =
    (if 12 ≤ l.length then l.tail else l) ++ [x] := by
  rw [List.length_append, List.length_singleton]
  by_cases full : 12 ≤ l.length
  · rw [if_pos (by omega), if_pos full]
    cases l with
    | nil => simp at full
    | cons a l => rfl
  · rw [if_neg (by omega), if_neg full]

section
variable {w : Wind}

theorem sensorAfter_ok (h : w.sensor = .ok) (valid fault : Bool) : w.sensorAfter valid fault =
    if fault then w.sensorFails else if valid then { w with missing := 0 }
    else if 40 ≤ w.missing + 1 then w.sensorFails else { w with missing := w.missing + 1 } := by
  unfold Wind.sensorAfter
  rw [h]

theorem sensorAfter_failed (h : w.sensor = .failed) (valid fault : Bool) : w.sensorAfter valid fault =
    if valid then
      if 4 ≤ w.recovering + 1 then { w with sensor := .ok, missing := 0, recovering := 0 }
      else { w with recovering := w.recovering + 1 }
    else { w with recovering := 0, ring := [] } := by
  unfold Wind.sensorAfter
  rw [h]

/-- The buckets are not the sensor state's to change. -/
theorem sensorAfter_buckets (valid fault : Bool) : (w.sensorAfter valid fault).buckets = w.buckets := by
  cases h : w.sensor with
  | ok =>
    rw [sensorAfter_ok h]
    repeat' split
    all_goals rfl
  | failed =>
    rw [sensorAfter_failed h]
    repeat' split
    all_goals rfl

/-- A pose with a sample that counts. -/
theorem takesPose_valid {p : Pose} (valid : p.windValid = true) (sound : p.sensorFault = false) :
    w.takesPose p = (w.withSample p.windSample).sensorAfter true false := by
  unfold Wind.takesPose
  rw [valid, sound]
  rfl

theorem takesPose_invalid {p : Pose} (unsound : p.windValid = false ∨ p.sensorFault = true) :
    w.takesPose p = w.sensorAfter false p.sensorFault := by
  have invalid : (p.windValid && !p.sensorFault) = false := by
    rcases unsound with h | h <;> rw [h]
    · rfl
    · exact Bool.and_false _
  unfold Wind.takesPose
  rw [invalid]
  rfl

end

theorem takesPose_follows (p : Pose) (w : Wind) : Parts.SensorFollows p w (w.takesPose p) := by
  unfold Parts.SensorFollows
  dsimp only
  rw [← ring_joined]
  refine ⟨fun valid sound => ?_, fun unsound => ?_⟩
  · rw [takesPose_valid valid sound]
    refine ⟨fun b rest buckets => ?_, fun ok => ?_, fun failed => ?_⟩
    · rw [sensorAfter_buckets]
      unfold Wind.withSample
      dsimp only
      rw [buckets]
    · rw [sensorAfter_ok (w := w.withSample p.windSample) ok]
      exact ⟨ok, rfl, rfl, rfl⟩
    · rw [sensorAfter_failed (w := w.withSample p.windSample) failed, if_pos rfl]
      have streak : (w.withSample p.windSample).recovering = w.recovering := rfl
      rw [streak]
      refine ⟨?_, fun early => ?_, fun fourth => ?_⟩
      · split <;> rfl
      · rw [if_neg (by omega)]
        exact ⟨failed, rfl, rfl⟩
      · rw [if_pos fourth]
        exact ⟨rfl, rfl, rfl⟩
  · rw [takesPose_invalid unsound]
    refine ⟨sensorAfter_buckets .., fun ok fault => ?_, fun ok sound => ⟨fun early => ?_, fun last => ?_⟩, fun failed => ?_⟩
    · rw [sensorAfter_ok ok, if_pos fault]
      exact ⟨rfl, rfl, rfl, rfl⟩
    · rw [sensorAfter_ok ok, sound, if_neg Bool.false_ne_true, if_neg Bool.false_ne_true, if_neg (by omega)]
      exact ⟨ok, rfl, rfl, rfl⟩
    · rw [sensorAfter_ok ok, sound, if_neg Bool.false_ne_true, if_neg Bool.false_ne_true, if_pos last]
      exact ⟨rfl, rfl, rfl, rfl⟩
    · rw [sensorAfter_failed failed, if_neg Bool.false_ne_true]
      exact ⟨failed, rfl, rfl, rfl⟩

/-! ## The stages of an accepted pose -/

theorem windTakesPose_steady (c : Slot) (p : Pose) (s : State) : Work .steady s (windTakesPose c p s) :=
  windTakesPose_work (steady_evaluates s) c p (updWind_work c _ trivial .refl)

theorem linkReturns_crane (s : State) (d : Slot) : ((linkReturns c s).crane d).state = (s.crane d).state ∧
    ((linkReturns c s).crane d).eStop = (s.crane d).eStop := by
  unfold linkReturns
  rw [updCrane_crane]
  split
  · rename_i e
    subst e
    exact ⟨rfl, rfl⟩
  · exact ⟨rfl, rfl⟩

theorem accepted_crane (p : Pose) (s : State) (d : Slot) : ((s.accepted c p).crane d).state = (s.crane d).state := by
  have same : (updLink c (Link.accepts p) s).crane d = s.crane d := congrArg (·.get d) (updLink_status ..)
  unfold State.accepted
  split
  · rw [same]
  · rw [(linkReturns_crane _ d).1, same]

theorem accepted_otherLink (p : Pose) (h : c ≠ d) : (s.accepted c p).link d = s.link d := by
  have same : (updLink c (Link.accepts p) s).link d = s.link d := by rw [updLink_link, if_neg h]
  unfold State.accepted
  split
  · exact same
  · rw [← same]
    exact congrArg (·.get d) (markIf_links ..)

theorem accepted_windOf (p : Pose) (d : Slot) : (s.accepted c p).windOf d = s.windOf d := by
  unfold State.accepted
  split
  · exact congrArg (fun w : WindMonitor => w.cranes.get d) (markIf_wind ..)
  · exact congrArg (fun w : WindMonitor => w.cranes.get d) ((markIf_wind ..).trans (markIf_wind ..))

theorem accepted_work (p : Pose) (s : State) : Work .all s (s.accepted c p) := by
  unfold State.accepted
  split
  · exact updLink_work c _ trivial .refl
  · exact updCrane_work c _ trivial (updLink_work c _ trivial .refl)

/-- The state in which the engine computes is that of the statement. -/
theorem atStage3_eq (c : Slot) (p : Pose) (s : State) : Parts.atStage3 c p s =
    craneTakesPose c p ((nextEvent s).flagStands c) (windTakesPose c p ((nextEvent s).accepted c p)) := by
  have accepted : (if (s.link c).state = .live then updLink c (Link.accepts p) (nextEvent s)
      else linkReturns c (updLink c (Link.accepts p) (nextEvent s))) = (nextEvent s).accepted c p := by
    unfold State.accepted
    by_cases live : (s.link c).state = .live
    · exact (if_pos live).trans (if_pos (beq_iff_eq.mpr live)).symm
    · exact (if_neg live).trans (if_neg (fun e => live (beq_iff_eq.mp e))).symm
  rw [← accepted]
  rfl

theorem atStage3_work (c : Slot) (p : Pose) (s : State) : Work .all (nextEvent s) (Parts.atStage3 c p s) := by
  rw [atStage3_eq]
  exact craneTakesPose_work (all_judges _ c) p _ (fun _ _ => trivial)
    (windTakesPose_work (all_evaluates _) c p (updWind_work c _ trivial (accepted_work p _)))

/-- The operating state before stage 2 is that of the state in which the pose arrives. -/
theorem beforeStage2_state (c : Slot) (p : Pose) (s : State) :
    ((windTakesPose c p ((nextEvent s).accepted c p)).crane c).state = (s.crane c).state := by
  rw [(windTakesPose_steady c p _).steady_crane c, accepted_crane]
  rfl

theorem atStage3_eStop (p : Pose) (h : (s.crane c).state ≠ .offline) :
    ((Parts.atStage3 c p s).crane c).eStop = p.emergencyStop := by
  rw [atStage3_eq]
  exact craneTakesPose_eStop p _ (by rw [beforeStage2_state]; exact h)

theorem operate_of_work {A : Scope} (h : Work A s t) : t.operate = s.operate := by
  unfold State.operate
  rw [h.geo]

/-- The operating state at stage 3. -/
theorem atStage3_state (c : Slot) (p : Pose) (s : State) (x : OpState)
    (e : ((Parts.atStage3 c p s).crane c).state = x) : x = (s.crane c).state ∨ x = .fault ∨ x = .lockout ∨ x = .joining ∨
      (s.operate = true ∧ x = .inService) := by
  rw [atStage3_eq] at e
  have h := craneTakesPose_state c p _ _ x e
  have operate : (windTakesPose c p ((nextEvent s).accepted c p)).operate = s.operate :=
    operate_of_work (s := nextEvent s)
      (windTakesPose_work (all_evaluates _) c p (updWind_work c _ trivial (accepted_work p _)))
  rw [beforeStage2_state, operate] at h
  exact h

/-- The work of an accepted pose is stage 3 of it, and the gating of a crane that came IN_SERVICE. -/
theorem acceptPose_eq (c : Slot) (r : CraneRecord) (p : Pose) (s : State) : acceptPose c r p (nextEvent s) =
    if ((poseStage3 c r p (Parts.atStage3 c p s)).crane c).state = .inService ∧ (s.crane c).state ≠ .inService then
      gateAndRun c (poseStage3 c r p (Parts.atStage3 c p s))
    else poseStage3 c r p (Parts.atStage3 c p s) := by
  have taken : acceptPose c r p (nextEvent s) =
      handOn3 c r p ((nextEvent s).flagStands c) ((nextEvent s).accepted c p) := rfl
  have before : (((nextEvent s).accepted c p).crane c).state = (s.crane c).state := accepted_crane p (nextEvent s) c
  rw [taken, atStage3_eq]
  unfold handOn3
  dsimp only
  rw [before]
  generalize poseStage3 c r p _ = v
  by_cases h : (v.crane c).state = .inService ∧ (s.crane c).state ≠ .inService
  · rw [if_pos h, if_pos (by simp [h])]
  · rw [if_neg h, if_neg (by simpa using h)]

/-- Stage 3 in SURVEY is the link-made frame. -/
theorem poseStage3_survey (r : CraneRecord) (p : Pose) (survey : s.geo.mode = .survey) :
    poseStage3 c r p s = placeLinkMade c s := by
  unfold poseStage3 State.operate
  rw [survey]
  rfl

/-- Stage 3 in OPERATE of a crane that is not OFFLINE: the computation, offered to the channel. -/
theorem poseStage3_operate (r : CraneRecord) (p : Pose) (operate : s.geo.mode = .operate)
    (online : (s.crane c).state ≠ .offline) :
    poseStage3 c r p s = judgeAwait c p s (retryAlreadyWaiting c (compute c r p s)) := by
  unfold poseStage3 State.operate
  rw [operate]
  exact (if_pos rfl).trans (if_neg (fun e => online (beq_iff_eq.mp e)))

/-- What follows stage 3 is the work of channels and transmitters. -/
theorem acceptPose_running (c : Slot) (r : CraneRecord) (p : Pose) (s v : State)
    (stage3 : Work (.running (v.power.lowFor ≠ none)) v (poseStage3 c r p (Parts.atStage3 c p s))) :
    Work (.running (v.power.lowFor ≠ none)) v (acceptPose c r p (nextEvent s)) := by
  rw [acceptPose_eq]
  split
  · exact gateAndRun_work (running_runs v) c stage3
  · exact stage3

/-- A crane that is not OFFLINE is not at stage 3 either. -/
theorem atStage3_online (c : Slot) (p : Pose) (s : State) (h : (s.crane c).state ≠ .offline) :
    ((Parts.atStage3 c p s).crane c).state ≠ .offline := by
  intro offline
  have from_ := atStage3_state c p s .offline offline
  rcases from_ with e | e | e | e | ⟨-, e⟩
  · exact h e.symm
  all_goals cases e

/-- From the computation on, an accepted pose is the work of channels and transmitters. -/
theorem acceptPose_fromComputation (c : Slot) (r : CraneRecord) (p : Pose) (s : State)
    (operate : s.geo.mode = .operate) (online : (s.crane c).state ≠ .offline) :
    Work (.running ((compute c r p (Parts.atStage3 c p s)).power.lowFor ≠ none))
      (compute c r p (Parts.atStage3 c p s)) (acceptPose c r p (nextEvent s)) := by
  refine acceptPose_running c r p s _ ?_
  rw [poseStage3_operate r p ((atStage3_work c p s).geo ▸ operate) (atStage3_online c p s online)]
  have runs := running_runs (compute c r p (Parts.atStage3 c p s))
  exact judgeAwait_work runs c p _ (retryAlreadyWaiting_work runs c .refl)

/-- After stage 2 the e-stop field of the crane stands. -/
theorem acceptPose_stopHeld (c : Slot) (r : CraneRecord) (p : Pose) (s : State) :
    Work (.stopHeld c) (Parts.atStage3 c p s) (acceptPose c r p (nextEvent s)) := by
  have hj := stopHeld_judges c (Parts.atStage3 c p s)
  have stage3 : Work (.stopHeld c) (Parts.atStage3 c p s) (poseStage3 c r p (Parts.atStage3 c p s)) := by
    unfold poseStage3
    split
    · split
      · exact .refl
      · exact judgeAwait_work hj.toRuns c p _ (retryAlreadyWaiting_work hj.toRuns c
          (compute_work hj (fun _ _ => trivial) (fun _ _ _ => trivial) r p .refl))
    · exact placeLinkMade_work hj.toRuns c hj.frame .refl
  rw [acceptPose_eq]
  split
  · exact gateAndRun_work hj.toRuns c stage3
  · exact stage3

/-- What an accepted pose does in SURVEY. -/
theorem acceptPose_survey {r : CraneRecord} (p : Pose) (survey : s.geo.mode = .survey) (record : s.record? c = some r) :
    ((acceptPose c r p (nextEvent s)).link c).inForce = some ⟨false, .survey⟩ ∧
      (acceptPose c r p (nextEvent s)).crane c = (Parts.atStage3 c p s).crane c ∧
      ((s.crane c).state ≠ .inService → ((Parts.atStage3 c p s).crane c).state ≠ .inService) := by
  have geo := (atStage3_work c p s).geo
  have placed := placeLinkMade_inForce (s := Parts.atStage3 c p s) (c := c) (r := r)
    (((atStage3_work c p s).record? c).trans record)
  have mode : (Parts.atStage3 c p s).geo.mode = .survey := geo ▸ survey
  rw [mode] at placed
  have stage3 := poseStage3_survey (c := c) r p mode
  refine ⟨?_, ?_, fun idle working => ?_⟩
  · have after := acceptPose_running c r p s _ .refl
    rw [after.running_inForce c, stage3, placed]
    rfl
  · have steady := placeLinkMade_work (steady_evaluates (Parts.atStage3 c p s)).toRuns c (fun _ _ _ => trivial) .refl
    rw [acceptPose_eq, stage3]
    split
    · exact (gateAndRun_work (steady_evaluates _).toRuns c steady).steady_crane c
    · exact steady.steady_crane c
  · rcases atStage3_state c p s .inService working with e | e | e | e | ⟨operate, -⟩
    · exact idle e.symm
    · cases e
    · cases e
    · cases e
    · unfold State.operate at operate
      rw [survey] at operate
      cases operate

/-- What an accepted pose leaves of other links. -/
theorem acceptPose_otherLink (r : CraneRecord) (p : Pose) (h : d ≠ c) :
    ((acceptPose c r p s).link d).state = (s.link d).state ∧
      ((acceptPose c r p s).link d).lastPose = (s.link d).lastPose ∧
      ((acceptPose c r p s).link d).generation = (s.link d).generation := by
  have work := acceptPose_posed c r p s
  have start : (updWind c (Wind.takesPose p) (s.accepted c p)).link d = s.link d := by
    rw [← accepted_otherLink (s := s) p h.symm]
    exact congrArg (·.get d) (updWind_links ..)
  refine ⟨?_, ?_, ?_⟩
  · rw [Work.link_keeps (A := .posed c) (fun l => l.state) d (fun _ _ ok => ok.1) work, start]
  · rw [Work.link_keeps (A := .posed c) (fun l => l.lastPose) d (fun _ _ ok => ok.2.1) work, start]
  · rw [Work.link_keeps (A := .posed c) (fun l => l.generation) d (fun _ _ ok => ok.2.2.2.2 h) work, start]

theorem Wind.SameSamples.refl (w : Wind) : w.SameSamples w := ⟨rfl, rfl, rfl, rfl, rfl⟩

theorem Wind.SameSamples.trans {x y z : Wind} (h : x.SameSamples y) (k : y.SameSamples z) : x.SameSamples z :=
  ⟨k.1.trans h.1, k.2.1.trans h.2.1, k.2.2.1.trans h.2.2.1, k.2.2.2.1.trans h.2.2.2.1, k.2.2.2.2.trans h.2.2.2.2⟩

theorem acceptPose_follows (r : CraneRecord) (p : Pose) :
    Parts.SensorFollows p (s.windOf c) ((acceptPose c r p s).windOf c) := by
  have start : (updWind c (Wind.takesPose p) (s.accepted c p)).windOf c = (s.windOf c).takesPose p := by
    rw [updWind_windOf, if_pos rfl, accepted_windOf]
  refine SensorFollows.of_sameSamples (takesPose_follows p (s.windOf c)) ?_
  rw [← start]
  exact Work.wind_rel (A := .posed c) Wind.SameSamples (fun _ => .refl _) (fun _ _ _ => .trans) c
    (fun _ _ ok => ok rfl) (acceptPose_posed c r p s)

theorem poseIsTaken_holds : Parts.PoseIsTaken := by
  intro c f r p s on h included record fresh judged
  have taken : takePose c f (nextEvent s) = acceptPose c r p (nextEvent s) :=
    takePose_valid included record fresh judged
  have work := acceptPose_work (c := c) r p (nextEvent s)
  obtain ⟨t, next, left⟩ := event_work_leaves (A := .all) (i := .poseReport c f) (takePose c f) rfl on h (taken ▸ work)
  rw [taken] at left
  obtain ⟨live, pose, streak, -⟩ := acceptPose_link c r p (nextEvent s)
  refine ⟨t, next, (left.link c) ▸ live, (left.link c) ▸ pose, (left.link c) ▸ streak, fun d other => ?_, ?_,
    fun online => ?_, fun survey => ?_, fun operate online u e => ?_, site_of_work work left⟩
  · rw [left.link]
    exact acceptPose_otherLink (s := nextEvent s) r p other
  · refine SensorFollows.of_sameSamples (acceptPose_follows (s := nextEvent s) r p) ?_
    rw [left.wind c]
    exact ⟨rfl, rfl, rfl, rfl, rfl⟩
  · rw [left.crane, (acceptPose_stopHeld c r p s).stopHeld_eStop, atStage3_eStop p online]
  · obtain ⟨inForce, crane, idle⟩ := acceptPose_survey p survey record
    rw [left.link, left.crane, crane]
    exact ⟨inForce, rfl, idle⟩
  · subst e
    obtain ⟨k, computed, sequence, poseAt, occupancy, transit, inForce, busy⟩ :=
      compute_effect c r p (Parts.atStage3 c p s)
    have after := acceptPose_fromComputation c r p s operate online
    have power : (compute c r p (Parts.atStage3 c p s)).power = (Parts.atStage3 c p s).power :=
      (compute_work (all_judges _ c) (fun _ _ => trivial) (fun _ _ _ => trivial) r p .refl).power
    have engine := after.running_engine c
    rw [left.engine, left.link, left.crane]
    refine ⟨k, computed, ?_, congrArg (·.get c) after.running_status, after.running_busy c (power ▸ busy), sequence, poseAt,
      ?_, ?_, ?_⟩
    · rw [engine]
      exact computed
    · rw [after.running_inForce c, inForce]
    · rw [engine]
      exact occupancy
    · rw [engine]
      exact transit

end
end Sys2Proof.Machine
end

section
/-! SUPPORT for the statement O48: the conditions of AWAIT, read off their definition. -/

namespace Sys2Proof.Machine

/-- The sectors from b on to a, counted upwards, are at most t. -/
theorem sector_sub_le {t : Nat} {a b : Sector} : (a - b).val ≤ t ↔ ∃ d, d ≤ t ∧ (b.val + d) % 128 = a.val := by
  rw [Fin.sub_def]
  have := a.isLt
  have := b.isLt
  constructor
  · exact fun h => ⟨_, h, by dsimp only; omega⟩
  · rintro ⟨d, le, e⟩
    dsimp only
    omega

theorem sectorsWithin_iff (t : Nat) (a b : Sector) : sectorsWithin t a b = true ↔ Parts.SectorsWithin t a b := by
  unfold sectorsWithin Parts.SectorsWithin
  rw [Bool.or_eq_true, decide_eq_true_iff, decide_eq_true_iff, sector_sub_le, sector_sub_le, ← exists_or]
  simp only [← and_or_left, or_comm]

theorem gridCell?_val (k : GridCell) : gridCell? ⟨k.sector.val, k.band.val⟩ = some k :=
  dif_pos ⟨k.sector.isLt, k.band.isLt⟩

/-- What an AT_CELL condition names. -/
theorem cellOfRef?_eq {b : Booking} {k : GridCell} {cell : CellRef}
    (names : cell = .cell k.sector.val k.band.val ∨ (cell = .pick ∧ k = b.pick) ∨ (cell = .set ∧ k = b.set)) :
    cellOfRef? b cell = some k := by
  rcases names with rfl | ⟨rfl, rfl⟩ | ⟨rfl, rfl⟩
  · exact gridCell?_val k
  · rfl
  · rfl

theorem awaitConditions_holds : Parts.AwaitConditions := by
  refine fun b r p => ⟨fun k cell t names => ?_, fun x => ⟨decide_eq_true_iff, decide_eq_true_iff⟩,
    fun h => decide_eq_true_iff⟩
  unfold awaitHolds
  dsimp only
  rw [cellOfRef?_eq names]
  dsimp only
  rw [Bool.and_eq_true, beq_iff_eq, sectorsWithin_iff]

end Sys2Proof.Machine
end

section
/-! SUPPORT. The grant tests where nothing waits, and a STANDING request for zones that are all free: it is granted whole. -/

namespace Sys2Proof.Machine

section
variable {s t u v : State} {c : Slot} {z : ZoneId}

/-! ## Grant tests with nothing waiting -/

theorem candidate?_none (h : (s.zone z).waiting = []) : s.candidate? z = none := by
  unfold State.candidate?
  rw [h]
  rfl

theorem nextGrant?_none (h : ∀ z, (s.zone z).waiting = []) (due : List ZoneId) : s.nextGrant? due = none := by
  unfold State.nextGrant?
  rw [List.findSome?_eq_none_iff]
  intro z _
  rw [candidate?_none (h z)]
  rfl

theorem grantAll_none {due : List ZoneId} (h : s.nextGrant? due = none) (n : Nat) : grantAll n due s = (due, s) := by
  cases n with
  | zero => rfl
  | succ n =>
    unfold grantAll
    rw [h]

theorem settleReservation_self (h : (s.zone z).waiting = []) (unreserved : (s.zone z).reservedFor = none) :
    settleReservation z s = s := by
  unfold settleReservation State.reservation?
  rw [candidate?_none h, unreserved]
  rfl

theorem forEach_self {α : Type} {l : List α} {f : α → State → State} (h : ∀ a ∈ l, f a s = s) : forEach l f s = s := by
  unfold forEach
  induction l with
  | nil => rfl
  | cons a l ih =>
    rw [List.foldl_cons, h a List.mem_cons_self]
    exact ih fun b mem => h b (List.mem_cons_of_mem _ mem)

/-- With nothing waiting and nothing reserved the grant tests change nothing. -/
theorem settleZones_nothing (h : s.NoWaiting) (old : State) (extra : List ZoneId) : settleZones old extra s = s := by
  unfold settleZones
  dsimp only
  rw [grantAll_none (nextGrant?_none (fun z => (h z).1) _)]
  exact forEach_self fun z _ => settleReservation_self (h z).1 (h z).2

/-! ## A STANDING claim being made in an empty pool -/

/-- Only the arbiter's records change. -/
def Scope.claims : Scope where
  arb := True
  bookings := False
  engine _ _ _ := False
  channel _ _ _ := False
  link _ _ _ := False
  wind _ _ _ := False
  status _ _ _ := False

theorem Work.claims_readings (h : Work .claims s t) : t.links = s.links ∧ t.engines = s.engines ∧
    t.channels = s.channels ∧ t.bookings = s.bookings :=
  ⟨h.links_eq fun _ _ _ => id, h.engines_eq fun _ _ _ => id, h.channels_eq fun _ _ _ => id, h.bookings_eq id⟩

theorem updZone_zone (z y : ZoneId) (f : ZoneRecord → ZoneRecord) (s : State) :
    (updZone z f s).zone y = if z = y then f (s.zone z) else s.zone y := by
  rw [← State.putZone_zone]
  unfold updZone State.zone
  rw [markIf_arb]

theorem updZone_pool (z : ZoneId) (f : ZoneRecord → ZoneRecord) (s : State) : (updZone z f s).arb.pool = s.arb.pool := by
  unfold updZone
  rw [markIf_arb]
  rfl

/-- t comes of u by work on claims, with one pool record and given zone records. -/
structure Claiming (u : State) (x : PoolRecord) (g : ZoneId → ZoneRecord) (t : State) : Prop where
  work : Work .claims u t
  pool : t.arb.pool = [x]
  zone : ∀ z, t.zone z = g z

section
variable {x : PoolRecord} {g : ZoneId → ZoneRecord}

theorem Claiming.updZone (h : Claiming u x g t) (z : ZoneId) (f : ZoneRecord → ZoneRecord) :
    Claiming u x (fun y => if z = y then f (g z) else g y) (updZone z f t) where
  work := markIf_work _ _ (.arb _ trivial h.work)
  pool := (updZone_pool ..).trans h.pool
  zone y := by rw [updZone_zone, h.zone, h.zone]

theorem Claiming.updPool (h : Claiming u x g t) (f : PoolRecord → PoolRecord) :
    Claiming u (f x) g (updPool x.stamp f t) where
  work := .arb _ trivial h.work
  pool := by
    show List.map _ t.arb.pool = _
    rw [h.pool, List.map_singleton, if_pos (beq_self_eq_true _)]
  zone := h.zone

theorem Claiming.poolRec? (h : Claiming u x g t) : t.poolRec? x.stamp = some x := by
  unfold State.poolRec?
  rw [h.pool]
  exact List.find?_cons_of_pos (beq_self_eq_true _)

theorem Claiming.claimZones (h : Claiming u x g t) : t.claimZones (.pool x.stamp) = x.zones := by
  unfold State.claimZones
  dsimp only
  rw [h.poolRec?]
  rfl

theorem Claiming.mem_waitingZones (h : Claiming u x g t) :
    z ∈ t.waitingZones (.pool x.stamp) ↔ ∃ cz ∈ x.zones, cz.zone = z ∧ cz.status = .waiting := by
  rw [Machine.mem_waitingZones, h.claimZones]

/-- A zone that is free and in which nothing waits gets the claim's entry. -/
theorem requestStandingZone_free (n : Nat) (c : Slot) (free : (s.zone z).holding = .free) (empty : (s.zone z).waiting = []) :
    requestStandingZone n c z s = placeEntry (.pool n) z s := by
  have unheld : s.holds c z = false := by
    unfold State.holds
    rw [free]
  have none : s.waitingPool? c z = none := by
    unfold State.waitingPool? State.entryOf?
    rw [empty]
    rfl
  unfold requestStandingZone
  rw [none]
  exact if_neg (by rw [unheld]; exact Bool.false_ne_true)

/-- A zone in whose list the claim alone waits. -/
def ZoneRecord.asked (n : Nat) (r : ZoneRecord) : ZoneRecord := { r with waiting := [.pool n] }

/-- The claim's entry is placed in each of its zones. -/
theorem Claiming.asks {l : List ZoneId} (distinct : l.Nodup) (h : Claiming u x g t)
    (open_ : ∀ z ∈ l, (g z).holding = .free ∧ (g z).waiting = []) (c : Slot) :
    Claiming u x (fun z => if z ∈ l then (g z).asked x.stamp else g z) (forEach l (requestStandingZone x.stamp c) t) := by
  induction l generalizing t g with
  | nil => exact ⟨h.work, h.pool, h.zone⟩
  | cons y l ih =>
    obtain ⟨notIn, distinct⟩ := List.nodup_cons.mp distinct
    obtain ⟨free, empty⟩ := open_ y List.mem_cons_self
    have placed : requestStandingZone x.stamp c y t = Machine.updZone y (fun r => { r with waiting := [.pool x.stamp] }) t := by
      rw [requestStandingZone_free _ _ (by rw [h.zone]; exact free) (by rw [h.zone]; exact empty)]
      unfold placeEntry Machine.updZone
      dsimp only
      rw [h.zone, empty]
      rfl
    have first := h.updZone y (ZoneRecord.asked x.stamp)
    have rest := ih distinct first fun z mem => by
      have other : y ≠ z := fun e => notIn (e ▸ mem)
      rw [if_neg other]
      exact open_ z (List.mem_cons_of_mem _ mem)
    refine ⟨?_, ?_, fun z => ?_⟩
    · show Work _ _ (forEach l _ (requestStandingZone x.stamp c y t))
      rw [placed]
      exact rest.work
    · show (forEach l _ (requestStandingZone x.stamp c y t)).arb.pool = _
      rw [placed]
      exact rest.pool
    · show (forEach l _ (requestStandingZone x.stamp c y t)).zone z = _
      rw [placed]
      refine (rest.zone z).trans ?_
      by_cases e : y = z
      · subst e
        rw [if_neg notIn, if_pos rfl, if_pos List.mem_cons_self]
      · rw [if_neg e]
        by_cases mem : z ∈ l
        · rw [if_pos mem, if_pos (List.mem_cons_of_mem _ mem)]
        · rw [if_neg mem, if_neg (fun m => (List.mem_cons.mp m).elim (fun k => e k.symm) mem)]

/-- A claim zone that is granted when its zone is among those named. -/
def ClaimZone.grantedIn (l : List ZoneId) (cz : ClaimZone) : ClaimZone :=
  if cz.zone ∈ l then ⟨cz.zone, .granted, none⟩ else cz

/-- A STANDING record to which some zones are granted. -/
def PoolRecord.grantedIn (l : List ZoneId) (x : PoolRecord) : PoolRecord := { x with zones := x.zones.map (·.grantedIn l) }

/-- A zone granted to the claim. -/
def ZoneRecord.grantedTo (c : Slot) (n : Nat) (r : ZoneRecord) : ZoneRecord :=
  { r with holding := .held c (.pool n), waiting := r.waiting.filter fun x => x != .pool n, reservedFor := none }

theorem ClaimZone.grantedIn_cons (y : ZoneId) (l : List ZoneId) (cz : ClaimZone) :
    (cz.grantedIn [y]).grantedIn l = cz.grantedIn (y :: l) := by
  unfold ClaimZone.grantedIn
  by_cases e : cz.zone = y
  · simp [e]
  · simp [e]

theorem PoolRecord.grantedIn_cons (y : ZoneId) (l : List ZoneId) (x : PoolRecord) :
    (x.grantedIn [y]).grantedIn l = x.grantedIn (y :: l) := by
  unfold PoolRecord.grantedIn
  dsimp only
  rw [List.map_map]
  congr 1
  exact List.map_congr_left fun cz _ => ClaimZone.grantedIn_cons y l cz

/-- One zone is granted to a STANDING claim. -/
theorem Claiming.grantsOne (h : Claiming u x g t) (standing : x.kind = .standing) (c : Slot) (y : ZoneId) :
    Claiming u (x.grantedIn [y]) (fun z => if y = z then (g y).grantedTo c x.stamp else g z)
      (grantPoolZone x.stamp c y t) := by
  have held := h.updZone y (ZoneRecord.grantedTo c x.stamp)
  have status := held.updPool (fun r =>
    { r with zones := r.zones.map fun cz => if cz.zone == y then ⟨y, .granted, none⟩ else cz })
  have same : ({ x with zones := x.zones.map fun cz => if cz.zone == y then ⟨y, .granted, none⟩ else cz } : PoolRecord) =
      x.grantedIn [y] := by
    unfold PoolRecord.grantedIn
    congr 1
    refine List.map_congr_left fun cz _ => ?_
    unfold ClaimZone.grantedIn
    by_cases e : cz.zone = y <;> simp [e]
  rw [same] at status
  have kept := status.updPool (fun r => if r.kind == .transit then { r with dwell := t.freshDwell c y } else r)
  have notTransit : (if (x.grantedIn [y]).kind == .transit then { x.grantedIn [y] with dwell := t.freshDwell c y }
      else x.grantedIn [y]) = x.grantedIn [y] :=
    if_neg (by rw [show (x.grantedIn [y]).kind = .standing from standing]; decide)
  rw [notTransit] at kept
  exact kept

theorem Claiming.grants (l : List ZoneId) (h : Claiming u x g t) (standing : x.kind = .standing) (c : Slot) :
    ∃ k, Claiming u (x.grantedIn l) k (forEach l (grantPoolZone x.stamp c) t) ∧
      (∀ z ∈ l, (k z).holding = .held c (.pool x.stamp) ∧ (k z).reservedFor = none) ∧
      (∀ z ∈ l, (k z).waiting = (g z).waiting.filter fun x' => x' != .pool x.stamp) ∧ ∀ z, z ∉ l → k z = g z := by
  induction l generalizing t g x with
  | nil =>
    have same : x.grantedIn [] = x := by
      unfold PoolRecord.grantedIn ClaimZone.grantedIn
      simp
    exact ⟨g, by rw [same]; exact h, fun _ mem => absurd mem List.not_mem_nil, fun _ mem => absurd mem List.not_mem_nil, fun _ _ => rfl⟩
  | cons y l ih =>
    obtain ⟨k, after, held, waiting, other⟩ := ih (h.grantsOne standing c y) standing
    rw [PoolRecord.grantedIn_cons] at after
    refine ⟨k, after, fun z mem => ?_, fun z mem => ?_, fun z mem => ?_⟩
    · by_cases inRest : z ∈ l
      · exact held z inRest
      · obtain rfl : z = y := (List.mem_cons.mp mem).resolve_right inRest
        rw [other z inRest, if_pos rfl]
        exact ⟨rfl, rfl⟩
    · by_cases inRest : z ∈ l
      · rw [waiting z inRest]
        by_cases e : y = z
        · subst e
          rw [if_pos rfl]
          simp [ZoneRecord.grantedTo, PoolRecord.grantedIn, List.filter_filter]
        · rw [if_neg e]
          rfl
      · obtain rfl : z = y := (List.mem_cons.mp mem).resolve_right inRest
        rw [other z inRest, if_pos rfl]
        rfl
    · obtain ⟨ne, notIn⟩ := not_or.mp (fun m => mem (List.mem_cons.mpr m))
      rw [other z notIn, if_neg fun e => ne e.symm]

end

/-! ## A STANDING request for zones that are all free -/

/-- What a request finds that is granted whole: an empty pool, nothing waiting, and zones that are free. -/
structure State.AllFree (u : State) (c : Slot) (zones : List ZoneId) : Prop where
  distinct : zones.Nodup
  heard : (u.link c).state ≠ .stale
  nothing : u.NoWaiting
  pool : u.arb.pool = []
  free : ∀ z ∈ zones, (u.zone z).holding = .free
  clear : ∀ z ∈ zones, ∀ o, o ≠ c → z ∉ (u.engine o).occupancy

section
variable {zones : List ZoneId} {x : PoolRecord}

/-- The zones in which the claim has been placed. -/
def State.askedIn (u : State) (n : Nat) (zones : List ZoneId) (z : ZoneId) : ZoneRecord :=
  if z ∈ zones then (u.zone z).asked n else u.zone z

theorem askedIn_mem {n : Nat} (mem : z ∈ zones) : u.askedIn n zones z = (u.zone z).asked n := if_pos mem

theorem askedIn_other {n : Nat} (mem : z ∉ zones) : u.askedIn n zones z = u.zone z := if_neg mem

/-- In s the claim that crane c asked for in u has been placed in each of its zones. -/
structure Asking (u : State) (c : Slot) (zones : List ZoneId) (x : PoolRecord) (s : State) : Prop where
  free : u.AllFree c zones
  asked : Claiming u x (u.askedIn x.stamp zones) s
  own : x.crane = c
  inZones : x.zones = zones.map fun z => ⟨z, .waiting, none⟩
  standing : x.kind = .standing
  unplaced : (u.channel c).claim ≠ some (.placed x.stamp)

section
variable (h : Asking u c zones x s)
include h

/-- The claim is the candidate of its zones. -/
theorem candidate?_asked (mem : z ∈ zones) : s.candidate? z = some (.pool x.stamp) := by
  have heard : (s.link c).state ≠ .stale := by
    unfold State.link
    rw [h.asked.work.claims_readings.1]
    exact h.free.heard
  have crane : s.claimCrane? (.pool x.stamp) = some c := by
    unfold State.claimCrane?
    dsimp only
    rw [h.asked.poolRec?, ← h.own]
    rfl
  unfold State.candidate?
  rw [h.asked.zone, askedIn_mem mem]
  refine List.find?_cons_of_pos ?_
  rw [crane]
  exact bne_iff_ne.mpr heard

theorem candidate?_unasked (mem : z ∉ zones) : s.candidate? z = none :=
  candidate?_none (by rw [h.asked.zone, askedIn_other mem]; exact (h.free.nothing z).1)

/-- The zones of the claim are open to its crane. -/
theorem openTo_asked (mem : z ∈ zones) : s.openTo c z = true := by
  unfold State.openTo State.occupiedByOther
  have occupied : (allSlots.any fun o => o != c && (s.engine o).occupancy.contains z) = false := by
    rw [List.any_eq_false]
    intro o _
    have engine : s.engine o = u.engine o := congrArg (·.get o) h.asked.work.claims_readings.2.1
    rw [engine, Bool.and_eq_true, List.contains_iff_mem, bne_iff_ne]
    exact fun ⟨other, inside⟩ => h.free.clear z mem o other inside
  rw [occupied, h.asked.zone, askedIn_mem mem]
  refine Bool.and_eq_true_iff.mpr ⟨beq_iff_eq.mpr ?_, rfl⟩
  exact h.free.free z mem

theorem waitingZones_asked : z ∈ s.waitingZones (.pool x.stamp) ↔ z ∈ zones := by
  rw [h.asked.mem_waitingZones, h.inZones]
  simp

/-- The claim passes in its zones, all of which it is the candidate of. -/
theorem passes_asked : s.passes z (.pool x.stamp) = true := by
  unfold State.passes
  dsimp only
  rw [h.asked.poolRec?]
  refine List.all_eq_true.mpr fun y mem => ?_
  have inside := (waitingZones_asked h).mp mem
  rw [h.own, openTo_asked h inside, candidate?_asked h inside]
  exact beq_self_eq_true _

/-- The first grant of the tests is the claim's. -/
theorem nextGrant?_asked {due : List ZoneId} (named : ∀ z ∈ zones, z ∈ due) (some_ : zones ≠ []) :
    ∃ z, s.nextGrant? due = some (z, .pool x.stamp) := by
  unfold State.nextGrant?
  cases found : due.findSome? fun z => (s.candidate? z).bind fun ref => if s.passes z ref then some (z, ref) else none with
  | none =>
    obtain ⟨z, mem⟩ := List.exists_mem_of_ne_nil zones some_
    have none := List.findSome?_eq_none_iff.mp found z (named z mem)
    rw [candidate?_asked h mem, Option.bind_some, if_pos (passes_asked h)] at none
    cases none
  | some pair =>
    obtain ⟨z, -, found⟩ := List.exists_of_findSome?_eq_some found
    by_cases mem : z ∈ zones
    · rw [candidate?_asked h mem, Option.bind_some, if_pos (passes_asked h)] at found
      exact ⟨z, found.symm⟩
    · rw [candidate?_unasked h mem] at found
      cases found

/-- The claim is granted all its zones at once, and its channel does not wait for it. -/
theorem grantCandidate_asked : grantCandidate z (.pool x.stamp) s =
    forEach (s.waitingZones (.pool x.stamp)) (grantPoolZone x.stamp c) s := by
  unfold grantCandidate
  dsimp only
  rw [h.asked.poolRec?]
  dsimp only
  rw [h.own, h.standing]
  refine (if_pos rfl).trans ?_
  obtain ⟨k, after, -⟩ := h.asked.grants (s.waitingZones (.pool x.stamp)) h.standing c
  have channel : (forEach (s.waitingZones (.pool x.stamp)) (grantPoolZone x.stamp c) s).channel c = u.channel c :=
    congrArg (·.get c) after.work.claims_readings.2.2.1
  unfold tellGranted State.waitsFor
  rw [channel]
  exact if_neg fun e => h.unplaced (beq_iff_eq.mp (Bool.and_eq_true_iff.mp e).1)

/-- The grant tests after the claim has been placed grant it whole. -/
theorem settleZones_asked : ∃ k, Claiming u (x.grantedIn (s.waitingZones (.pool x.stamp))) k (settleZones u [] s) ∧
    ∀ z ∈ zones, (k z).holding = .held c (.pool x.stamp) := by
  obtain ⟨k, after, held, waiting, other⟩ := h.asked.grants (s.waitingZones (.pool x.stamp)) h.standing c
  have inside {z : ZoneId} := waitingZones_asked (z := z) h
  have nothing : (forEach (s.waitingZones (.pool x.stamp)) (grantPoolZone x.stamp c) s).NoWaiting := fun z => by
    rw [after.zone]
    by_cases mem : z ∈ zones
    · rw [waiting z (inside.mpr mem), (held z (inside.mpr mem)).2, askedIn_mem mem]
      exact ⟨List.filter_cons_of_neg (by simp), rfl⟩
    · rw [other z (fun m => mem (inside.mp m)), askedIn_other mem]
      exact h.free.nothing z
  refine ⟨k, ?_, fun z mem => (held z (inside.mpr mem)).1⟩
  have settled : settleZones u [] s = forEach (s.waitingZones (.pool x.stamp)) (grantPoolZone x.stamp c) s := by
    by_cases empty : zones = []
    · have none : s.waitingZones (.pool x.stamp) = [] := List.eq_nil_iff_forall_not_mem.mpr fun z m => by
        have := inside.mp m
        rw [empty] at this
        exact List.not_mem_nil this
      rw [none] at nothing ⊢
      exact settleZones_nothing nothing u []
    · have named : ∀ z ∈ zones, z ∈ dueAfter u s [] := fun z mem => by
        refine mem_zoneSet.mpr (Bool.or_eq_true_iff.mpr (.inr ?_))
        have changed : (u.zone z).waiting ≠ (s.zone z).waiting := by
          rw [(h.free.nothing z).1, h.asked.zone, askedIn_mem mem]
          exact (List.cons_ne_nil _ _).symm
        unfold testChanged
        simp [changed]
      obtain ⟨z0, next⟩ := nextGrant?_asked h named empty
      have fuel : ∃ n, s.entryCount = n + 1 := by
        refine Nat.exists_eq_succ_of_ne_zero fun zero => ?_
        obtain ⟨z, mem⟩ := List.exists_mem_of_ne_nil zones empty
        have length := (List.sum_eq_zero_iff_forall_eq_nat.mp zero) _ (List.mem_map.mpr ⟨z, mem_allZones z, rfl⟩)
        rw [h.asked.zone, askedIn_mem mem] at length
        cases length
      obtain ⟨n, fuel⟩ := fuel
      unfold settleZones
      dsimp only
      rw [fuel, grantAll, next]
      dsimp only
      rw [grantCandidate_asked h,
        grantAll_none (nextGrant?_none (fun z => (nothing z).1) _)]
      exact forEach_self fun z _ => settleReservation_self (nothing z).1 (nothing z).2
  rw [settled]
  exact after

end

end

end
end Sys2Proof.Machine
end

section
/-! SUPPORT. The booking table after one booking has been changed, seen through its members and through its numbers. -/

namespace Sys2Proof.Machine

section
variable {s t u : State} {n k : Nat} {b b' : Booking} {f : Booking → Booking}

theorem booking?_some (h : s.booking? n = some b) : b ∈ s.bookings ∧ b.number = n :=
  ⟨List.mem_of_find?_eq_some h, beq_iff_eq.mp (List.find?_some (p := fun b : Booking => b.number == n) h)⟩

theorem booking?_none (h : s.booking? n = none) (mem : b ∈ s.bookings) : b.number ≠ n :=
  fun e => List.find?_eq_none.mp h b mem (beq_iff_eq.mpr e)

theorem current?_some {c : Slot} (h : s.current? c = some b) :
    (s.channel c).booking = some b.number ∧ s.booking? b.number = some b := by
  obtain ⟨n, booking, found⟩ := Option.bind_eq_some_iff.mp h
  obtain rfl := (booking?_some found).2
  exact ⟨booking, found⟩

/-- The table in which the bookings of a number are replaced, and then perhaps freed. -/
theorem updBooking_bookings (found : s.booking? n = some b) (same : (f b).number = b.number) :
    (updBooking n f s).bookings =
      if !b.state.ended && (f b).state.ended && s.port.masks.contains .booking then
        (s.bookings.map fun x => if x.number == n then f b else x).filter fun x => x.number != n
      else s.bookings.map fun x => if x.number == n then f b else x := by
  have put : (markIf (b.reportableChange (f b)) (.booking n) (s.putBooking (f b))).bookings =
      s.bookings.map fun x => if x.number == n then f b else x := by
    rw [markIf_bookings]
    show s.bookings.map (fun x => if x.number == (f b).number then f b else x) = _
    rw [same, (booking?_some found).2]
  unfold updBooking
  rw [found]
  dsimp only
  split
  · exact congrArg (List.filter fun x => x.number != n) put
  · exact put

theorem updBooking_absent (h : s.booking? n = none) : updBooking n f s = s := by
  unfold updBooking
  rw [h]

/-- A booking in the table after a change was there before under another number, or is the changed one. -/
theorem mem_updBooking (keeps : ∀ b, (f b).number = b.number) (mem : b' ∈ (updBooking n f s).bookings) :
    (b' ∈ s.bookings ∧ b'.number ≠ n) ∨ ∃ b, s.booking? n = some b ∧ b' = f b := by
  cases found : s.booking? n with
  | none =>
    rw [updBooking_absent found] at mem
    exact .inl ⟨mem, booking?_none found mem⟩
  | some b =>
    rw [updBooking_bookings found (keeps b)] at mem
    have mapped : b' ∈ s.bookings.map fun x => if x.number == n then f b else x := by
      split at mem
      · exact List.mem_of_mem_filter mem
      · exact mem
    obtain ⟨x, inside, rfl⟩ := List.mem_map.mp mapped
    by_cases e : x.number = n
    · rw [if_pos (beq_iff_eq.mpr e)]
      exact .inr ⟨b, rfl, rfl⟩
    · rw [if_neg (fun k => e (beq_iff_eq.mp k))]
      exact .inl ⟨inside, e⟩

/-- A change of one booking leaves those of other numbers. -/
theorem updBooking_other (keeps : ∀ b, (f b).number = b.number) (h : k ≠ n) :
    (updBooking n f s).booking? k = s.booking? k := by
  cases found : s.booking? n with
  | none => rw [updBooking_absent found]
  | some b =>
    have number : (f b).number = n := (keeps b).trans (booking?_some found).2
    have mapped : (s.bookings.map fun x => if x.number == n then f b else x).find? (fun x => x.number == k) =
        s.booking? k := by
      unfold State.booking?
      induction s.bookings with
      | nil => rfl
      | cons x l ih =>
        rw [List.map_cons]
        by_cases e : x.number = n
        · rw [if_pos (beq_iff_eq.mpr e), List.find?_cons_of_neg (by rw [number]; simpa using h.symm),
            List.find?_cons_of_neg (by rw [e]; simpa using h.symm), ih]
        · rw [if_neg (fun m => e (beq_iff_eq.mp m)), List.find?_cons, List.find?_cons, ih]
    unfold State.booking? at mapped ⊢
    rw [updBooking_bookings found (keeps b)]
    split
    · rw [List.find?_filter, ← mapped]
      congr 1
      funext x
      by_cases e : x.number = n
      · simp [e, h.symm]
      · simp [e, beq_eq_decide]
    · exact mapped

/-- The changed booking, when the change does not free its entry. -/
theorem updBooking_same (keeps : ∀ b, (f b).number = b.number) (found : s.booking? n = some b)
    (stays : b.state.ended = true ∨ (f b).state.ended = false) : (updBooking n f s).booking? n = some (f b) := by
  have number : (f b).number = n := (keeps b).trans (booking?_some found).2
  have kept : ¬ (!b.state.ended && (f b).state.ended && s.port.masks.contains .booking) = true := by
    rcases stays with e | e <;> simp [e]
  unfold State.booking? at found ⊢
  rw [updBooking_bookings found (keeps b), if_neg kept]
  revert found
  induction s.bookings with
  | nil => exact fun h => absurd h (by simp)
  | cons x l ih =>
    intro found
    rw [List.map_cons]
    by_cases e : x.number = n
    · rw [if_pos (beq_iff_eq.mpr e)]
      exact List.find?_cons_of_pos (beq_iff_eq.mpr number)
    · rw [if_neg (fun m => e (beq_iff_eq.mp m)), List.find?_cons_of_neg (p := fun b : Booking => b.number == n) (fun m => e (beq_iff_eq.mp m))]
      rw [List.find?_cons_of_neg (p := fun b : Booking => b.number == n) (fun m => e (beq_iff_eq.mp m))] at found
      exact ih found

end
end Sys2Proof.Machine
end

section
/-! SUPPORT and the statement O48, second part: the computation of an accepted pose offered to an AWAIT step, and to a CLAIM
step that stands ALREADY_WAITING. -/

namespace Sys2Proof.Machine

section
variable {s t u v : State} {c : Slot} {b : Booking} {zones : List ZoneId}

/-! ## The answers to a STANDING request -/

/-- In none of the zones does the crane have an entry or a holding. -/
def State.Unrelated (u : State) (c : Slot) (zones : List ZoneId) : Prop :=
  ∀ z ∈ zones, u.entryOf? c z = none ∧ u.holds c z = false

theorem alreadyWaits_iff : u.alreadyWaits c zones = true ↔ ∃ z ∈ zones, u.entryOf? c z = some (.storm c) ∨
    (∃ d, u.entryOf? c z = some (.storm d)) ∨ ∃ n, u.entryOf? c z = some (.pool n) ∧ u.poolKind? n = some .standing := by
  unfold State.alreadyWaits
  rw [List.any_eq_true]
  refine exists_congr fun z => and_congr_right fun _ => ?_
  cases u.entryOf? c z with
  | none => simp
  | some ref => cases ref <;> simp

theorem alreadyWaits_unrelated (h : u.Unrelated c zones) : u.alreadyWaits c zones = false := by
  rw [Bool.eq_false_iff]
  intro waits
  obtain ⟨z, mem, k⟩ := alreadyWaits_iff.mp waits
  rw [(h z mem).1] at k
  rcases k with k | ⟨d, k⟩ | ⟨n, k, -⟩ <;> cases k

theorem transitHolding?_unheld {z : ZoneId} (h : u.holds c z = false) : u.transitHolding? c z = none := by
  unfold State.holds at h
  unfold State.transitHolding?
  split
  · rename_i d n e
    rw [e] at h
    dsimp only at h
    rw [h]
    rfl
  · rfl

/-- The zones of a request are all zones of the crane. -/
def State.Members (u : State) (c : Slot) (zones : List ZoneId) : Prop := ∀ z ∈ zones, u.member c z = true

theorem not_notMember (h : u.Members c zones) : ¬ (!zones.all fun z => u.member c z) = true := by
  rw [Bool.not_eq_true, Bool.not_eq_false', List.all_eq_true]
  exact h

theorem requestStanding_alreadyWaiting (members : u.Members c zones) (waits : u.alreadyWaits c zones = true)
    (booking priority : Nat) : requestStanding c booking priority zones u = (u, .alreadyWaiting) :=
  (if_neg (not_notMember members)).trans (if_pos waits)

/-- A request for zones that the crane neither holds nor waits for takes a pool record, or finds none. -/
theorem requestStanding_unrelated (members : u.Members c zones) (h : u.Unrelated c zones) (booking priority : Nat) :
    requestStanding c booking priority zones u =
      if !u.poolHasRoom then (u, .noRecord)
      else
        let s2 := settleZones u [] (forEach zones (requestStandingZone u.arb.stamp c)
          (takePool c .standing priority (some booking) (zones.map fun z => ⟨z, .waiting, none⟩) ⟨0, false⟩ u))
        (s2, if s2.allGranted (.pool u.arb.stamp) then .granted else .waiting u.arb.stamp) := by
  refine (if_neg (not_notMember members)).trans
    ((if_neg (by rw [alreadyWaits_unrelated h]; exact Bool.false_ne_true)).trans ?_)
  have none : zones.head?.bind (u.transitHolding? c) = Option.none := by
    cases zones with
    | nil => rfl
    | cons z l => exact transitHolding?_unheld (h z List.mem_cons_self).2
  rw [none]
  cases zones with
  | nil => rfl
  | cons z l => cases l <;> rfl

theorem requestStanding_noRecord (members : u.Members c zones) (h : u.Unrelated c zones) (full : 96 ≤ u.arb.pool.length)
    (booking priority : Nat) : requestStanding c booking priority zones u = (u, .noRecord) := by
  have room : u.poolHasRoom = false := decide_eq_false (Nat.not_lt.mpr full)
  rw [requestStanding_unrelated members h]
  exact if_pos (by rw [room]; rfl)

theorem State.AllFree.unrelated (free : u.AllFree c zones) : u.Unrelated c zones := by
  refine fun z mem => ⟨?_, ?_⟩
  · unfold State.entryOf?
    rw [(free.nothing z).1]
    rfl
  · unfold State.holds
    rw [free.free z mem]

/-- A request for zones that are all free, with an empty pool and nothing waiting, is granted whole. -/
theorem requestStanding_granted (members : u.Members c zones) (free : u.AllFree c zones)
    (unplaced : (u.channel c).claim ≠ some (.placed u.arb.stamp)) (booking priority : Nat) :
    ∃ v, requestStanding c booking priority zones u = (v, .granted) ∧ Work .claims u v ∧
      ∀ z ∈ zones, (v.zone z).holding = .held c (.pool u.arb.stamp) := by
  have room : u.poolHasRoom = true := decide_eq_true (by rw [free.pool]; decide)
  let x : PoolRecord := {
    stamp := u.arb.stamp, id := u.freshId, crane := c, kind := .standing, priority := priority, booking := some booking
    zones := zones.map fun z => ⟨z, .waiting, none⟩, dwell := ⟨0, false⟩ }
  have taken : Claiming u x u.zone
      (takePool c .standing priority (some booking) (zones.map fun z => ⟨z, .waiting, none⟩) ⟨0, false⟩ u) :=
    ⟨.arb _ trivial .refl, by
      show u.arb.pool ++ [x] = [x]
      rw [free.pool]
      rfl, fun _ => rfl⟩
  have asking : Asking u c zones x (forEach zones (requestStandingZone u.arb.stamp c)
      (takePool c .standing priority (some booking) (zones.map fun z => ⟨z, .waiting, none⟩) ⟨0, false⟩ u)) :=
    ⟨free, taken.asks free.distinct (fun z mem => ⟨free.free z mem, (free.nothing z).1⟩) c, rfl, rfl, rfl, unplaced⟩
  obtain ⟨k, granted, held⟩ := settleZones_asked asking
  refine ⟨_, (requestStanding_unrelated members free.unrelated booking priority).trans
    ((if_neg (by rw [room]; decide)).trans ?_), granted.work, fun z mem => by rw [granted.zone]; exact held z mem⟩
  have all : (settleZones u [] (forEach zones (requestStandingZone u.arb.stamp c)
      (takePool c .standing priority (some booking) (zones.map fun z => ⟨z, .waiting, none⟩) ⟨0, false⟩ u))).allGranted
      (.pool u.arb.stamp) = true := by
    unfold State.allGranted
    rw [show ClaimRef.pool u.arb.stamp = .pool (x.grantedIn _).stamp from rfl, granted.claimZones, List.all_eq_true]
    intro cz mem
    obtain ⟨cz, inside, rfl⟩ := List.mem_map.mp mem
    obtain ⟨z, named, rfl⟩ := List.mem_map.mp inside
    unfold ClaimZone.grantedIn
    rw [if_pos ((waitingZones_asked asking).mpr named)]
    rfl
  dsimp only
  rw [all]
  rfl

/-! ## A channel that a computation is offered to -/

theorem active_iff (ch : Channel) : ch.active = true ↔ ch.state = .active := beq_iff_eq

/-- A channel that does not run carries out nothing. -/
theorem runChannel_idle (h : (u.channel c).state ≠ .active) : runChannel c u = u := by
  have due : u.channelDue c = false := by
    unfold State.channelDue
    dsimp only
    rw [Bool.eq_false_iff.mpr (fun e => h ((active_iff _).mp e)), Bool.false_and]
  have run (n : Nat) : runSteps c n u = u := by
    cases n with
    | zero => rfl
    | succ n => exact if_neg (by rw [due]; exact Bool.false_ne_true)
  exact run stepBudget

theorem runNew_same (h : (v.channel c).booking = (u.channel c).booking) : runNew c u v = v :=
  if_neg (by rw [h, bne_self_eq_false]; exact Bool.false_ne_true)

theorem runNew_idle (h : (v.channel c).state ≠ .active) : runNew c u v = v := by
  unfold runNew
  rw [runChannel_idle h]
  exact ite_self v

/-- With no booking of the crane READY start gating finds nothing. -/
theorem gate_noneReady (h : u.NoneReady c) : gate c u = u := by
  have none (p : BookingKind → Bool) : u.firstReady? c p = Option.none := by
    unfold State.firstReady?
    rw [List.filter_eq_nil_iff.mpr]
    intro b mem ready
    obtain ⟨⟨own, ready⟩, -⟩ := (Bool.and_eq_true_iff.trans (and_congr_left fun _ => Bool.and_eq_true_iff)).mp ready
    exact h b mem (beq_iff_eq.mp own) (beq_iff_eq.mp ready)
  unfold gate
  rw [none, none]
  exact ite_self u

theorem gateAndRun_noneReady (h : u.NoneReady c) : gateAndRun c u = u := by
  unfold gateAndRun
  rw [gate_noneReady h]
  exact runNew_same rfl

/-- The channel's CLAIM step stands ALREADY_WAITING while the channel runs. -/
structure State.Retries (u : State) (c : Slot) (b : Booking) (zs : List Nat) : Prop where
  active : (u.channel c).state = .active
  waits : (u.channel c).phase = .waitingClaim
  claim : (u.channel c).claim = some .alreadyWaiting
  current : u.current? c = some b
  step : ∃ limit o, u.step? c = some (.claim zs limit o)

theorem retryAlreadyWaiting_self (h : (u.channel c).state ≠ .active ∨ (u.channel c).phase ≠ .waitingClaim ∨
    (u.channel c).claim ≠ some .alreadyWaiting) : retryAlreadyWaiting c u = u := by
  refine if_neg fun e => ?_
  obtain ⟨⟨active, waits⟩, claim⟩ := (Bool.and_eq_true_iff.trans (and_congr_left fun _ => Bool.and_eq_true_iff)).mp e
  rcases h with h | h | h
  · exact h ((active_iff _).mp active)
  · exact h (beq_iff_eq.mp waits)
  · exact h (beq_iff_eq.mp claim)

theorem State.Retries.retry {zs : List Nat} (h : u.Retries c b zs) :
    retryAlreadyWaiting c u = runNew c u (sendClaim c b zs u) := by
  obtain ⟨limit, o, step⟩ := h.step
  refine (if_pos ?_).trans ?_
  · rw [(active_iff _).mpr h.active, h.waits, h.claim]
    rfl
  · unfold resendClaim
    rw [h.current, step]

theorem awaitsPose_iff : u.awaitsPose c = true ↔ (u.channel c).state = .active ∧ (u.channel c).phase = .waitingPose :=
  Bool.and_eq_true_iff.trans (and_congr (active_iff _) beq_iff_eq)

/-- A channel that does not wait for a pose is not offered one. -/
theorem judgeAwait_self (p : Pose) (a : State)
    (h : (u.channel c).state ≠ .active ∨ (u.channel c).phase ≠ .waitingPose) : judgeAwait c p a u = u := by
  have awaits : u.awaitsPose c = false := Bool.eq_false_iff.mpr fun e =>
    h.elim (fun k => k (awaitsPose_iff.mp e).1) (fun k => k (awaitsPose_iff.mp e).2)
  exact if_neg (by rw [awaits, Bool.false_and, Bool.false_and, Bool.false_and]; exact Bool.false_ne_true)

/-- The channel waited in this AWAIT step before the computation. -/
def Waited (c : Slot) (a u : State) : Prop :=
  (a.channel c).state = .active ∧ (a.channel c).phase = .waitingPose ∧ (a.channel c).booking = (u.channel c).booking ∧
    (a.channel c).step = (u.channel c).step

theorem judgeAwait_waiting {r : CraneRecord} {cond : AwaitCond} {limit : Nat} {o : OnTimeout} (p : Pose) (a : State)
    (active : (u.channel c).state = .active) (waits : (u.channel c).phase = .waitingPose) (current : u.current? c = some b)
    (step : u.step? c = some (.await cond limit o)) (record : u.record? c = some r) :
    (Waited c a u → awaitHolds b r p cond = true →
      judgeAwait c p a u = completeStep c ((u.channel c).step + 1) u) ∧
    (¬ Waited c a u ∨ awaitHolds b r p cond = false → judgeAwait c p a u = u) := by
  have offered : (u.awaitsPose c && a.awaitsPose c && (u.channel c).booking == (a.channel c).booking &&
      (u.channel c).step == (a.channel c).step) = true ↔ Waited c a u := by
    rw [awaitsPose_iff.mpr ⟨active, waits⟩, Bool.true_and, Bool.and_eq_true, Bool.and_eq_true, awaitsPose_iff, beq_iff_eq,
      beq_iff_eq]
    exact ⟨fun ⟨⟨⟨x, y⟩, z⟩, w⟩ => ⟨x, y, z.symm, w.symm⟩, fun ⟨x, y, z, w⟩ => ⟨⟨⟨x, y⟩, z.symm⟩, w.symm⟩⟩
  have judged : Waited c a u → judgeAwait c p a u =
      if awaitHolds b r p cond then completeStep c ((u.channel c).step + 1) u else u := fun waited => by
    refine (if_pos (offered.mpr waited)).trans ?_
    rw [current, step, record]
  refine ⟨fun waited met => (judged waited).trans (if_pos met), fun h => ?_⟩
  by_cases waited : Waited c a u
  · exact (judged waited).trans (if_neg (Bool.eq_false_iff.mp (h.resolve_left (not_not.mpr waited))))
  · exact if_neg fun e => waited (offered.mp e)

/-! ## The retry of a CLAIM step -/

section
variable {zs : List Nat} (inWindow : b.windowEnded = false) (members : u.Members c (stepZones zs))
include inWindow members

theorem sendClaim_alreadyWaiting (waits : u.alreadyWaits c (stepZones zs) = true) :
    sendClaim c b zs u = claimWaits c .alreadyWaiting u := by
  refine (if_neg (Bool.eq_false_iff.mp inWindow)).trans ?_
  rw [requestStanding_alreadyWaiting members waits]

theorem sendClaim_noRecord (h : u.Unrelated c (stepZones zs)) (full : 96 ≤ u.arb.pool.length) :
    sendClaim c b zs u = claimWaits c .noRecord u := by
  refine (if_neg (Bool.eq_false_iff.mp inWindow)).trans ?_
  rw [requestStanding_noRecord members h full]

theorem sendClaim_granted (free : u.AllFree c (stepZones zs))
    (unplaced : (u.channel c).claim ≠ some (.placed u.arb.stamp)) :
    ∃ v, sendClaim c b zs u = completeStep c ((v.channel c).step + 1) v ∧ Work .claims u v ∧
      ∀ z ∈ stepZones zs, (v.zone z).holding = .held c (.pool u.arb.stamp) := by
  obtain ⟨v, granted, work, held⟩ := requestStanding_granted members free unplaced b.number b.priority
  refine ⟨v, (if_neg (Bool.eq_false_iff.mp inWindow)).trans ?_, work, held⟩
  rw [granted]

end

theorem updChannel_bookings (c : Slot) (f : Channel → Channel) (s : State) : (updChannel c f s).bookings = s.bookings :=
  markIf_bookings ..

theorem completeStep_channel (next : Nat) (u : State) :
    (completeStep c next u).channel c = (u.channel c).completed next := (updChannel_channel ..).trans (if_pos rfl)

theorem completeStep_bookings (next : Nat) (u : State) : (completeStep c next u).bookings = u.bookings :=
  markIf_bookings ..

theorem claimWaits_channel (claim : ChannelClaim) (u : State) : (claimWaits c claim u).channel c =
    { u.channel c with phase := .waitingClaim, claim := some claim, retryDue := false } :=
  (updChannel_channel ..).trans (if_pos rfl)

theorem claimWaits_bookings (claim : ChannelClaim) (u : State) : (claimWaits c claim u).bookings = u.bookings :=
  markIf_bookings ..

/-- The end of a booking that returns to none: its entries and holdings go, it is ended, and the channel becomes IDLE. -/
theorem endBooking_idles {n : Nat} {st : BookingState} {out : BookingOutcome} (found : u.booking? n = some b)
    (returns : b.returnsTo = none) : endBooking c n st out u = idleAndGate c (endSteps n st out u) := by
  unfold endBooking
  rw [found]
  dsimp only
  rw [returns]
  rfl

/-- What is in the table after a booking has ended. -/
theorem mem_endSteps {n : Nat} {st : BookingState} {out : BookingOutcome} {b' : Booking}
    (mem : b' ∈ (endSteps n st out u).bookings) :
    (b' ∈ u.bookings ∧ b'.number ≠ n) ∨ ∃ b, u.booking? n = some b ∧
      b' = { b with state := st, outcome := some out, returnsTo := none, saved := none } := by
  have kept : (forgetLosses n (releaseBookingZones n allZones (withdrawBooking n u))).bookings = u.bookings := by
    have work := releaseBookingZones_work (arbiter_arbitrates False) n allZones
      (withdrawBooking_work (arbiter_arbitrates False) n (.refl (s := u)))
    rw [← work.arbiter_bookings]
    unfold forgetLosses
    split
    · exact updChannel_bookings ..
    · rfl
  have found := mem_updBooking (s := forgetLosses n (releaseBookingZones n allZones (withdrawBooking n u)))
    (f := fun b => { b with state := st, outcome := some out, returnsTo := none, saved := none }) (fun _ => rfl) mem
  unfold State.booking? at found ⊢
  rw [kept] at found
  exact found

/-- Past its window the booking fails, the channel becomes IDLE, and nothing starts on it. -/
theorem State.Retries.windowEnded {zs : List Nat} (h : u.Retries c b zs) (ended : b.windowEnded = true)
    (returns : b.returnsTo = none) (none : u.NoneReady c) :
    ∃ v, retryAlreadyWaiting c u = v ∧ (v.channel c).state = .idle ∧ v.NoneReady c ∧
      ∀ b' ∈ v.bookings, b'.number = b.number → b'.state = .failed ∧
        b'.outcome = some ⟨.windowEnded, some (u.channel c).step⟩ := by
  obtain ⟨booking, found⟩ := current?_some h.current
  let w := updChannel c Channel.idled (endSteps b.number .failed ⟨.windowEnded, some (u.channel c).step⟩ u)
  have members {b' : Booking} (mem : b' ∈ w.bookings) : (b' ∈ u.bookings ∧ b'.number ≠ b.number) ∨
      (b'.state = .failed ∧ b'.outcome = some ⟨.windowEnded, some (u.channel c).step⟩) := by
    have bookings : w.bookings = (endSteps b.number .failed ⟨.windowEnded, some (u.channel c).step⟩ u).bookings :=
      updChannel_bookings ..
    rw [bookings] at mem
    refine (mem_endSteps mem).imp id ?_
    rintro ⟨x, -, rfl⟩
    exact ⟨rfl, rfl⟩
  have ready : w.NoneReady c := fun b' mem own => (members mem).elim (fun k => none b' k.1 own)
    (fun k => by rw [k.1]; decide)
  have idle : (w.channel c).state = .idle := by
    rw [show w.channel c = Channel.idled _ from (updChannel_channel ..).trans (if_pos rfl)]
    rfl
  have sent : sendClaim c b zs u = w := by
    refine (if_pos ended).trans ?_
    unfold endCurrent
    rw [booking]
    dsimp only
    rw [endBooking_idles found returns]
    exact gate_noneReady ready
  refine ⟨w, ?_, idle, ready, fun b' mem number => ((members mem).resolve_left fun k => k.2 number)⟩
  rw [h.retry, sent]
  exact runNew_idle (by rw [idle]; decide)

/-! ## The whole event -/

theorem stepZones_nodup (zs : List Nat) : (stepZones zs).Nodup := by
  have zones : allZones.Nodup := by decide
  exact List.Nodup.filter _ zones

/-- What stage 3 comes to when the offer leaves v: nothing starts after it. -/
theorem acceptPose_offered {r : CraneRecord} {p : Pose} (operate : s.geo.mode = .operate)
    (online : (s.crane c).state ≠ .offline)
    (offered : judgeAwait c p (Parts.atStage3 c p s) (retryAlreadyWaiting c (compute c r p (Parts.atStage3 c p s))) = v)
    (gated : (s.crane c).state = .inService ∨ v.NoneReady c) : acceptPose c r p (nextEvent s) = v := by
  rw [acceptPose_eq, poseStage3_operate r p ((atStage3_work c p s).geo ▸ operate) (atStage3_online c p s online), offered]
  split
  · rename_i h
    exact gateAndRun_noneReady (gated.resolve_left h.2)
  · rfl


/-- What the offer of a computation to the channel leaves is the state t but for its port. -/
def Offered (c : Slot) (p : Pose) (a u t : State) : Prop :=
  ∀ v, judgeAwait c p a (retryAlreadyWaiting c u) = v → (u.NoneReady c → v.NoneReady c) → SameButPort v t

theorem noneReady_of_bookings (e : v.bookings = u.bookings) : u.NoneReady c → v.NoneReady c :=
  fun h b mem => h b (e ▸ mem)

theorem poseReport_offered {f : PoseFrame} {r : CraneRecord} {p : Pose} (on : s.power.on = true) (quiet : s.NoTake)
    (included : (s.slotOf c).excluded = false) (record : s.record? c = some r) (fresh : Parts.Fresh (s.link c) f)
    (judged : judgePose r s.now f = .valid p) (operate : s.geo.mode = .operate) (online : (s.crane c).state ≠ .offline)
    (gated : (s.crane c).state = .inService ∨ (compute c r p (Parts.atStage3 c p s)).NoneReady c) :
    ∃ t, exec (.poseReport c f) s = .next t ∧
      Offered c p (Parts.atStage3 c p s) (compute c r p (Parts.atStage3 c p s)) t := by
  have taken : takePose c f (nextEvent s) = acceptPose c r p (nextEvent s) :=
    takePose_valid included record fresh judged
  obtain ⟨t, next, left⟩ := event_work_leaves (A := .all) (i := .poseReport c f) (takePose c f) rfl on quiet
    (taken ▸ acceptPose_work (c := c) r p (nextEvent s))
  refine ⟨t, next, fun v offered ready => ?_⟩
  rw [taken, acceptPose_offered operate online offered (gated.imp id ready)] at left
  exact left

/-- The link stays LIVE through the computation. -/
theorem compute_live {r : CraneRecord} {p : Pose} (operate : s.geo.mode = .operate)
    (online : (s.crane c).state ≠ .offline) : ((compute c r p (Parts.atStage3 c p s)).link c).state = .live := by
  have after := acceptPose_fromComputation c r p s operate online
  rw [← (acceptPose_link c r p (nextEvent s)).1]
  exact (Work.link_keeps (fun l => l.state) c (fun _ _ ok => by rw [ok.1]) after).symm

section
variable {a : State} {p : Pose} (offered : Offered c p a u t)
include offered

theorem Offered.await {r : CraneRecord} {cond : AwaitCond} {limit : Nat} {o : OnTimeout}
    (active : (u.channel c).state = .active) (waits : (u.channel c).phase = .waitingPose) (current : u.current? c = some b)
    (step : u.step? c = some (.await cond limit o)) (record : u.record? c = some r) :
    (Waited c a u → awaitHolds b r p cond = true → t.channel c = (u.channel c).completed ((u.channel c).step + 1)) ∧
    (¬ Waited c a u ∨ awaitHolds b r p cond = false → t.channel c = u.channel c) := by
  have noRetry : retryAlreadyWaiting c u = u := retryAlreadyWaiting_self (.inr (.inl (by rw [waits]; decide)))
  obtain ⟨completes, keeps⟩ := judgeAwait_waiting p a active waits current step record
  refine ⟨fun waited met => ?_, fun not => ?_⟩
  · rw [(offered _ (by rw [noRetry]; exact completes waited met)
      (noneReady_of_bookings (completeStep_bookings ..))).channel, completeStep_channel]
  · exact (offered _ (by rw [noRetry]; exact keeps not) id).channel c

theorem Offered.other (h : (u.channel c).state ≠ .active ∨ ((u.channel c).phase ≠ .waitingPose ∧
    ((u.channel c).phase ≠ .waitingClaim ∨ (u.channel c).claim ≠ some .alreadyWaiting))) :
    t.channel c = u.channel c := by
  refine (offered u ?_ id).channel c
  rw [retryAlreadyWaiting_self (h.imp id fun h => h.2)]
  exact judgeAwait_self p a (h.imp id fun h => h.1)

variable {zs : List Nat} (retries : u.Retries c b zs)
include retries

theorem Offered.windowEnded (ended : b.windowEnded = true) (returns : b.returnsTo = none) (none : u.NoneReady c) :
    (t.channel c).state = .idle ∧ t.EndedAs b.number .failed ⟨.windowEnded, some (u.channel c).step⟩ := by
  obtain ⟨v, retried, idle, ready, failed⟩ := retries.windowEnded ended returns none
  have same := offered v (by rw [retried]; exact judgeAwait_self p a (.inl (by rw [idle]; decide))) fun _ => ready
  refine ⟨(congrArg Channel.state (same.channel c)).trans idle, fun b' found => ?_⟩
  obtain ⟨mem, number⟩ := booking?_some found
  exact failed b' (same.bookingsFrom b' mem) number

/-- The request is sent again and its booking stays on the channel, which does not wait for a pose. -/
theorem Offered.sends (sent : sendClaim c b zs u = v) (e : v.bookings = u.bookings)
    (booking : (v.channel c).booking = (u.channel c).booking) (phase : (v.channel c).phase ≠ .waitingPose) :
    SameButPort v t := by
  refine offered v ?_ (noneReady_of_bookings e)
  rw [retries.retry, sent, runNew_same booking]
  exact judgeAwait_self p a (.inr phase)

variable (inWindow : b.windowEnded = false) (members : u.Members c (stepZones zs))
include inWindow members

theorem Offered.alreadyWaiting (waits : u.alreadyWaits c (stepZones zs) = true) :
    t.channel c = { u.channel c with claim := some .alreadyWaiting, retryDue := false } := by
  have same := offered.sends retries (sendClaim_alreadyWaiting inWindow members waits) (claimWaits_bookings ..)
    (by rw [claimWaits_channel]) (by rw [claimWaits_channel]; exact fun e => by cases e)
  rw [same.channel, claimWaits_channel, ← retries.waits]

theorem Offered.noRecord (h : u.Unrelated c (stepZones zs)) (full : 96 ≤ u.arb.pool.length) :
    t.channel c = { u.channel c with claim := some .noRecord, retryDue := false } := by
  have same := offered.sends retries (sendClaim_noRecord inWindow members h full) (claimWaits_bookings ..)
    (by rw [claimWaits_channel]) (by rw [claimWaits_channel]; exact fun e => by cases e)
  rw [same.channel, claimWaits_channel, ← retries.waits]

theorem Offered.granted (free : u.AllFree c (stepZones zs)) :
    t.channel c = (u.channel c).completed ((u.channel c).step + 1) ∧
      ∀ z ∈ stepZones zs, (t.zone z).holding = .held c (.pool u.arb.stamp) := by
  obtain ⟨v, sent, claims, held⟩ := sendClaim_granted (b := b) inWindow members free
    (by rw [retries.claim]; exact fun e => by cases e)
  obtain ⟨-, -, channels, bookings⟩ := claims.claims_readings
  have channel : v.channel c = u.channel c := congrArg (·.get c) channels
  have same := offered.sends retries sent ((completeStep_bookings ..).trans bookings)
    (by rw [completeStep_channel, channel]; rfl) (by rw [completeStep_channel]; exact fun e => by cases e)
  refine ⟨by rw [same.channel, completeStep_channel, channel], fun z mem => ?_⟩
  have arb : t.arb = v.arb := same.arb.trans (markIf_arb ..)
  unfold State.zone
  rw [arb]
  exact held z mem

end

theorem computationIsOffered_holds : Parts.ComputationIsOffered := by
  intro c f r p s a u on quiet included record fresh judged operate online ea eu gated
  subst ea eu
  obtain ⟨t, next, offered⟩ := poseReport_offered on quiet included record fresh judged operate online gated
  have known : (compute c r p (Parts.atStage3 c p s)).record? c = some r :=
    (((atStage3_work c p s).trans
      (compute_work (all_judges _ c) (fun _ _ => trivial) (fun _ _ _ => trivial) r p .refl)).record? c).trans record
  have live := compute_live (r := r) (p := p) operate online
  generalize compute c r p (Parts.atStage3 c p s) = u at *
  refine ⟨t, next, fun b cond limit o active waits current step => offered.await active waits current step known,
    fun b zs limit o active waits claim current step => ?_, offered.other⟩
  have retries : u.Retries c b zs := ⟨active, waits, claim, current, limit, o, step⟩
  refine ⟨offered.windowEnded retries, fun inWindow members => ⟨fun ⟨z, mem, h⟩ => ?_,
    offered.noRecord retries inWindow members, fun nothing pool open_ => ?_⟩⟩
  · exact offered.alreadyWaiting retries inWindow members (alreadyWaits_iff.mpr ⟨z, mem, h.imp id .inr⟩)
  · exact offered.granted retries inWindow members ⟨stepZones_nodup zs, by rw [live]; decide, nothing, pool,
      fun z mem => (open_ z mem).1, fun z mem => (open_ z mem).2⟩

end

/-- Settles O48: the link, the sensor and Crane State keep what stages 1 and 2 give them through the scopes of what follows,
the computation concludes with its record and frame, and a STANDING request for free zones is granted whole. -/
theorem poseIsAccepted : Obligations.PoseIsAccepted :=
  ⟨poseIsTaken_holds, awaitConditions_holds, computationIsOffered_holds⟩

end Sys2Proof.Machine
end

section
/-! SUPPORT. What becomes of a crane's bookings at a LOCKOUT, and a withdrawal that finds nothing waiting. -/

namespace Sys2Proof.Machine

section
variable {s t u v : State} {c : Slot} {n k m : Nat} {b : Booking} {st : BookingState} {out : BookingOutcome}

/-! ## Bookings that have reached a state with an outcome -/

/-- Every booking of a number in a table is in a state with an outcome. -/
def EndedIn (n : Nat) (st : BookingState) (out : BookingOutcome) (l : List Booking) : Prop :=
  ∀ b ∈ l, b.number = n → b.state = st ∧ b.outcome = some out

theorem EndedIn.endedAs {l : List Booking} (h : EndedIn n st out l) (sub : ∀ b ∈ t.bookings, b ∈ l) :
    t.EndedAs n st out := fun b found =>
  h b (sub b (booking?_some found).1) (booking?_some found).2

/-- A change of another booking, or one of neither state nor outcome, keeps it. -/
theorem EndedIn.updBooking {f : Booking → Booking} (h : EndedIn n st out s.bookings)
    (keeps : ∀ b, (f b).number = b.number) (ok : m ≠ n ∨ ∀ b, (f b).state = b.state ∧ (f b).outcome = b.outcome) :
    EndedIn n st out (updBooking m f s).bookings := by
  intro b' mem number
  rcases mem_updBooking keeps mem with ⟨old, -⟩ | ⟨b, found, rfl⟩
  · exact h b' old number
  · obtain ⟨inside, same⟩ := booking?_some found
    rw [keeps] at number
    obtain ⟨state, outcome⟩ := ok.resolve_left (fun other => other (same.symm.trans number)) b
    rw [state, outcome]
    exact h b inside number

theorem EndedIn.forEach {f : Booking → Booking} {l : List Booking} (h : EndedIn n st out s.bookings)
    (keeps : ∀ b, (f b).number = b.number)
    (ok : (∀ a ∈ l, a.number ≠ n) ∨ ∀ b, (f b).state = b.state ∧ (f b).outcome = b.outcome) :
    EndedIn n st out (forEach l (fun a => Machine.updBooking a.number f) s).bookings := by
  induction l generalizing s with
  | nil => exact h
  | cons a l ih =>
    exact ih (h.updBooking keeps (ok.imp (fun o => o a List.mem_cons_self) id))
      (ok.imp (fun o b mem => o b (List.mem_cons_of_mem _ mem)) id)

theorem forEach_updBooking_other {f : Booking → Booking} {l : List Booking} (keeps : ∀ b, (f b).number = b.number)
    (other : ∀ a ∈ l, a.number ≠ k) : (forEach l (fun a => updBooking a.number f) s).booking? k = s.booking? k := by
  induction l generalizing s with
  | nil => rfl
  | cons a l ih =>
    exact (ih fun b mem => other b (List.mem_cons_of_mem _ mem)).trans
      (updBooking_other keeps (other a List.mem_cons_self).symm)

/-- A change made to every booking of a list reaches those in it, once or more often. -/
theorem forEach_updBooking_same {f : Booking → Booking} {l : List Booking} (keeps : ∀ b, (f b).number = b.number)
    (again : ∀ b, f (f b) = f b) (stays : ∀ b, (f b).state.ended = false) (found : s.booking? k = some b)
    (named : ∃ a ∈ l, a.number = k) : (forEach l (fun a => updBooking a.number f) s).booking? k = some (f b) := by
  induction l generalizing s b with
  | nil => exact absurd named (by simp)
  | cons a l ih =>
    show (forEach l _ (updBooking a.number f s)).booking? k = _
    by_cases e : a.number = k
    · subst e
      have first := updBooking_same keeps found (.inr (stays b))
      by_cases more : ∃ a' ∈ l, a'.number = a.number
      · rw [ih first more, again]
      · rw [forEach_updBooking_other keeps (fun a' mem same => more ⟨a', mem, same⟩), first]
    · refine ih ((updBooking_other keeps (fun same => e same.symm)).trans found) ?_
      obtain ⟨a', mem, same⟩ := named
      exact ⟨a', (List.mem_cons.mp mem).resolve_left (fun h => e (h ▸ same)), same⟩

/-! ## The steps of a LOCKOUT -/

/-- Losses forgotten and zones released leave the table alone. -/
theorem releasedBookings (n : Nat) (zones : List ZoneId) (s : State) :
    (forgetLosses n (releaseBookingZones n zones s)).bookings = s.bookings := by
  rw [← (releaseBookingZones_work (arbiter_arbitrates False) n zones (.refl (s := s))).arbiter_bookings]
  unfold forgetLosses
  split
  · exact updChannel_bookings ..
  · rfl

theorem withdrawnBookings (n : Nat) (s : State) : (withdrawBooking n s).bookings = s.bookings :=
  (withdrawBooking_work (arbiter_arbitrates False) n (.refl (s := s))).arbiter_bookings

theorem booking?_congr (e : t.bookings = s.bookings) (k : Nat) : t.booking? k = s.booking? k := by
  unfold State.booking?
  rw [e]

theorem endSteps_endedIn (n : Nat) (st : BookingState) (out : BookingOutcome) (s : State) :
    EndedIn n st out (endSteps n st out s).bookings := by
  intro b' mem number
  rcases mem_endSteps mem with ⟨-, other⟩ | ⟨b, -, rfl⟩
  · exact absurd number other
  · exact ⟨rfl, rfl⟩

/-- An ended booking. -/
def Booking.endsAs (st : BookingState) (out : BookingOutcome) (b : Booking) : Booking :=
  { b with state := st, outcome := some out, returnsTo := none, saved := none }

theorem endSteps_eq (n : Nat) (st : BookingState) (out : BookingOutcome) (s : State) : endSteps n st out s =
    updBooking n (Booking.endsAs st out) (forgetLosses n (releaseBookingZones n allZones (withdrawBooking n s))) := rfl

theorem endSteps_other (h : k ≠ n) : (endSteps n st out s).booking? k = s.booking? k := by
  have bookings := (releasedBookings n allZones (withdrawBooking n s)).trans (withdrawnBookings n s)
  rw [endSteps_eq]
  generalize forgetLosses n _ = v at bookings
  exact (updBooking_other (f := Booking.endsAs st out) (fun _ => rfl) h).trans (booking?_congr bookings k)

/-- The INTERRUPTED booking x of a table, cancelled. -/
def Booking.cancelledAs (x : Booking) (code : OutcomeCode) (b : Booking) : Booking :=
  { b with state := .cancelled, outcome := some ⟨code, x.saved.map (·.step)⟩, saved := none }

/-- A booking that returns to no other any more. -/
def Booking.returnsNot (b : Booking) : Booking := { b with returnsTo := none }

/-- The table as the INTERRUPTED booking has been cancelled, and then the bookings that return to it have been told. -/
theorem cancelInterrupted_bookings (x : Booking) (code : OutcomeCode) (s : State) : ∃ s1 : State,
    s1.bookings = s.bookings ∧ (cancelInterrupted x code s).bookings =
      (forEach ((updBooking x.number (x.cancelledAs code) s1).bookings.filter
          fun u => u.state == .running && u.returnsTo == some x.number)
        (fun u => updBooking u.number Booking.returnsNot) (updBooking x.number (x.cancelledAs code) s1)).bookings := by
  refine ⟨_, releasedBookings x.number allZones s, ?_⟩
  unfold cancelInterrupted
  dsimp only
  exact updChannel_bookings ..

theorem cancelInterrupted_endedIn (x : Booking) (code : OutcomeCode) (s : State) :
    EndedIn x.number .cancelled ⟨code, x.saved.map (·.step)⟩ (cancelInterrupted x code s).bookings := by
  obtain ⟨s1, -, bookings⟩ := cancelInterrupted_bookings x code s
  rw [bookings]
  refine EndedIn.forEach (fun b' mem number => ?_) (fun _ => rfl) (.inr fun _ => ⟨rfl, rfl⟩)
  rcases mem_updBooking (f := x.cancelledAs code) (fun _ => rfl) mem with ⟨-, other⟩ | ⟨b, -, rfl⟩
  · exact absurd number other
  · exact ⟨rfl, rfl⟩

/-- A booking that has ended otherwise is not the INTERRUPTED one. -/
theorem EndedIn.cancelInterrupted {x : Booking} (h : EndedIn n st out s.bookings) (mem : x ∈ s.bookings)
    (interrupted : x.state = .interrupted) (not : st ≠ .interrupted) (code : OutcomeCode) :
    EndedIn n st out (cancelInterrupted x code s).bookings := by
  obtain ⟨s1, before, bookings⟩ := cancelInterrupted_bookings x code s
  rw [bookings]
  refine EndedIn.forEach ?_ (fun _ => rfl) (.inr fun _ => ⟨rfl, rfl⟩)
  exact EndedIn.updBooking (before.symm ▸ h) (fun _ => rfl)
    (.inl fun same => not ((h x mem same).1.symm.trans interrupted))

/-- A booking that does not run and is not the INTERRUPTED one stays. -/
theorem cancelInterrupted_other {x : Booking} (other : k ≠ x.number)
    (idle : ∀ b ∈ s.bookings, b.number = k → b.state ≠ .running) (code : OutcomeCode) :
    (cancelInterrupted x code s).booking? k = s.booking? k := by
  obtain ⟨s1, before, bookings⟩ := cancelInterrupted_bookings x code s
  rw [booking?_congr bookings, forEach_updBooking_other (f := Booking.returnsNot) (fun _ => rfl)]
  · rw [updBooking_other (f := x.cancelledAs code) (fun _ => rfl) other]
    exact booking?_congr before k
  · intro a mem number
    obtain ⟨inside, running⟩ := List.mem_filter.mp mem
    rcases mem_updBooking (f := x.cancelledAs code) (fun _ => rfl) inside with ⟨old, -⟩ | ⟨b, -, rfl⟩
    · rw [before] at old
      exact idle a old number (beq_iff_eq.mp (Bool.and_eq_true_iff.mp running).1)
    · cases running

theorem mem_bookingsOf : b ∈ s.bookingsOf c ↔ b ∈ s.bookings ∧ b.crane = c :=
  List.mem_filter.trans (and_congr_right fun _ => beq_iff_eq)

theorem mem_readyOf : (b ∈ (s.bookingsOf c).filter fun b => b.state == .ready) ↔
    (b ∈ s.bookings ∧ b.crane = c) ∧ b.state = .ready :=
  List.mem_filter.trans (and_congr mem_bookingsOf beq_iff_eq)

/-- A booking that is PENDING. -/
def Booking.pends (b : Booking) : Booking := { b with state := .pending }

theorem holdBack_eq (c : Slot) (s : State) : holdBack c s = forEach ((s.bookingsOf c).filter fun b => b.state == .ready)
    (fun b => updBooking b.number Booking.pends) s := rfl

theorem EndedIn.holdBack (h : EndedIn n st out s.bookings) (not : st ≠ .ready) (c : Slot) :
    EndedIn n st out (holdBack c s).bookings := by
  rw [holdBack_eq]
  refine EndedIn.forEach h (fun _ => rfl) (.inl fun a mem number => ?_)
  obtain ⟨⟨inside, -⟩, ready⟩ := mem_readyOf.mp mem
  exact not ((h a inside number).1.symm.trans ready)

/-- A READY booking of the crane becomes PENDING. -/
theorem holdBack_ready (found : s.booking? k = some b) (own : b.crane = c) (ready : b.state = .ready) :
    (holdBack c s).booking? k = some { b with state := .pending } := by
  obtain ⟨inside, number⟩ := booking?_some found
  rw [holdBack_eq]
  exact forEach_updBooking_same (f := Booking.pends) (fun _ => rfl) (fun _ => rfl) (fun _ => rfl) found
    ⟨b, mem_readyOf.mpr ⟨⟨inside, own⟩, ready⟩, number⟩

/-! ## A LOCKOUT's bookings put together -/

/-- The booking on the channel has failed. -/
def endRunning (c : Slot) (s : State) : State :=
  match (s.channel c).booking with
  | some n => endSteps n .failed ⟨.lockout, some (s.channel c).step⟩ s
  | none => s

/-- The INTERRUPTED booking of the crane has been cancelled. -/
def endInterrupted (c : Slot) (s : State) : State :=
  match (s.bookingsOf c).find? fun b => b.state == .interrupted with
  | some x => cancelInterrupted x .lockout s
  | none => s

theorem lockoutBookings_eq (c : Slot) (s : State) :
    lockoutBookings c s = holdBack c (updChannel c Channel.idled (endInterrupted c (endRunning c s))) := rfl

theorem mem_endRunning {b : Booking} (mem : b ∈ (endRunning c s).bookings) :
    (b ∈ s.bookings ∧ (s.channel c).booking ≠ some b.number) ∨ b.state = .failed := by
  unfold endRunning at mem
  split at mem
  · rename_i n e
    rcases mem_endSteps mem with ⟨old, other⟩ | ⟨x, -, rfl⟩
    · exact .inl ⟨old, fun same => other (Option.some.inj (e.symm.trans same)).symm⟩
    · exact .inr rfl
  · rename_i e
    exact .inl ⟨mem, by rw [e]; exact fun same => by cases same⟩

theorem endRunning_other (h : (s.channel c).booking ≠ some k) : (endRunning c s).booking? k = s.booking? k := by
  unfold endRunning
  split
  · rename_i n e
    exact endSteps_other fun same => h (same ▸ e)
  · rfl

theorem EndedIn.endInterrupted (h : EndedIn n st out s.bookings) (not : st ≠ .interrupted) (c : Slot) :
    EndedIn n st out (endInterrupted c s).bookings := by
  unfold Machine.endInterrupted
  split
  · rename_i x found
    exact h.cancelInterrupted (mem_bookingsOf.mp (List.mem_of_find?_eq_some found)).1
      (beq_iff_eq.mp (List.find?_some (p := fun b : Booking => b.state == .interrupted) found)) not .lockout
  · exact h

theorem EndedIn.lockout (h : EndedIn n st out (Machine.endInterrupted c (endRunning c s)).bookings) (not : st ≠ .ready) :
    EndedIn n st out (lockoutBookings c s).bookings := by
  rw [lockoutBookings_eq]
  refine EndedIn.holdBack ?_ not c
  rw [updChannel_bookings]
  exact h

/-- The booking on the channel has FAILED (R138). -/
theorem lockoutBookings_current (booking : (s.channel c).booking = some n) :
    EndedIn n .failed ⟨.lockout, some (s.channel c).step⟩ (lockoutBookings c s).bookings := by
  refine EndedIn.lockout (EndedIn.endInterrupted ?_ (by decide) c) (by decide)
  unfold endRunning
  rw [booking]
  exact endSteps_endedIn n .failed _ s

theorem booking?_unique (unique : s.NumbersUnique) (mem : b ∈ s.bookings) : s.booking? b.number = some b := by
  obtain ⟨b', found⟩ : ∃ b', s.booking? b.number = some b' := by
    cases e : s.booking? b.number with
    | none => exact absurd rfl (booking?_none e mem)
    | some b' => exact ⟨b', rfl⟩
  obtain ⟨mem', number⟩ := booking?_some found
  rw [found, List.inj_on_of_nodup_map unique mem' mem number]

/-- The crane's one INTERRUPTED booking is CANCELLED (R138). -/
theorem lockoutBookings_interrupted {x : Booking} (unique : s.NumbersUnique) (mem : x ∈ s.bookings) (own : x.crane = c)
    (interrupted : x.state = .interrupted) (off : (s.channel c).booking ≠ some x.number)
    (only : ∀ y ∈ s.bookings, y.crane = c → y.state = .interrupted → y = x) :
    EndedIn x.number .cancelled ⟨.lockout, x.saved.map (·.step)⟩ (lockoutBookings c s).bookings := by
  refine EndedIn.lockout ?_ (by decide)
  have kept : x ∈ (endRunning c s).bookings :=
    (booking?_some ((endRunning_other off).trans (booking?_unique unique mem))).1
  unfold Machine.endInterrupted
  cases found : ((endRunning c s).bookingsOf c).find? fun b => b.state == .interrupted with
  | none => exact absurd (beq_iff_eq.mpr interrupted) (List.find?_eq_none.mp found x (mem_bookingsOf.mpr ⟨kept, own⟩))
  | some y =>
    obtain ⟨inside, ownY⟩ := mem_bookingsOf.mp (List.mem_of_find?_eq_some found)
    have interruptedY : y.state = .interrupted :=
      beq_iff_eq.mp (List.find?_some (p := fun b : Booking => b.state == .interrupted) found)
    have old := (mem_endRunning inside).resolve_right (by rw [interruptedY]; decide)
    rw [only y old.1 ownY interruptedY]
    exact cancelInterrupted_endedIn x .lockout _

/-- A READY booking of the crane is PENDING (R130). -/
theorem lockoutBookings_ready (unique : s.NumbersUnique) (mem : b ∈ s.bookings) (own : b.crane = c)
    (ready : b.state = .ready) (off : (s.channel c).booking ≠ some b.number) :
    (lockoutBookings c s).booking? b.number = some { b with state := .pending } := by
  have only {y : Booking} (inside : y ∈ (endRunning c s).bookings) (number : y.number = b.number) : y.state = .ready ∨
      y.state = .failed := by
    refine (mem_endRunning inside).imp (fun old => ?_) id
    rw [List.inj_on_of_nodup_map unique old.1 mem number]
    exact ready
  rw [lockoutBookings_eq]
  refine holdBack_ready ?_ own ready
  rw [booking?_congr (updChannel_bookings ..), ← booking?_unique unique mem, ← endRunning_other off]
  unfold Machine.endInterrupted
  split
  · rename_i x found
    have inside := (mem_bookingsOf.mp (List.mem_of_find?_eq_some found)).1
    have interrupted : x.state = .interrupted :=
      beq_iff_eq.mp (List.find?_some (p := fun b : Booking => b.state == .interrupted) found)
    refine cancelInterrupted_other (fun same => ?_) (fun y inY number => ?_) .lockout
    · rcases only inside same.symm with e | e <;> rw [e] at interrupted <;> cases interrupted
    · rcases only inY number with e | e <;> rw [e] <;> decide
  · rfl

end
end Sys2Proof.Machine
end

section
/-! SUPPORT and the statement O45: ESTOP, a cause that locks a crane out, and the order of the keys it marks. -/

namespace Sys2Proof.Machine

section
variable {s t u v : State} {c d : Slot} {cause : FaultCause} {cell : Option CellPos}

/-! ## A withdrawal that finds nothing waiting -/

theorem heldMarked_congr (arb : t.arb = s.arb) (z : ZoneId) : t.heldMarked z = s.heldMarked z := by
  unfold State.heldMarked State.pendingIn State.claimZones State.poolRec? State.storm State.zone
  rw [arb]

/-- Records and occupancy sets that have not changed make no grant test due. -/
theorem settleZones_unchanged (arb : t.arb = s.arb) (occupancy : ∀ d, (t.engine d).occupancy = (s.engine d).occupancy) :
    settleZones s [] t = t := by
  have none : dueAfter s t [] = [] := by
    refine List.eq_nil_iff_forall_not_mem.mpr fun z mem => ?_
    have due := mem_zoneSet.mp mem
    unfold testChanged at due
    rw [heldMarked_congr arb] at due
    unfold State.zone at due
    simp [arb, occupancy] at due
  unfold settleZones
  dsimp only
  rw [none, grantAll_none]
  · rfl
  · rfl

/-- No claim of the crane waits in any zone. -/
def State.WaitsNowhere (s : State) (c : Slot) : Prop :=
  (∀ r ∈ s.arb.pool, r.crane = c → ∀ cz ∈ r.zones, cz.status ≠ .waiting) ∧ ∀ cz ∈ (s.storm c).zones, cz.status ≠ .waiting

theorem withdrawCrane_nothing (h : s.WaitsNowhere c) :
    withdrawCrane c s = updEngine c (fun e => { e with transit := [] }) s := by
  obtain ⟨pool, storm⟩ := h
  have stamps : (s.arb.pool.filter fun r => r.crane == c && r.zones.any fun cz => cz.status == .waiting) = [] := by
    refine List.filter_eq_nil_iff.mpr fun r mem waits => ?_
    obtain ⟨own, waits⟩ := Bool.and_eq_true_iff.mp waits
    obtain ⟨cz, inside, waits⟩ := List.any_eq_true.mp waits
    exact pool r mem (beq_iff_eq.mp own) cz inside (beq_iff_eq.mp waits)
  have zones : s.waitingZones (.storm c) = [] := by
    refine List.eq_nil_iff_forall_not_mem.mpr fun z mem => ?_
    obtain ⟨cz, inside, -, waits⟩ := (mem_waitingZones s).mp mem
    exact storm cz inside waits
  unfold withdrawCrane
  rw [stamps]
  show settleZones s [] (updEngine c _ (forEach (s.waitingZones (.storm c)) _ s)) = _
  rw [zones]
  refine settleZones_unchanged rfl fun d => ?_
  show ((updEngine c _ s).engine d).occupancy = _
  rw [updEngine_engine]
  split
  · rename_i same
    rw [same]
  · rfl

/-! ## The work of a LOCKOUT -/

/-- The scope of a crane that is being locked out, its record and recovery flag apart. -/
def Scope.ending : Scope where
  arb := True
  bookings := True
  engine _ e e' := (∃ l, e' = { e with evict := l }) ∨ ∃ l, e' = { e with transit := l }
  channel _ ch ch' := ch'.reasons = ch.reasons ∧ (ch.booking = none → ch'.booking = none)
  link _ _ _ := False
  wind _ _ _ := False
  status _ _ _ := False

theorem ending_arbitrates : Scope.ending.Arbitrates :=
  ⟨trivial, fun _ _ l => .inl ⟨l, rfl⟩, fun _ _ _ told => ⟨told.2.1, fun none => told.1.trans none⟩⟩

theorem updBooking_ending (n : Nat) (f : Booking → Booking) (h : Work .ending s t) : Work .ending s (updBooking n f t) :=
  updBooking_work n f trivial h

theorem updChannel_ending (c : Slot) {f : Channel → Channel} (reasons : ∀ ch, (f ch).reasons = ch.reasons)
    (booking : ∀ ch, ch.booking = none → (f ch).booking = none) (h : Work .ending s t) :
    Work .ending s (updChannel c f t) := updChannel_work c f ⟨reasons _, booking _⟩ h

theorem released_ending (n : Nat) (zones : List ZoneId) (h : Work .ending s t) :
    Work .ending s (forgetLosses n (releaseBookingZones n zones t)) := by
  have released := releaseBookingZones_work ending_arbitrates n zones h
  generalize releaseBookingZones n zones t = v at released
  unfold forgetLosses
  split
  · exact updChannel_ending _ (fun _ => rfl) (fun _ => id) released
  · exact released

theorem endRunning_ending (c : Slot) (s : State) : Work .ending s (endRunning c s) := by
  unfold endRunning
  split
  · rename_i n _
    rw [endSteps_eq]
    exact updBooking_ending n _ (released_ending n allZones (withdrawBooking_work ending_arbitrates n .refl))
  · exact .refl

theorem endInterrupted_ending (c : Slot) (h : Work .ending s t) : Work .ending s (endInterrupted c t) := by
  unfold endInterrupted
  split
  · rename_i x _
    have released := released_ending x.number allZones h
    unfold cancelInterrupted
    dsimp only
    generalize forgetLosses x.number _ = v at released
    exact updChannel_ending _ (fun _ => rfl) (fun _ => id)
      (forEach_work _ _ (fun _ _ k => updBooking_ending _ _ k) (updBooking_ending _ _ released))
  · exact h

theorem holdBack_ending (c : Slot) (h : Work .ending s t) : Work .ending s (holdBack c t) :=
  forEach_work _ _ (fun _ _ k => updBooking_ending _ _ k) h

theorem lockoutBookings_ending (c : Slot) (s : State) : Work .ending s (lockoutBookings c s) := by
  rw [lockoutBookings_eq]
  exact holdBack_ending c (updChannel_ending c (fun _ => rfl) (fun _ _ => rfl)
    (endInterrupted_ending c (endRunning_ending c s)))

theorem withdrawCrane_ending (c : Slot) (h : Work .ending s t) : Work .ending s (withdrawCrane c t) :=
  withdrawCrane_work ending_arbitrates c (fun _ l => .inr ⟨l, rfl⟩) h

section
variable (h : Work .ending s t)
include h

theorem Work.ending_links : t.links = s.links := h.links_eq fun _ _ _ => id
theorem Work.ending_status : t.status = s.status := h.status_eq fun _ _ _ => id

theorem Work.ending_reasons (c : Slot) : (t.channel c).reasons = (s.channel c).reasons :=
  Work.channel_keeps (A := .ending) (fun ch => ch.reasons) c (fun _ _ ok => ok.1) h

theorem Work.ending_unbooked (free : (s.channel c).booking = none) : (t.channel c).booking = none :=
  Work.channel_rel (A := .ending) (fun ch ch' => ch.booking = none → ch'.booking = none) (fun _ => id)
    (fun _ _ _ p q free => q (p free)) c (fun _ _ ok => ok.2) h free

theorem Work.ending_recovery (c : Slot) : (t.engine c).recovery = (s.engine c).recovery :=
  Work.engine_keeps (A := .ending) (fun e => e.recovery) c
    (fun _ _ ok => by rcases ok with ⟨l, rfl⟩ | ⟨l, rfl⟩ <;> rfl) h

end

/-- Only the booking table changes. -/
def Scope.table : Scope where
  arb := False
  bookings := True
  engine _ _ _ := False
  channel _ _ _ := False
  link _ _ _ := False
  wind _ _ _ := False
  status _ _ _ := False

theorem holdBack_table (c : Slot) (h : Work .table s t) : Work .table s (holdBack c t) :=
  forEach_work _ _ (fun _ _ k => updBooking_work _ _ trivial k) h

theorem Work.table_arb (h : Work .table s t) : t.arb = s.arb := h.arb_eq id

/-- The channel of a crane that has been locked out is IDLE. -/
theorem lockoutBookings_idle (c : Slot) (s : State) : ((lockoutBookings c s).channel c).booking = none := by
  rw [lockoutBookings_eq]
  refine (holdBack_ending c .refl).ending_unbooked ?_
  rw [updChannel_channel, if_pos rfl]
  rfl

/-- A booking that neither runs nor is interrupted leaves the arbiter alone. -/
theorem lockoutBookings_arb (free : (s.channel c).booking = none)
    (uninterrupted : ∀ b ∈ s.bookings, b.crane = c → b.state ≠ .interrupted) :
    lockoutBookings c s = holdBack c (updChannel c Channel.idled s) ∧ (lockoutBookings c s).arb = s.arb := by
  have running : endRunning c s = s := by
    unfold endRunning
    rw [free]
  have interrupted : endInterrupted c s = s := by
    unfold endInterrupted
    have no : ((s.bookingsOf c).find? fun b => b.state == .interrupted) = Option.none :=
      List.find?_eq_none.mpr fun b mem e =>
        uninterrupted b (mem_bookingsOf.mp mem).1 (mem_bookingsOf.mp mem).2 (beq_iff_eq.mp e)
    rw [no]
  have same : lockoutBookings c s = holdBack c (updChannel c Channel.idled s) := by
    rw [lockoutBookings_eq, running, interrupted]
  refine ⟨same, ?_⟩
  have arb : (updChannel c Channel.idled s).arb = s.arb := markIf_arb ..
  rw [same]
  exact (holdBack_table c .refl).table_arb.trans arb

/-! ## Numbers stay in use once -/

theorem NumbersUnique.updBooking {n : Nat} {f : Booking → Booking} (h : s.NumbersUnique)
    (keeps : ∀ b, (f b).number = b.number) : (updBooking n f s).NumbersUnique := by
  cases found : s.booking? n with
  | none =>
    rw [updBooking_absent found]
    exact h
  | some b =>
    have number : (f b).number = n := (keeps b).trans (booking?_some found).2
    have mapped : (s.bookings.map fun x => if x.number == n then f b else x).map (·.number) = s.bookings.map (·.number) := by
      rw [List.map_map]
      refine List.map_congr_left fun x _ => ?_
      by_cases e : x.number = n
      · show (if x.number == n then f b else x).number = _
        rw [if_pos (beq_iff_eq.mpr e), number, e]
      · show (if x.number == n then f b else x).number = _
        rw [if_neg (fun k => e (beq_iff_eq.mp k))]
    unfold State.NumbersUnique at h ⊢
    rw [updBooking_bookings found (keeps b)]
    split
    · exact (List.filter_sublist.map _).nodup (mapped.symm ▸ h)
    · exact mapped.symm ▸ h

theorem NumbersUnique.forEach {f : Booking → Booking} (keeps : ∀ b, (f b).number = b.number) (l : List Booking)
    (h : s.NumbersUnique) : (forEach l (fun b => Machine.updBooking b.number f) s).NumbersUnique := by
  induction l generalizing s with
  | nil => exact h
  | cons b l ih => exact ih (NumbersUnique.updBooking h keeps)

theorem NumbersUnique.congr (h : s.NumbersUnique) (e : t.bookings = s.bookings) : t.NumbersUnique := by
  unfold State.NumbersUnique
  rw [e]
  exact h

theorem NumbersUnique.lockout (h : s.NumbersUnique) (c : Slot) : (lockoutBookings c s).NumbersUnique := by
  have running : (endRunning c s).NumbersUnique := by
    unfold endRunning
    split
    · rename_i n _
      have bookings := (releasedBookings n allZones (withdrawBooking n s)).trans (withdrawnBookings n s)
      rw [endSteps_eq]
      generalize forgetLosses n _ = v at bookings
      exact NumbersUnique.updBooking (f := Booking.endsAs _ _) (NumbersUnique.congr h bookings) fun _ => rfl
    · exact h
  have interrupted : (endInterrupted c (endRunning c s)).NumbersUnique := by
    unfold endInterrupted
    split
    · rename_i x _
      obtain ⟨s1, before, bookings⟩ := cancelInterrupted_bookings x .lockout (endRunning c s)
      exact NumbersUnique.congr (NumbersUnique.forEach (f := Booking.returnsNot) (fun _ => rfl) _
        (NumbersUnique.updBooking (f := x.cancelledAs .lockout) (NumbersUnique.congr running before) fun _ => rfl)) bookings
    · exact running
  rw [lockoutBookings_eq]
  have idled : (updChannel c Channel.idled (endInterrupted c (endRunning c s))).NumbersUnique :=
    NumbersUnique.congr interrupted (updChannel_bookings ..)
  generalize updChannel c Channel.idled _ = v at idled
  rw [holdBack_eq]
  exact NumbersUnique.forEach (f := Booking.pends) (fun _ => rfl) _ idled

end
end Sys2Proof.Machine
end

section
/-! The statement O45: ESTOP, a cause that locks a crane out, and the order of the keys it marks. -/

namespace Sys2Proof.Machine

section
variable {s t u v : State} {c d : Slot} {cause : FaultCause} {cell : Option CellPos}

/-! ## The crane that is locked out -/

theorem setRecovery_off (h : (s.engine c).recovery = false) : setRecovery c false s = s :=
  if_pos (by rw [h]; rfl)

theorem setRecovery_on (h : (s.engine c).recovery = true) : setRecovery c false s = mark (.crane c)
    ((updEngine c (fun e => { e with recovery := false }) s).putCrane c { s.crane c with check := none }) :=
  if_neg (by rw [h]; decide)

/-- Clearing the recovery flag makes the latest recovery check absent when the flag was set. -/
theorem setRecovery_crane (c d : Slot) (s : State) : (setRecovery c false s).crane d =
    if c = d then { s.crane c with check := if (s.engine c).recovery = true then none else (s.crane c).check }
    else s.crane d := by
  cases recovery : (s.engine c).recovery with
  | false =>
    rw [setRecovery_off recovery]
    split
    · rename_i same
      subst same
      rfl
    · rfl
  | true =>
    rw [setRecovery_on recovery]
    exact State.putCrane_crane ..

theorem setRecovery_engine (c : Slot) (s : State) : ((setRecovery c false s).engine c).recovery = false := by
  cases recovery : (s.engine c).recovery with
  | false => rw [setRecovery_off recovery, recovery]
  | true =>
    rw [setRecovery_on recovery]
    show ((updEngine c (fun e => { e with recovery := false }) s).engine c).recovery = _
    rw [updEngine_engine, if_pos rfl]

/-- Clearing the recovery flag leaves what is not of Crane State or the engine. -/
theorem setRecovery_leaves (c : Slot) (s : State) : (setRecovery c false s).links = s.links ∧
    (setRecovery c false s).channels = s.channels ∧ (setRecovery c false s).bookings = s.bookings ∧
    (setRecovery c false s).arb = s.arb := by
  unfold setRecovery
  split
  · exact ⟨rfl, rfl, rfl, rfl⟩
  · exact ⟨rfl, rfl, rfl, rfl⟩

/-- A crane that an escalating cause has put in LOCKOUT, its recovery check apart (R169). -/
def CraneStatus.locked (x : CraneStatus) (k : FaultContext) (now : Ms) : CraneStatus :=
  { x with
    lockoutContext := some k, faultContext := x.faultContext.map (·.endIn .escalated now), state := .lockout, fault := none }

/-- The state in which the bookings of the crane are ended. -/
@[irreducible] def State.escalating (s : State) (c : Slot) (cause : FaultCause) (cell : Option CellPos) : State :=
  setRecovery c false (modCrane c (fun x => x.locked (s.newContext c cause cell) s.now) s)

/-- The bookings and the entries of a crane in LOCKOUT end, and CRANE(c) is marked last. -/
def lockOut (c : Slot) (s : State) : State := mark (.crane c) (withdrawCrane c (lockoutBookings c s))

theorem escalate_eq (c : Slot) (cause : FaultCause) (cell : Option CellPos) (s : State) :
    escalate c cause cell s = lockOut c (s.escalating c cause cell) := by
  unfold State.escalating
  rfl

/-- The crane, the recovery flag and what is left alone as the bookings of the crane are ended. -/
theorem escalating_records (c : Slot) (cause : FaultCause) (cell : Option CellPos) (s : State) :
    (∀ d, (s.escalating c cause cell).crane d = if c = d then
      { (s.crane c).locked (s.newContext c cause cell) s.now with
        check := if (s.engine c).recovery = true then none else (s.crane c).check }
      else s.crane d) ∧
    ((s.escalating c cause cell).engine c).recovery = false ∧ (s.escalating c cause cell).links = s.links ∧
    (s.escalating c cause cell).channels = s.channels ∧ (s.escalating c cause cell).bookings = s.bookings ∧
    (s.escalating c cause cell).arb = s.arb := by
  unfold State.escalating
  refine ⟨fun d => ?_, setRecovery_engine c _, setRecovery_leaves c _⟩
  rw [setRecovery_crane]
  by_cases e : c = d
  · rw [if_pos e, if_pos e, modCrane_crane, if_pos rfl]
    rfl
  · rw [if_neg e, if_neg e, modCrane_crane, if_neg e]

/-- What the end of a crane's bookings and entries does to its records. -/
theorem lockOut_records (c : Slot) (s : State) : (lockOut c s).links = s.links ∧
    (lockOut c s).bookings = (lockoutBookings c s).bookings ∧ (lockOut c s).status = s.status ∧
    ((lockOut c s).engine c).recovery = (s.engine c).recovery ∧ ((lockOut c s).engine c).transit = [] ∧
    ((lockOut c s).channel c).state = .idle ∧ ((lockOut c s).channel c).reasons = (s.channel c).reasons := by
  have work := lockoutBookings_ending c s
  have idle := lockoutBookings_idle c s
  unfold lockOut
  generalize lockoutBookings c s = l at work idle
  have withdrawn := withdrawCrane_arbiter c l
  have all := withdrawCrane_ending c work
  have transit := withdrawCrane_transit c l
  generalize withdrawCrane c l = t at withdrawn all transit
  refine ⟨all.ending_links, withdrawn.arbiter_bookings, all.ending_status, all.ending_recovery c, transit, ?_,
    all.ending_reasons c⟩
  show (t.channel c).state = _
  unfold Channel.state
  rw [(withdrawn.arbiter_told c).1, idle]
  rfl

/-- With no such booking and no waiting claim the arbiter's records stay. -/
theorem lockOut_arb (free : (s.channel c).booking = none)
    (uninterrupted : ∀ b ∈ s.bookings, b.crane = c → b.state ≠ .interrupted) (h : s.WaitsNowhere c) :
    (lockOut c s).arb = s.arb := by
  have ended := (lockoutBookings_arb free uninterrupted).2
  unfold lockOut
  generalize lockoutBookings c s = l at ended
  have nowhere : l.WaitsNowhere c := by
    unfold State.WaitsNowhere State.storm
    rw [ended]
    exact h
  rw [withdrawCrane_nothing nowhere]
  exact ended

/-- The bookings of a crane that has been locked out, seen after the end of the event. -/
theorem lockOut_bookings (left : SameButPort (lockOut c s) t) (unique : s.NumbersUnique) :
    (∀ n, (s.channel c).booking = some n → t.EndedAs n .failed ⟨.lockout, some (s.channel c).step⟩) ∧
    (∀ x ∈ s.bookings, x.crane = c → x.state = .interrupted → (s.channel c).booking ≠ some x.number →
      (∀ y ∈ s.bookings, y.crane = c → y.state = .interrupted → y = x) →
      t.EndedAs x.number .cancelled ⟨.lockout, x.saved.map (·.step)⟩) ∧
    (∀ b ∈ s.bookings, b.crane = c → b.state = .ready → (s.channel c).booking ≠ some b.number →
      t.booking? b.number = some { b with state := .pending }) := by
  have table := (lockOut_records c s).2.1
  generalize lockOut c s = w at left table
  have from_ : ∀ b ∈ t.bookings, b ∈ (lockoutBookings c s).bookings := by
    rw [← table]
    exact left.bookingsFrom
  refine ⟨fun n booking => EndedIn.endedAs (lockoutBookings_current booking) from_, fun x mem own interrupted off only =>
    EndedIn.endedAs (lockoutBookings_interrupted unique mem own interrupted off only) from_, fun b mem own ready off => ?_⟩
  have pending := lockoutBookings_ready unique mem own ready off
  have once := NumbersUnique.lockout unique c
  generalize lockoutBookings c s = l at table from_ pending once
  obtain ⟨inside, -⟩ := booking?_some pending
  have only {e : Booking} (mem : e ∈ l.bookings) (number : e.number = b.number) : e = { b with state := .pending } :=
    List.inj_on_of_nodup_map once mem inside number
  have kept : ({ b with state := .pending } : Booking) ∈ t.bookings :=
    left.bookingsKept _ (by rw [table]; exact inside) fun e mem number => by
      rw [table] at mem
      rw [only mem number]
      rfl
  cases found : t.booking? b.number with
  | none => exact (booking?_none found kept rfl).elim
  | some e =>
    obtain ⟨mem, number⟩ := booking?_some found
    rw [only (from_ e mem) number]

/-- A crane that has been locked out, seen after the end of the event. -/
theorem escalate_lockedOut (left : SameButPort (escalate c cause cell s) t) (site : t.geo = s.geo ∧ t.clock = s.clock ∧
    t.plans = s.plans) : Parts.LockedOut c cause cell s t := by
  rw [escalate_eq] at left
  obtain ⟨crane, recovery, -, channels, bookings, arb⟩ := escalating_records c cause cell s
  generalize s.escalating c cause cell = r at left crane recovery channels bookings arb
  obtain ⟨-, -, status, recovery', transit, idle, reasons⟩ := lockOut_records c r
  have channel : r.channel c = s.channel c := congrArg (·.get c) channels
  have crane' (d : Slot) : t.crane d = r.crane d := (left.crane d).trans (congrArg (·.get d) status)
  refine ⟨?_, fun d other => ?_, by rw [left.engine, recovery', recovery], by rw [left.engine, transit],
    by rw [left.channel, idle], by rw [left.channel, reasons, channel], fun unique => ?_,
    fun free uninterrupted pool storm => ?_, site⟩
  · rw [crane', crane, if_pos rfl]
    rfl
  · rw [crane', crane, if_neg other.symm]
  · have ended := lockOut_bookings left (NumbersUnique.congr unique bookings)
    rw [channel, bookings] at ended
    exact ended
  · have nowhere : r.WaitsNowhere c := by
      unfold State.WaitsNowhere State.storm
      rw [arb]
      exact ⟨pool, storm⟩
    rw [left.arb, lockOut_arb (by rw [channel]; exact free) (by rw [bookings]; exact uninterrupted) nowhere, arb]

/-! ## Which causes escalate -/

/-- An INTRUSION of an unjoined crane is disregarded. -/
theorem raise_unjoined {f : ActiveFault} (state : (s.crane c).state = .fault) (fault : (s.crane c).fault = some f)
    (unjoined : f.unjoined = true) : raise c .intrusion cell s = s := by
  rw [raise_fault state fault]
  exact if_pos (by rw [unjoined]; rfl)

/-- A serious cause that differs from the active one escalates. -/
theorem raise_escalates {f : ActiveFault} (state : (s.crane c).state = .fault) (fault : (s.crane c).fault = some f)
    (grave : cause = .intrusion ∧ f.unjoined = false ∨ cause = .overload ∨ cause = .poseInvalid) (other : f.cause ≠ cause) :
    raise c cause cell s = escalate c cause cell s := by
  have differs : ¬ (cause == f.cause) = true := fun e => other (beq_iff_eq.mp e).symm
  rw [raise_fault state fault]
  unfold raiseInFault
  rcases grave with ⟨rfl, joined⟩ | rfl | rfl
  · rw [if_neg (by rw [joined]; decide), if_neg differs]
    rfl
  · rw [if_neg (by exact Bool.false_ne_true), if_neg differs]
    rfl
  · rw [if_neg (by exact Bool.false_ne_true), if_neg differs]
    rfl

/-- In LOCKOUT a serious cause changes no crane. -/
theorem raise_inLockout (state : (s.crane c).state = .lockout)
    (grave : cause = .intrusion ∨ cause = .overload ∨ cause = .poseInvalid) (d : Slot) :
    (raise c cause cell s).crane d = s.crane d := by
  rw [raise_lockout state, updCrane_crane]
  split
  · rename_i same
    subst same
    have flagged : ((s.crane c).lockoutContext.map (·.flagged cause)) = (s.crane c).lockoutContext := by
      have id_ : (FaultContext.flagged cause) = id := by rcases grave with rfl | rfl | rfl <;> rfl
      rw [id_, Option.map_id]
      rfl
    have engaged : ((s.crane c).eStop || cause == .eStop) = (s.crane c).eStop := by
      rcases grave with rfl | rfl | rfl <;> exact Bool.or_false _
    show CraneStatus.mk _ _ ((s.crane c).eStop || cause == .eStop) _ _ _ = _
    rw [flagged, engaged]
    rfl
  · rfl

/-- A link whose state stands is changed without a mark. -/
theorem updLink_unmarked {f : Link → Link} (h : (f (s.link c)).state = (s.link c).state) :
    updLink c f s = s.putLink c (f (s.link c)) := by
  unfold updLink
  rw [h, bne_self_eq_false]
  rfl

/-- The second invalid pose in a row locks out a crane in FAULT of another cause. -/
theorem poseInvalid_locksOut {r : CraneRecord} {f : ActiveFault} {p : PoseFrame} {q : Quantity} (on : s.power.on = true)
    (quiet : s.NoTake) (included : (s.slotOf c).excluded = false) (record : s.record? c = some r)
    (fresh : Parts.Fresh (s.link c) p) (judged : judgePose r s.now p = .invalid q) (streak : (s.link c).invalidStreak = 1)
    (state : (s.crane c).state = .fault) (fault : (s.crane c).fault = some f) (other : f.cause ≠ .poseInvalid) :
    ∃ t, exec (.poseReport c p) s = .next t ∧ Parts.LockedOut c .poseInvalid none s t ∧
      t.link c = { s.link c with invalidStreak := 2, lastInvalid := some q } := by
  have refused : updLink c (Link.refuses q) (nextEvent s) = (nextEvent s).putLink c ((s.link c).refuses q) :=
    updLink_unmarked rfl
  have taken : takePose c p (nextEvent s) = takeInvalid c q (nextEvent s) := takePose_invalid included record fresh judged
  have work := takeInvalid_work (c := c) q (nextEvent s)
  obtain ⟨t, next, left⟩ := event_work_leaves (A := .all) (i := .poseReport c p) (takePose c p) rfl on quiet
    (taken ▸ work)
  rw [taken] at left
  have site := site_of_work work left
  rw [takeInvalid_eq, if_pos (show ((nextEvent s).link c).invalidStreak = 1 from streak), refused,
    raise_escalates (s := (nextEvent s).putLink c _) (f := f) state fault (.inr (.inr rfl)) other] at left
  have context : ((nextEvent s).putLink c ((s.link c).refuses q)).newContext c .poseInvalid none =
      s.newContext c .poseInvalid none := by
    unfold State.newContext
    rw [State.putLink_link, if_pos rfl]
    rfl
  refine ⟨t, next, ?_, ?_⟩
  · have locked := escalate_lockedOut left site
    unfold Parts.LockedOut at locked ⊢
    rw [context] at locked
    exact locked
  · rw [left.link]
    rw [escalate_eq]
    have links := (lockOut_records c _).1.trans
      (escalating_records c .poseInvalid none ((nextEvent s).putLink c ((s.link c).refuses q))).2.2.1
    refine (congrArg (·.get c) links).trans ((State.putLink_link ..).trans ((if_pos rfl).trans ?_))
    unfold Link.refuses
    rw [streak]
    rfl

/-- A first fault leaves the other cranes alone. -/
theorem firstFault_otherCrane (cause : FaultCause) (cell : Option CellPos) (h : d ≠ c) :
    (firstFault c cause cell s).crane d = s.crane d := by
  unfold firstFault
  dsimp only
  generalize hm : modCrane c _ s = m
  have crane : m.crane d = s.crane d := by rw [← hm, modCrane_crane, if_neg h.symm]
  have added := addReason_arbiter c (fun r => { r with fault := true }) m
  generalize addReason c _ m = v at added
  have withdrawn := withdrawCrane_arbiter c v
  generalize withdrawCrane c v = t at withdrawn
  show t.status.get d = _
  rw [withdrawn.arbiter_status, added.arbiter_status, ← crane]
  exact congrArg (·.get d) (markIf_status ..)

theorem sameButPort_refl (s : State) : SameButPort s s := (SameBlocks.refl s).sameButPort

theorem escalationLocksOut_holds : Parts.EscalationLocksOut := by
  intro c s
  refine ⟨fun f cause cell state fault => ⟨raise_unjoined state fault, fun grave other => ?_⟩,
    fun r f p q on quiet included record fresh judged streak state fault other =>
      poseInvalid_locksOut on quiet included record fresh judged streak state fault other,
    fun cause cell state grave => raise_inLockout state grave, fun cause cell state => ?_⟩
  · rw [raise_escalates state fault grave other]
    have work : Work .all s (escalate c cause cell s) := escalate_work (all_judges s c) cause cell .refl
    exact escalate_lockedOut (sameButPort_refl _) ⟨work.geo, work.clock, work.plans⟩
  · rw [raise_first state.symm]
    obtain ⟨-, -, crane, reasons, transit⟩ := firstFault_effect c cause cell s
    exact ⟨crane, reasons, transit⟩

/-! ## ESTOP -/

theorem estop_event (c : Slot) (s : State) : exec (.estop c) s = event (takeEStop c) s := rfl

theorem takeEStop_heard (used : (s.link c).state ≠ .unused) (included : (s.slotOf c).excluded = false) :
    takeEStop c s = raise c .eStop none s := if_pos (hears_iff.mpr ⟨used, included⟩)

theorem takeEStop_deaf (h : (s.link c).state = .unused ∨ (s.slotOf c).excluded = true) : takeEStop c s = s :=
  if_neg (deaf_of h)

/-- A change of a crane's record but for its marks. -/
theorem SameBlocks.updCrane {f : CraneStatus → CraneStatus} {x : CraneStatus} (h : SameBlocks u v) (c : Slot)
    (e : f (v.crane c) = x) : SameBlocks (u.putCrane c x) (updCrane c f v) := by
  subst e
  refine SameBlocks.trans ?_ (markIf_sameBlocks _ _ (.refl _))
  exact { h with status := congrArg (putAt · c _) h.status }

theorem engagedBy_stop (x : CraneStatus) : x.engagedBy .eStop = { x with eStop := true } := by
  show CraneStatus.mk _ _ (x.eStop || true) _ _ _ = _
  rw [Bool.or_true]

theorem putCrane_putCrane (s : State) (c : Slot) (x y : CraneStatus) : (s.putCrane c x).putCrane c y = s.putCrane c y := by
  unfold State.putCrane
  rw [putAt_putAt]

theorem raiseInFault_ownStop {f : ActiveFault} (own : f.cause = .eStop) :
    raiseInFault c f .eStop none s = setCondition c false s := by
  unfold raiseInFault
  rw [own]
  rfl

theorem raiseInFault_otherStop {f : ActiveFault} (other : f.cause ≠ .eStop) : raiseInFault c f .eStop none s =
    Machine.updCrane c (fun x => { x with faultContext := x.faultContext.map (·.flagged .eStop) }) s :=
  (if_neg Bool.false_ne_true).trans (if_neg fun e => other (beq_iff_eq.mp e).symm)

/-- ESTOP of a crane in FAULT: of E_STOP, or of another cause. -/
theorem raise_eStop_inFault {f : ActiveFault} (state : (s.crane c).state = .fault) (fault : (s.crane c).fault = some f) :
    SameBlocks (s.putCrane c (if f.cause = .eStop
      then { s.crane c with eStop := true, fault := some { f with conditionMet := false } }
      else
        { s.crane c with
          eStop := true, faultContext := (s.crane c).faultContext.map fun x => { x with eStopFlag := true } }))
      (raise c .eStop none s) := by
  rw [raise_fault state fault]
  have engaged : SameBlocks (s.putCrane c { s.crane c with eStop := true }) (Machine.updCrane c (·.engagedBy .eStop) s) :=
    (SameBlocks.refl s).updCrane c (engagedBy_stop _)
  have crane : (Machine.updCrane c (·.engagedBy .eStop) s).crane c = { s.crane c with eStop := true } := by
    rw [updCrane_crane, if_pos rfl, engagedBy_stop]
  generalize Machine.updCrane c (·.engagedBy .eStop) s = v at engaged crane
  have again {g : CraneStatus → CraneStatus} {x : CraneStatus} (e : g { s.crane c with eStop := true } = x) :
      SameBlocks (s.putCrane c x) (Machine.updCrane c g v) := by
    have h := engaged.updCrane c (f := g) (x := x) (by rw [crane]; exact e)
    rwa [putCrane_putCrane] at h
  show SameBlocks _ (raiseInFault c f .eStop none v)
  by_cases own : f.cause = .eStop
  · rw [if_pos own, raiseInFault_ownStop own]
    refine again ?_
    dsimp only
    rw [fault]
    rfl
  · rw [if_neg own, raiseInFault_otherStop own]
    exact again rfl

theorem raise_eStop_inLockout (state : (s.crane c).state = .lockout) :
    SameBlocks (s.putCrane c
      { s.crane c with
        eStop := true, lockoutContext := (s.crane c).lockoutContext.map fun x => { x with eStopFlag := true } })
      (raise c .eStop none s) := by
  rw [raise_lockout state]
  refine (SameBlocks.refl s).updCrane c ?_
  rw [engagedBy_stop]
  rfl

theorem eStopReaches_holds : Parts.EStopReaches := by
  intro c s on quiet
  refine ⟨fun deaf => leaves_unchanged _ (estop_event c s) on quiet (takeEStop_deaf (s := nextEvent s) deaf),
    fun used included => ?_⟩
  have taken : takeEStop c (nextEvent s) = raise c .eStop none (nextEvent s) :=
    takeEStop_heard (s := nextEvent s) used included
  have worked {x : CraneStatus} (same : SameBlocks ((nextEvent s).putCrane c x) (raise c .eStop none (nextEvent s))) :
      Leaves (.estop c) s (s.putCrane c x) := by
    refine leaves_worked _ (estop_event c s) on quiet rfl rfl ?_
    rw [taken]
    exact { same with }
  refine ⟨fun state => ?_, fun f state fault => ?_, fun state => worked (raise_eStop_inLockout (s := nextEvent s) state)⟩
  · have first : raise c .eStop none (nextEvent s) = firstFault c .eStop none (nextEvent s) :=
      raise_first (s := nextEvent s) state
    have work : Work .all (nextEvent s) (takeEStop c (nextEvent s)) := by
      rw [taken]
      exact raise_work (all_judges _ c) _ _ (fun _ _ _ => trivial) .refl
    obtain ⟨t, next, left⟩ := event_work_leaves (A := .all) _ (estop_event c s) on quiet work
    have site := site_of_work work left
    rw [taken, first] at left
    obtain ⟨links, -, crane, reasons, transit⟩ := firstFault_effect c .eStop none (nextEvent s)
    refine ⟨t, next, ?_, by rw [left.channel, reasons]; rfl, by rw [left.engine, transit], fun d other => ?_,
      left.links.trans links, site⟩
    · rw [left.crane, crane]
      unfold CraneStatus.faulted
      rw [engagedBy_stop]
      rfl
    · rw [left.crane, firstFault_otherCrane _ _ other]
      rfl
  · have same := raise_eStop_inFault (s := nextEvent s) state fault
    refine ⟨fun own => worked ?_, fun other => worked ?_⟩
    · rw [if_pos own] at same
      exact same
    · rw [if_neg other] at same
      exact same

end
end Sys2Proof.Machine
end

section
/-! The statement O45, second part: the order of the keys that a change of operating state marks. -/

namespace Sys2Proof.Machine

section
variable {s t v : State} {c : Slot} {cause : FaultCause} {cell : Option CellPos}

/-! ## Keys -/

/-- A key that is not there yet is appended when nothing is masked. -/
theorem marked_appends {p : SitePort} {k : ReportKey} (unmasked : p.masks = []) (new : k ∉ p.reports) :
    p.marked k = { p with reports := p.reports ++ [k] } := by
  unfold SitePort.marked
  rw [if_neg]
  simp [unmasked, new]

theorem markIf_port (b : Bool) (k : ReportKey) (s : State) : (markIf b k s).port = if b then s.port.marked k else s.port := by
  cases b <;> rfl

/-- A port on whose report list neither CHANNEL(c) nor CRANE(c) stands, and which masks nothing. -/
structure SitePort.Unmarked (p : SitePort) (c : Slot) : Prop where
  unmasked : p.masks = []
  channel : .channel c ∉ p.reports
  crane : .crane c ∉ p.reports

theorem SitePort.Unmarked.crane_reports {p : SitePort} (h : p.Unmarked c) :
    (p.marked (.crane c)).reports = p.reports ++ [.crane c] := by
  rw [marked_appends h.unmasked h.crane]

theorem SitePort.Unmarked.both_reports {p : SitePort} (h : p.Unmarked c) :
    ((p.marked (.channel c)).marked (.crane c)).reports = p.reports ++ [.channel c, .crane c] := by
  rw [marked_appends h.unmasked h.channel,
    marked_appends (p := { p with reports := p.reports ++ [.channel c] }) h.unmasked (by simp [h.crane])]
  exact List.append_assoc ..

/-! ## The steps of a change of operating state -/

theorem updChannel_port (c : Slot) (f : Channel → Channel) (s : State) : (updChannel c f s).port =
    if (s.channel c).reportableChange (f (s.channel c)) then s.port.marked (.channel c) else s.port := markIf_port ..

/-- A change of the suspension set marks the channel. -/
theorem updChannel_reasons {f : Channel → Channel} (h : (f (s.channel c)).reasons ≠ (s.channel c).reasons) :
    (updChannel c f s).port = s.port.marked (.channel c) := by
  rw [updChannel_port]
  refine if_pos ?_
  unfold Channel.reportableChange
  simp [h.symm]

theorem updChannel_same {f : Channel → Channel} (h : f (s.channel c) = s.channel c) : (updChannel c f s).port = s.port := by
  rw [updChannel_port, h]
  refine if_neg ?_
  unfold Channel.reportableChange
  simp

/-- With no booking on the channel a reason is added to its record and nothing else. -/
theorem addReason_unbooked (f : Reasons → Reasons) (free : (s.channel c).booking = none) :
    addReason c f s = updChannel c (Channel.withReason f) s := by
  unfold addReason
  dsimp only
  rw [← updChannel_const c (Channel.withReason f)]
  generalize hv : updChannel c _ s = v
  rw [← updChannel_const] at hv
  generalize hw : updChannel c _ s = w
  have same : w = v := hw.symm.trans hv
  rw [same, free]
  split
  · exact if_neg Bool.false_ne_true
  · rfl

/-- A reason that leaves a channel without a booking does not make it run. -/
theorem removeReason_unbooked (f : Reasons → Reasons) (free : (s.channel c).booking = none) :
    removeReason c f s = updChannel c (fun ch => { ch with reasons := f ch.reasons }) s := by
  have idle : ((updChannel c (fun ch => { ch with reasons := f ch.reasons }) s).channel c).active = false := by
    rw [updChannel_channel, if_pos rfl]
    unfold Channel.active Channel.state
    dsimp only
    rw [free]
    rfl
  exact if_neg (by rw [idle]; exact Bool.false_ne_true)

theorem WaitsNowhere.congr (h : s.WaitsNowhere c) (arb : t.arb = s.arb) : t.WaitsNowhere c := by
  unfold State.WaitsNowhere State.storm
  rw [arb]
  exact h

/-- The first fault marks CHANNEL(c), and then CRANE(c). -/
theorem firstFault_port (free : (s.channel c).booking = none) (nowhere : s.WaitsNowhere c)
    (unsuspended : (s.channel c).reasons.fault = false) :
    (firstFault c cause cell s).port = (s.port.marked (.channel c)).marked (.crane c) := by
  unfold firstFault
  dsimp only
  generalize hm : modCrane c _ s = m
  have same : m.channel c = s.channel c ∧ m.arb = s.arb ∧ m.port = s.port := by
    rw [← hm]
    exact ⟨rfl, rfl, rfl⟩
  obtain ⟨channel, arb, port⟩ := same
  have added : (updChannel c (Channel.withReason fun r => { r with fault := true }) m).port = m.port.marked (.channel c) := by
    refine updChannel_reasons fun e => ?_
    have flag : true = (m.channel c).reasons.fault := congrArg Reasons.fault e
    rw [channel, unsuspended] at flag
    cases flag
  have kept : (updChannel c (Channel.withReason fun r => { r with fault := true }) m).arb = s.arb :=
    (markIf_arb ..).trans arb
  rw [addReason_unbooked _ (by rw [channel]; exact free)]
  generalize updChannel c _ m = v at added kept
  rw [withdrawCrane_nothing (WaitsNowhere.congr nowhere kept)]
  show v.port.marked (.crane c) = _
  rw [added, port]

/-- The FAULT reason leaves a channel without a booking: CHANNEL(c) is marked, and the booking table stays. -/
theorem removeFault_port (free : (s.channel c).booking = none) (suspended : (s.channel c).reasons.fault = true) :
    (removeReason c (fun r => { r with fault := false }) s).port = s.port.marked (.channel c) ∧
    (removeReason c (fun r => { r with fault := false }) s).bookings = s.bookings := by
  rw [removeReason_unbooked _ free]
  refine ⟨updChannel_reasons fun e => ?_, updChannel_bookings ..⟩
  have flag : false = (s.channel c).reasons.fault := congrArg Reasons.fault e
  rw [suspended] at flag
  cases flag

/-- A clear within a computation marks CHANNEL(c), and then CRANE(c). -/
theorem clearTheFault_port (way : EndWay) (free : (s.channel c).booking = none) (recovers : (s.engine c).recovery = false)
    (suspended : (s.channel c).reasons.fault = true) :
    (clearTheFault c way .computation s).port = (s.port.marked (.channel c)).marked (.crane c) := by
  unfold clearTheFault
  dsimp only
  generalize (!s.operate || _) = joining
  generalize hm : modCrane c _ s = m
  have same : m.channel c = s.channel c ∧ m.engine c = s.engine c ∧ m.port = s.port := by
    rw [← hm]
    exact ⟨rfl, rfl, rfl⟩
  obtain ⟨channel, engine, port⟩ := same
  rw [setRecovery_off (by rw [engine]; exact recovers)]
  have removed := (removeFault_port (s := m) (c := c) (by rw [channel]; exact free) (by rw [channel]; exact suspended)).1
  generalize removeReason c _ m = v at removed
  have last : (mark (.crane c) v).port = (s.port.marked (.channel c)).marked (.crane c) := by
    show v.port.marked _ = _
    rw [removed, port]
  rw [show (s.operate && (ClearPlace.computation != .computation)) = false from Bool.and_false _]
  cases joining
  · exact last
  · exact last

/-- Sending marks nothing. -/
theorem updLink_port {f : Link → Link} (h : (f (s.link c)).state = (s.link c).state) : (updLink c f s).port = s.port := by
  rw [updLink_unmarked h]
  rfl

/-- The link-made frame marks nothing. -/
theorem placeLinkMade_port (c : Slot) (s : State) : (placeLinkMade c s).port = s.port := by
  unfold placeLinkMade
  split
  · rename_i r _
    unfold placeFrame
    have placed := updLink_port (s := s) (c := c) (f := fun l =>
      { l with
        generation := (l.generation + 1) % 256, slot := some ⟨(l.generation + 1) % 256, linkMadeFrame s.geo.mode r⟩
        inForce := some ⟨false, (linkMadeFrame s.geo.mode r).mode⟩ }) rfl
    have slot : ((updLink c (fun l =>
      { l with
        generation := (l.generation + 1) % 256, slot := some ⟨(l.generation + 1) % 256, linkMadeFrame s.geo.mode r⟩
        inForce := some ⟨false, (linkMadeFrame s.geo.mode r).mode⟩ }) s).link c).slot =
      some ⟨((s.link c).generation + 1) % 256, linkMadeFrame s.geo.mode r⟩ := by rw [updLink_link, if_pos rfl]
    dsimp only
    generalize updLink c _ s = v at placed slot
    rw [← placed]
    by_cases busy : (v.link c).tx ≠ none ∨ v.power.lowFor ≠ none
    · rw [kickCab_busy busy]
    · obtain ⟨tx, high⟩ := not_or.mp busy
      rw [kickCab_limit (not_not.mp tx) (not_not.mp high) slot]
      exact updLink_port rfl
  · rfl

/-- A crane without bookings has none to let forward. -/
theorem letForward_none (h : ∀ b ∈ s.bookings, b.crane ≠ c) : letForward c s = s := by
  have none : s.bookingsOf c = [] :=
    List.filter_eq_nil_iff.mpr fun b mem own => h b mem (beq_iff_eq.mp own)
  unfold letForward
  rw [none]
  rfl

/-- The leaving of LOCKOUT marks CHANNEL(c), and then CRANE(c). -/
theorem leaveLockout_port (free : (s.channel c).booking = none) (recovers : (s.engine c).recovery = false)
    (unbooked : ∀ b ∈ s.bookings, b.crane ≠ c) (suspended : (s.channel c).reasons.fault = true) :
    (leaveLockout c s).port = (s.port.marked (.channel c)).marked (.crane c) := by
  unfold leaveLockout
  dsimp only
  generalize hm : modCrane c _ s = m
  have same : m.channel c = s.channel c ∧ m.engine c = s.engine c ∧ m.port = s.port ∧ m.bookings = s.bookings := by
    rw [← hm]
    exact ⟨rfl, rfl, rfl, rfl⟩
  obtain ⟨channel, engine, port, bookings⟩ := same
  rw [setRecovery_off (by rw [engine]; exact recovers)]
  obtain ⟨removed, kept⟩ :=
    removeFault_port (s := m) (c := c) (by rw [channel]; exact free) (by rw [channel]; exact suspended)
  generalize removeReason c _ m = v at removed kept
  rw [letForward_none (by rw [kept, bookings]; exact unbooked)]
  show (placeLinkMade c v).port.marked (.crane c) = _
  rw [placeLinkMade_port, removed, port]

/-- An escalation of a crane without bookings, whose channel stands as an IDLE one does, marks CRANE(c) alone. -/
theorem lockOut_port (free : (s.channel c).booking = none) (nowhere : s.WaitsNowhere c)
    (unbooked : ∀ b ∈ s.bookings, b.crane ≠ c) (idled : (s.channel c).idled = s.channel c) :
    (lockOut c s).port = s.port.marked (.crane c) := by
  have ended := (lockoutBookings_arb free fun b mem own => absurd own (unbooked b mem)).1
  have channel := updChannel_same (s := s) (c := c) idled
  have bookings := updChannel_bookings c Channel.idled s
  have arb : (updChannel c Channel.idled s).arb = s.arb := markIf_arb ..
  unfold lockOut
  rw [ended]
  generalize updChannel c Channel.idled s = v at channel bookings arb
  have none : v.bookingsOf c = [] :=
    List.filter_eq_nil_iff.mpr fun b mem own => unbooked b (bookings ▸ mem) (beq_iff_eq.mp own)
  have held : holdBack c v = v := by
    unfold holdBack
    rw [none]
    rfl
  rw [held, withdrawCrane_nothing (WaitsNowhere.congr nowhere arb)]
  show v.port.marked (.crane c) = _
  rw [channel]

theorem craneIsMarkedLast_holds : Parts.CraneIsMarkedLast := by
  intro c s free recovers _ pool storm unbooked unmasked noChannel noCrane
  have unmarked : s.port.Unmarked c := ⟨unmasked, noChannel, noCrane⟩
  have nowhere : s.WaitsNowhere c := ⟨fun r mem _ => pool r mem, storm⟩
  refine ⟨fun cause cell state unsuspended => ?_, fun suspended => ⟨fun way => ?_, ?_⟩,
    fun f cause cell state fault grave other idled => ?_⟩
  · rw [raise_first state.symm, firstFault_port free nowhere unsuspended, unmarked.both_reports]
  · rw [clearTheFault_port way free recovers suspended, unmarked.both_reports]
  · rw [leaveLockout_port free recovers unbooked suspended, unmarked.both_reports]
  · have port : (s.escalating c cause cell).port = s.port := by
      unfold State.escalating
      rw [setRecovery_off (by exact recovers)]
      rfl
    obtain ⟨-, -, -, channels, bookings, arb⟩ := escalating_records c cause cell s
    rw [raise_escalates state fault (.inr grave) other, escalate_eq]
    generalize s.escalating c cause cell = r at port channels bookings arb
    have channel : r.channel c = s.channel c := congrArg (·.get c) channels
    rw [lockOut_port (by rw [channel]; exact free) (WaitsNowhere.congr nowhere arb) (by rw [bookings]; exact unbooked)
      (by rw [channel]; exact idled), port, unmarked.crane_reports]

end

/-- Settles O45: a raised cause is followed by the crane's operating state; an escalation through the end of the bookings and
the withdrawal that follow it, and the marks step by step. -/
theorem eStopIsRaised : Obligations.EStopIsRaised :=
  ⟨eStopReaches_holds, escalationLocksOut_holds, craneIsMarkedLast_holds⟩

end Sys2Proof.Machine
end
